-- ==== Sys2Proof/Word.lean ====
section
/-!
DEFINITION. The plain data every other file speaks of: bytes, part-clock instants, parcel numbers, the three
links, the six discrete inputs and the four strap pins. Nothing here computes.
-/

namespace Sys2Proof

/-- One byte as a link carries it (R191). -/
abbrev Byte := BitVec 8

/-- A 16-bit word: the unit of the check word (R175) and of the frame CRC (R192). -/
abbrev Word16 := BitVec 16

/-- A value of the part clock: tenths of a second since the last reset, 32 bits, differences taken modulo
2^32 (R204). -/
abbrev Instant := BitVec 32

/-- A parcel record of the Parcel Table. The manual numbers the records 1 to 4 (R1); here record `n` is `n - 1`. -/
abbrev ParcelNo := Fin 4

/-- The three links (00_scope.md, R190). -/
inductive Link where
  | ship | shore | survey
  deriving DecidableEq, Repr, Inhabited

/-- The six discrete inputs of 12_discrete_lines_and_lamps.md, section 12.2: ESD, MV1 to MV4 (`mv n` is
MV(n+1)) and SPARE. -/
inductive InputName where
  | esd
  | mv (n : ParcelNo)
  | spare
  deriving DecidableEq, Repr, Inhabited

/-- The four strap pins of R206; `true` is "tied to the strap common", `false` is open. -/
structure Straps where
  esdPol : Bool
  baudShip : Bool
  baudShore : Bool
  baudSurvey : Bool
  deriving DecidableEq, Repr, Inhabited

end Sys2Proof
end

