-- ==== Sys2Proof/Syntax.lean ====
section
/-!
DEFINITION. The commands of the HF412: one constructor per row of spec/opcode_table.json, with the operands that
reach the part from outside. The 37 requests carry the link they arrive on, the TAG of their frame and the
PAYLOAD bytes of their frame (R192, R197); a timer or lamp event carries its parcel; a link event its link; a
discrete event its input.
-/

namespace Sys2Proof

/-- A command the HF412 takes. Rows in the order of spec/opcode_table.json. -/
inductive Instr where
  /-- POWER_ON (R204): power is applied; the operand is what the strap pins read then (R206). -/
  | powerOn (straps : Straps)
  /-- RESET_LINE (R204): the reset line is asserted while power stands; the operand is what the strap pins read then. -/
  | resetLine (straps : Straps)
  /-- STARTUP_VERIFICATION_COMPLETE (R186). -/
  | startupVerificationComplete
  /-- DECLARE (R3). -/
  | declare (link : Link) (tag : Byte) (payload : List Byte)
  /-- SET_PARAMETER (R5). -/
  | setParameter (link : Link) (tag : Byte) (payload : List Byte)
  /-- ASSIGN_TANK (R7). -/
  | assignTank (link : Link) (tag : Byte) (payload : List Byte)
  /-- UNASSIGN_TANK (R8). -/
  | unassignTank (link : Link) (tag : Byte) (payload : List Byte)
  /-- ASSIGN_METER (R7). -/
  | assignMeter (link : Link) (tag : Byte) (payload : List Byte)
  /-- UNASSIGN_METER (R8). -/
  | unassignMeter (link : Link) (tag : Byte) (payload : List Byte)
  /-- OFFER_BASIS (R30, R31). -/
  | offerBasis (link : Link) (tag : Byte) (payload : List Byte)
  /-- OPEN (R39). -/
  | openParcel (link : Link) (tag : Byte) (payload : List Byte)
  /-- JOB_START (R102): the arbiter starts a waiting job on an idle engine. -/
  | jobStart
  /-- OPEN_DONE (R10): the running OPEN job completes without a cause of R40. -/
  | openDone
  /-- OPEN_FAILED (R42): the running OPEN job completes with a cause of R40. -/
  | openFailed
  /-- SUSPEND (R11). -/
  | suspend (link : Link) (tag : Byte) (payload : List Byte)
  /-- RESUME (R11). -/
  | resume (link : Link) (tag : Byte) (payload : List Byte)
  /-- CLOSE (R18). -/
  | close (link : Link) (tag : Byte) (payload : List Byte)
  /-- CANCEL_CLOSE (R19). -/
  | cancelClose (link : Link) (tag : Byte) (payload : List Byte)
  /-- SETTLED_BY_TIME (R19): the settle mark of the parcel's no-flow timer is reached. -/
  | settledByTime (parcel : ParcelNo)
  /-- RESTORED_BY_TIME (R122): the restore mark of the parcel's no-flow timer is reached. -/
  | restoredByTime (parcel : ParcelNo)
  /-- CYCLE_TIMER_EXPIRY (R111). -/
  | cycleTimerExpiry (parcel : ParcelNo)
  /-- CYCLE_COMPLETE (R106): the running CYCLE job completes. -/
  | cycleComplete
  /-- PULSE_END (R212): the 100 ms of the parcel's lamp PULSE end. -/
  | pulseEnd (parcel : ParcelNo)
  /-- CLOSE_DONE (R141): the running CLOSE job completes with its figures. -/
  | closeDone
  /-- CLOSE_FAILED (R143): the running CLOSE job completes without figures. -/
  | closeFailed
  /-- REGAUGE (R149). -/
  | regauge (link : Link) (tag : Byte) (payload : List Byte)
  /-- SET_LINE_ADJUST (R135). -/
  | setLineAdjust (link : Link) (tag : Byte) (payload : List Byte)
  /-- ACCEPT (R145). -/
  | accept (link : Link) (tag : Byte) (payload : List Byte)
  /-- WITNESS (R146). -/
  | witness (link : Link) (tag : Byte) (payload : List Byte)
  /-- DISPUTE (R148). -/
  | dispute (link : Link) (tag : Byte) (payload : List Byte)
  /-- ACCEPT_TIMEOUT (R144). -/
  | acceptTimeout (parcel : ParcelNo)
  /-- ABORT (R22). -/
  | abort (link : Link) (tag : Byte) (payload : List Byte)
  /-- RESTORE_GRADE (R123). -/
  | restoreGrade (link : Link) (tag : Byte) (payload : List Byte)
  /-- RELEASE (R24). -/
  | release (link : Link) (tag : Byte) (payload : List Byte)
  /-- ABANDON (R21). -/
  | abandon (link : Link) (tag : Byte) (payload : List Byte)
  /-- READ_PARCEL (R1, R200). -/
  | readParcel (link : Link) (tag : Byte) (payload : List Byte)
  /-- TANK_READING (R45). -/
  | tankReading (link : Link) (tag : Byte) (payload : List Byte)
  /-- ATTITUDE_READING (R45, R51). -/
  | attitudeReading (link : Link) (tag : Byte) (payload : List Byte)
  /-- METER_READING (R45). -/
  | meterReading (link : Link) (tag : Byte) (payload : List Byte)
  /-- TABLE_BEGIN (R177). -/
  | tableBegin (link : Link) (tag : Byte) (payload : List Byte)
  /-- TABLE_DATA (R178). -/
  | tableData (link : Link) (tag : Byte) (payload : List Byte)
  /-- TABLE_COMMIT (R179). -/
  | tableCommit (link : Link) (tag : Byte) (payload : List Byte)
  /-- READ_TABLE (R185). -/
  | readTable (link : Link) (tag : Byte) (payload : List Byte)
  /-- LOCK_TABLE (R176). -/
  | lockTable (link : Link) (tag : Byte) (payload : List Byte)
  /-- UNLOCK_TABLE (R176). -/
  | unlockTable (link : Link) (tag : Byte) (payload : List Byte)
  /-- VERIFY_STORE (R187). -/
  | verifyStore (link : Link) (tag : Byte) (payload : List Byte)
  /-- VERIFY_PASS_START (R187). -/
  | verifyPassStart
  /-- VERIFY_COMPLETE (R187). -/
  | verifyComplete
  /-- CLEAR_HISTORY (R170). -/
  | clearHistory (link : Link) (tag : Byte) (payload : List Byte)
  /-- READ_RECORD (R157). -/
  | readRecord (link : Link) (tag : Byte) (payload : List Byte)
  /-- STATUS (R203). -/
  | status (link : Link) (tag : Byte) (payload : List Byte)
  /-- SILENCE_ALARM (R210). -/
  | silenceAlarm (link : Link) (tag : Byte) (payload : List Byte)
  /-- SET_CALENDAR (R205). -/
  | setCalendar (link : Link) (tag : Byte) (payload : List Byte)
  /-- UNKNOWN_REQUEST (R195): a complete frame whose KIND is not a request code. -/
  | unknownRequest (link : Link) (kind tag : Byte) (payload : List Byte)
  /-- FRAME_DISCARD (R193): a received frame has a bad LEN or a failed CRC. -/
  | frameDiscard (link : Link)
  /-- INTER_BYTE_GAP (R193): more than 20 ms have passed since the last byte of a frame. -/
  | interByteGap (link : Link)
  /-- RESPONSE_LIST_FULL_DISCARD (R193): a complete frame arrives while 8 responses wait. -/
  | responseListFullDiscard (link : Link)
  /-- FRAME_SENT (R199): the link's transmitter finishes a frame. -/
  | frameSent (link : Link)
  /-- LINK_BREAK (R194): the receive pair has been held at spacing for 200 ms. -/
  | linkBreak (link : Link)
  /-- LINK_BREAK_END (R194): the receive pair leaves the spacing level. -/
  | linkBreakEnd (link : Link)
  /-- LOOP_LEVEL_CHANGE (R207): an input's loop current is now `microamps`. -/
  | loopLevelChange (input : InputName) (microamps : Nat)
  /-- INPUT_CHANGE (R208): the input's loop has stood at the other level for 50 ms. -/
  | inputChange (input : InputName)
  /-- WRITE_START (R183): the idle write unit takes the oldest queue entry. -/
  | writeStart
  /-- BLOCK_WRITE_DONE (R183): a block is written and read back; the operand says whether it compares equal. -/
  | blockWriteDone (equal : Bool)
  /-- BYTE_RECEIVED (R193): a byte arrives on the link's receive pair. -/
  | byteReceived (link : Link) (byte : Byte)
  deriving DecidableEq, Repr

end Sys2Proof
end

