-- ==== Sys2Proof/Decode.lean ====
section
/-!
DEFINITION. The command a word spells by the bits of spec/opcode_table.json. No row of that table gives bits, so no word
spells a command; what reaches the part as bytes is read by the framer (Machine/Links.lean, BYTE_RECEIVED).
-/

namespace Sys2Proof

/-- The command that `w`, of `nbits` bits, spells by the table's bits: none, as no row gives any. -/
def decodeTableWord (_nbits _w : Nat) : Option Instr := none

end Sys2Proof
end

