-- ==== Sys2Proof/Config.lean ====
section
/-!
DEFINITION. What the manual leaves to the implementation, as constants without a body: nothing in Lean can
evaluate them or prove a value of them, so a statement about the model holds whatever they are.
-/

namespace Sys2Proof.Config

/-- The length in blocks of a transfer-record or checkpoint image, for the n-th such image the part writes.
Section 10.1 gives only the largest (12 and 16 blocks) and section 10.2 says that these images "have no loaded
layout"; `Machine.freeBlocks` brings the value into that range. FREE VALUE, assumption 1. -/
opaque imageLength : Nat → BitVec 8

/-- The sum modulo 65,536 of the 16-bit words of the n-th transfer-record or checkpoint image the part writes
(R175): its layout is not given, so neither is the sum. FREE VALUE, assumption 1. -/
opaque imageWordSum : Nat → Word16

end Sys2Proof.Config
end

