-- ==== Sys2Proof/Machine/State.lean ====
section
/-!
DEFINITION. Everything the HF412 holds, as plain data: the parcel records, the 25 sources, the engine, the table
store, the experience factors, the discrete lines, the three link controllers, the part clock, and the queue of
commands that wait. `State.reset` is the part right after a power-on reset with an empty store, as delivered.
Every behaviour stands in the other files of this folder.
-/

namespace Sys2Proof.Machine

/-! ### Chapter 1 and 2: parcels and basis -/

/-- The ten parcel states of section 1.2, in its order. -/
inductive ParcelState where
  | free | declared | basisAgreed | opening | transferring | suspended | closing | awaitingAccept | closed
  | disputed
  deriving DecidableEq, Repr, Inhabited

/-- A parcel's direction (00_scope.md, R3). -/
inductive Direction where
  | load | discharge
  deriving DecidableEq, Repr, Inhabited

/-- The volume-correction methods (section 2.1). -/
inductive Method where
  | tab | quad | lin
  deriving DecidableEq, Repr, Inhabited

/-- The mass bases (section 2.1, R82). -/
inductive MassBasis where
  | vac | air
  deriving DecidableEq, Repr, Inhabited

/-- The free-water modes (section 2.1, R70). -/
inductive FreeWaterMode where
  | measured | none
  deriving DecidableEq, Repr, Inhabited

/-- The pressure modes (section 2.1, R92). -/
inductive PressureMode where
  | on | off
  deriving DecidableEq, Repr, Inhabited

/-- A subset of {SHIP, SHORE}: the open set, restart-resume set, close reservation and release set of section 1.1. -/
structure PartySet where
  ship : Bool
  shore : Bool
  deriving DecidableEq, Repr, Inhabited

/-- A subset of {SHIP, SHORE, ESD, RESTART}: the suspend set of section 1.1. -/
structure SuspendSet where
  ship : Bool
  shore : Bool
  esd : Bool
  restart : Bool
  deriving DecidableEq, Repr, Inhabited

/-- A subset of {SHIP, SHORE, SURVEY}: the acceptance set and the required set of section 8.1. -/
structure AcceptSet where
  ship : Bool
  shore : Bool
  survey : Bool
  deriving DecidableEq, Repr, Inhabited

/-- What DECLARE fixes for the life of a parcel (R3). -/
structure Declaration where
  direction : Direction
  label : List Byte
  witnessed : Bool
  declaring : Link
  deriving DecidableEq, Repr, Inhabited

/-- The thirteen parameters of section 1.3, in its order, each in the unit it is held in (seconds are held as
tenths). -/
structure Params where
  tolerance : Nat
  floor : Nat
  cyclePeriod : Nat
  staleness : Nat
  confirmCount : Nat
  clearCount : Nat
  downshiftN : Nat
  restoreTime : Nat
  settleTime : Nat
  flowThreshold : Nat
  acceptWindow : Nat
  checkpointInterval : Nat
  valveInput : Nat
  deriving DecidableEq, Repr, Inhabited

/-- The part of a basis offer that both parties send (section 2.1). -/
structure CommonOffer where
  tab : Bool
  quad : Bool
  lin : Bool
  tableId : Option Nat
  alpha : Nat
  refTemp : Int
  vac : Bool
  air : Bool
  density : Nat
  deriving DecidableEq, Repr, Inhabited

/-- The ship offer (section 2.1). -/
structure ShipOffer where
  common : CommonOffer
  freeWater : FreeWaterMode
  deriving DecidableEq, Repr, Inhabited

/-- The shore offer (section 2.1); `compress` is F. -/
structure ShoreOffer where
  common : CommonOffer
  pressure : PressureMode
  compress : Nat
  deriving DecidableEq, Repr, Inhabited

/-- The resolved basis of R35. -/
structure Basis where
  method : Method
  tableId : Option Nat
  alpha : Option Nat
  refTemp : Int
  density : Nat
  massBasis : MassBasis
  freeWater : FreeWaterMode
  pressure : PressureMode
  compress : Nat
  tabFallback : Bool
  deriving DecidableEq, Repr, Inhabited

/-- Why a resolution failed (R32), in the order of R37. -/
inductive ResolveFailure where
  | refMismatch | densityMismatch | massBasis | noCommonMethod | tableInvalid
  deriving DecidableEq, Repr, Inhabited

/-- The causes of a DISPUTED outcome (section 1.1). -/
inductive DisputeCause where
  | partyShip | partyShore | timeout | aborted
  deriving DecidableEq, Repr, Inhabited

/-- The state a parcel left when its close executed (section 1.1). -/
inductive ClosedFrom where
  | transferring | suspended
  deriving DecidableEq, Repr, Inhabited

/-! ### Chapter 3: sources -/

/-- The values in force of a tank channel after its last accepted observation (sections 3.1, 3.2; R48). -/
structure TankReading where
  ullage : Option Nat
  temp : Option Int
  dip : Nat
  arrival : Instant
  deriving DecidableEq, Repr, Inhabited

/-- A ring entry of a tank channel (R54); REVERSE is a meter's alone and stays clear. -/
structure TankEntry where
  reading : TankReading
  held : Bool
  deriving DecidableEq, Repr, Inhabited

/-- The record of a tank channel (section 3.1). "Ever read" is `latest` being present; `depth` is 0 while unassigned. -/
structure TankSource where
  owner : Option ParcelNo
  depth : Nat
  latest : Option TankReading
  held : Bool
  heldCount : Nat
  suspect : Bool
  ring : List TankEntry
  deriving DecidableEq, Repr, Inhabited

/-- An attitude reading (section 3.2). -/
structure AttReading where
  trim : Int
  list : Int
  arrival : Instant
  deriving DecidableEq, Repr, Inhabited

/-- The attitude source ATT (R51): it has no owner, is never held, and its ring of two is its own. -/
structure AttSource where
  latest : Option AttReading
  ring : List AttReading
  deriving DecidableEq, Repr, Inhabited

/-- The values in force of a meter run after its last accepted observation (sections 3.1, 3.2; R48, R50). -/
structure MeterReading where
  total : Option Nat
  temp : Option Int
  pressure : Option Nat
  arrival : Instant
  deriving DecidableEq, Repr, Inhabited

/-- A ring entry of a meter run (R54). -/
structure MeterEntry where
  reading : MeterReading
  held : Bool
  reverse : Bool
  deriving DecidableEq, Repr, Inhabited

/-- Where a meter stands in a hold on a backward step (R50): `none`, none is in force; `holding`, its last total that was
not the sentinel stepped backward and the earlier one is kept; `ended`, the meter was reassigned during such a hold, and its
next total that is not the sentinel is taken as given (assumption 18). -/
inductive StepHold where
  | none | holding | ended
  deriving DecidableEq, Repr, Inhabited

/-- What assigning a meter does to a hold on a backward step: R50 lets the hold last until the source is reassigned. -/
def StepHold.reassigned : StepHold → StepHold
  | .none => .none
  | .holding => .ended
  | .ended => .ended

/-- The record of a meter run (section 3.1). -/
structure MeterSource where
  owner : Option ParcelNo
  depth : Nat
  latest : Option MeterReading
  held : Bool
  reverse : Bool
  heldCount : Nat
  suspect : Bool
  ring : List MeterEntry
  rate : Option Nat
  stepHold : StepHold
  deriving DecidableEq, Repr, Inhabited

/-- The freshness of a source, worked out and never stored (R52). -/
inductive Freshness where
  | never | fresh | stale
  deriving DecidableEq, Repr, Inhabited

/-- One of the 25 sources by name (section 3.1). -/
inductive SourceName where
  | tank (n : Nat)
  | att
  | meter (n : Nat)
  deriving DecidableEq, Repr, Inhabited

/-! ### Chapters 4 and 5: figure records -/

/-- The flags of a tank figure record (R66), in its order. -/
structure TankFlags where
  trimLimit : Bool
  listLimit : Bool
  clamped : Bool
  waterLimit : Bool
  fwCapped : Bool
  expLimit : Bool
  vcfLimit : Bool
  noReading : Bool
  noUllage : Bool
  noTemp : Bool
  noAttitude : Bool
  table : Bool
  deriving DecidableEq, Repr, Inhabited

/-- A tank figure record (R66). `ct`, `cl` and `uc` are absent where the steps that find them are not performed. -/
structure TankFigure where
  tank : Nat
  instant : Option Instant
  ullage : Option Nat
  temp : Option Int
  dip : Option Nat
  att : Option AttReading
  ct : Option Int
  cl : Option Int
  uc : Option Int
  tov : Int
  fwv : Int
  gov : Int
  vcf : Int
  gsv : Int
  flags : TankFlags
  deriving DecidableEq, Repr, Inhabited

/-- The flags of a meter figure record (R85), in its order. -/
structure MeterFlags where
  unbracketed : Bool
  stepReverse : Bool
  noTotal : Bool
  noBase : Bool
  noTemp : Bool
  noPressure : Bool
  expLimit : Bool
  vcfLimit : Bool
  table : Bool
  noShipInstant : Bool
  deriving DecidableEq, Repr, Inhabited

/-- A meter figure record (R85). `entryA` and `entryB` are a and b of R86; an unbracketed meter has its one entry
in `entryA`. -/
structure MeterFigure where
  meter : Nat
  snapshot : Instant
  entryA : Option (Instant × Nat)
  entryB : Option (Instant × Nat)
  aligned : Option Nat
  lastBefore : Option Nat
  iv : Int
  d : Int
  gv : Int
  temp : Int
  pressure : Nat
  vcf : Int
  pcf : Int
  dmL : Int
  accAfter : Int
  lastAfter : Option Nat
  flags : MeterFlags
  deriving DecidableEq, Repr, Inhabited

/-- The running state of one meter of a parcel (section 1.1, R96): the latched d, the last aligned total and the
accumulator in millilitres. -/
structure MeterRun where
  meter : Nat
  d : Int
  lastAligned : Option Nat
  acc : Int
  deriving DecidableEq, Repr, Inhabited

/-- The four tank totals of R80. -/
structure TankTotals where
  tov : Int
  fwv : Int
  gov : Int
  gsv : Int
  deriving DecidableEq, Repr, Inhabited

/-- The opening figures of a parcel (R41, R66, R80, R95), with the opening calendar time of R151 and the masses of
R82. -/
structure OpeningFigures where
  s0 : Instant
  calendar : Option (BitVec 32)
  tanks : List TankFigure
  totals : TankTotals
  meters : List MeterFigure
  tankMasses : List Int
  massGsv : Int
  deriving DecidableEq, Repr, Inhabited

/-- The indeterminate causes of R116 (and the closing conditions of R137), each with its sources or items. -/
structure Causes where
  stale : List SourceName
  suspect : List SourceName
  unbracketed : List Nat
  clamped : List Nat
  table : List Nat
  deriving DecidableEq, Repr, Inhabited

/-! ### Chapter 7: running reconciliation -/

/-- The outcome of a judged cycle (R117). -/
inductive CycleOutcome where
  | notJudgedGrade3
  | notJudgedBelowMinimum
  | indeterminate
  | within (clean : Bool)
  | divergent
  deriving DecidableEq, Repr, Inhabited

/-- The latest cycle of a parcel (R118). -/
structure LatestCycle where
  cycle : BitVec 16
  snapshot : Instant
  ship : Int
  shore : Int
  delta : Int
  q : Int
  band : Option Int
  half : Option Int
  grade : Nat
  outcome : CycleOutcome
  causes : Causes
  tanks : List TankFigure
  totals : TankTotals
  meters : List MeterFigure
  meterVolumes : List Int
  massShip : Int
  massShore : Int
  tankMasses : List Int
  massGsv : Int
  deriving DecidableEq, Repr, Inhabited

/-- The reconciliation state of section 7.1; `alarm` is true in ALARM. -/
structure Recon where
  grade : Nat
  indeterminate : Nat
  downFrom1 : Bool
  downFrom2 : Bool
  alarm : Bool
  divergent : Nat
  clear : Nat
  latest : Option LatestCycle
  deriving DecidableEq, Repr, Inhabited

/-! ### Chapters 8 and 9: closing, transfer record, experience factor -/

/-- Why a direction has no factor (R161). -/
inductive VefReason where
  | historyInvalid | fewEntries | outOfRange
  deriving DecidableEq, Repr, Inhabited

/-- The current factor of a direction, or its unavailability (R161). -/
inductive VefResult where
  | available (factor : Int)
  | unavailable (reason : VefReason)
  deriving DecidableEq, Repr, Inhabited

/-- The closing figures of a revision (R141). -/
structure ClosingFigures where
  revision : Nat
  snapshot : Instant
  tanks : List TankFigure
  totals : TankTotals
  meters : List MeterFigure
  meterVolumes : List Int
  ship : Int
  lineAdjust : Int
  shore : Int
  delta : Int
  vef : VefResult
  adjShip : Option Int
  adjDelta : Option Int
  tankMasses : List Int
  massGsv : Int
  massShip : Int
  massShore : Int
  massAdj : Option Int
  massDelta : Int
  massAdjDelta : Option Int
  band : Int
  within : Bool
  conditions : Causes
  deriving DecidableEq, Repr, Inhabited

/-- Where a transfer record's figures come from (R151, R152). -/
inductive FigureSource where
  | revision | running | none
  deriving DecidableEq, Repr, Inhabited

/-- A tank entry of a transfer record (section 8.6). -/
structure RecordTank where
  tank : Nat
  openGsv : Option Int
  closeGsv : Option Int
  flags : TankFlags
  deriving DecidableEq, Repr, Inhabited

/-- A meter entry of a transfer record (section 8.6). -/
structure RecordMeter where
  meter : Nat
  volume : Option Int
  flags : MeterFlags
  deriving DecidableEq, Repr, Inhabited

/-- A transfer record (section 8.6). `cause` absent is the outcome AGREED. -/
structure TransferRecord where
  seq : Nat
  parcel : ParcelNo
  decl : Option Declaration
  cause : Option DisputeCause
  revision : Option Nat
  source : FigureSource
  basis : Option Basis
  openS : Option Instant
  closeS : Option Instant
  openCalendar : Option (BitVec 32)
  closeCalendar : Option (BitVec 32)
  tanks : List RecordTank
  meters : List RecordMeter
  ship : Option Int
  lineAdjust : Int
  shore : Option Int
  delta : Option Int
  vef : Option Int
  adjShip : Option Int
  adjDelta : Option Int
  massShip : Option Int
  massShore : Option Int
  massAdj : Option Int
  band : Option Int
  within : Option Bool
  conditions : Causes
  acceptance : AcceptSet
  alarmsRaised : Nat
  lowestGrade : Nat
  deriving DecidableEq, Repr, Inhabited

/-- A parcel record (section 1.1). Its number is its place in the Parcel Table. Its tank and meter sets with their
depths are held once, as the owners and depths of the sources (section 3.1), and computed by `tanksOf` and
`metersOf`. The no-flow timer runs exactly in TRANSFERRING and SUSPENDED (R17); its two marks are held as armed or
spent. -/
structure Parcel where
  state : ParcelState
  decl : Option Declaration
  params : Params
  shipOffer : Option ShipOffer
  shoreOffer : Option ShoreOffer
  basis : Option Basis
  openSet : PartySet
  suspendSet : SuspendSet
  restartResume : PartySet
  closeReservation : PartySet
  closedFrom : Option ClosedFrom
  opening : Option OpeningFigures
  flowRef : Option Instant
  lastFlow : Option Instant
  settleArmed : Bool
  restoreArmed : Bool
  run : List MeterRun
  cycle : BitVec 16
  cycleTimer : Option Instant
  overrun : Bool
  recon : Recon
  lineAdjust : Int
  revision : Option Nat
  closing : Option ClosingFigures
  acceptance : AcceptSet
  acceptTimer : Option Instant
  record : Option TransferRecord
  alarmsRaised : Nat
  lowestGrade : Nat
  disputeCause : Option DisputeCause
  finalizePending : Bool
  releaseSet : PartySet
  deriving DecidableEq, Repr, Inhabited

/-! ### Chapter 6: the engine -/

/-- A parsed tank table (R63, R65). -/
structure TankTable where
  refHeight : Int
  calibration : List (Int × Int)
  trim : List (Int × Int)
  list : List (Int × Int)
  deriving DecidableEq, Repr, Inhabited

/-- The kinds of job (section 6.1). -/
inductive JobKind where
  | openJob | cycle | close
  deriving DecidableEq, Repr, Inhabited

/-- What a job's copy holds of one tank (R59, R65, R103). -/
structure TankCopy where
  number : Nat
  latest : Option TankReading
  fresh : Freshness
  held : Bool
  heldCount : Nat
  suspect : Bool
  ring : List TankEntry
  att : Option AttReading
  tableValid : Bool
  table : TankTable
  deriving DecidableEq, Repr, Inhabited

/-- What a job's copy holds of one meter (R59, R84, R103); `defValid` and `d` come from the meter definition for an
OPEN job, `d` from the latched value otherwise. -/
structure MeterCopy where
  number : Nat
  latest : Option MeterReading
  fresh : Freshness
  held : Bool
  reverse : Bool
  heldCount : Nat
  suspect : Bool
  ring : List MeterEntry
  lastAligned : Option Nat
  acc : Int
  d : Int
  defValid : Bool
  deriving DecidableEq, Repr, Inhabited

/-- The copy a job takes at its start instant (R103). -/
structure JobCopy where
  tanks : List TankCopy
  att : Option AttReading
  attFresh : Freshness
  attRing : List AttReading
  meters : List MeterCopy
  expansionValid : Bool
  expansion : List (Int × Int)
  basis : Option Basis
  direction : Direction
  opening : Option OpeningFigures
  cycle : BitVec 16
  lineAdjust : Int
  vef : VefResult
  deriving DecidableEq, Repr, Inhabited

/-- The running job (R100). `startMs` is the model's millisecond count at the start, used for the bound of R104. -/
structure RunningJob where
  kind : JobKind
  parcel : ParcelNo
  start : Instant
  startMs : Nat
  voided : Bool
  copy : JobCopy
  deriving DecidableEq, Repr, Inhabited

/-- Which kinds of job wait for one parcel (R100). -/
structure JobSet where
  openJob : Bool
  cycle : Bool
  close : Bool
  deriving DecidableEq, Repr, Inhabited

/-- The Calculation Engine (R100): BUSY exactly when a job runs. `mark` is the round-robin mark. -/
@[ext] structure Engine where
  waiting : Vector JobSet 4
  running : Option RunningJob
  mark : ParcelNo
  deriving DecidableEq, Repr

/-! ### Chapter 10: the table store -/

/-- A stored status (R173). -/
inductive Status where
  | empty | valid | invalid
  deriving DecidableEq, Repr, Inhabited

/-- A reported status (R173). -/
inductive ReportedStatus where
  | empty | valid | invalid | writing
  deriving DecidableEq, Repr, Inhabited

/-- How a voyage entry came into its history (section 9.1). -/
inductive Origin where
  | imported | recorded
  deriving DecidableEq, Repr, Inhabited

/-- A stored item 1..34 (R173, R176): status, check word, image without its check word, witness lock, the write
indication of an accepted commit or clear, and for a history the origin of each entry. -/
structure Item where
  status : Status
  lock : Bool
  commitPending : Bool
  image : List Byte
  check : Word16
  origins : List Origin
  deriving DecidableEq, Repr, Inhabited

/-- What a checkpoint holds (R26). -/
structure Checkpoint where
  decl : Option Declaration
  params : Params
  tanks : List (Nat × Nat)
  meters : List (Nat × Nat)
  basis : Option Basis
  shipOffer : Option ShipOffer
  shoreOffer : Option ShoreOffer
  opening : Option OpeningFigures
  run : List MeterRun
  cycle : BitVec 16
  alarmsRaised : Nat
  lowestGrade : Nat
  deriving DecidableEq, Repr, Inhabited

/-- A checkpoint item (sections 1.9 and 10.1). `wordSum` is the sum of the words of its stored image (R175). -/
structure CheckpointItem where
  status : Status
  content : Option Checkpoint
  wordSum : Word16
  check : Word16
  deriving DecidableEq, Repr, Inhabited

/-- A record slot in use (R156, R184): the slots are held as the list of records, oldest to newest, and an EMPTY
slot is one the list does not reach. `writing` is the write indication while the write unit writes the slot. -/
structure StoredRecord where
  status : Status
  writing : Bool
  record : TransferRecord
  wordSum : Word16
  check : Word16
  deriving DecidableEq, Repr, Inhabited

/-- An entry of the write queue (R182). `clear` marks the entry of a CLEAR_HISTORY. -/
inductive QueueEntry where
  | commit (item : Nat) (link : Link) (clear : Bool) (image : List Byte) (check : Word16)
  | checkpoint (parcel : ParcelNo) (copy : Checkpoint)
  | finalize (parcel : ParcelNo) (record : TransferRecord)
  deriving DecidableEq, Repr, Inhabited

/-- Which write of an entry the write unit is making (R184). -/
inductive WriteKind where
  | commit | checkpoint | record | history | clearCheckpoint
  deriving DecidableEq, Repr, Inhabited

/-- The write unit at work on an entry (R183): the current write, its next block (from 1) and its number of blocks,
whether the entry's remaining writes wait for a verification (R187), and the endings a finalize has so far (`true`
is STORED). `image`, `check` and `origins` are the new content of a history being appended to. -/
structure ActiveWrite where
  entry : QueueEntry
  kind : WriteKind
  block : Nat
  blocks : Nat
  paused : Bool
  image : List Byte
  check : Word16
  origins : List Origin
  wordSum : Word16
  recordStored : Bool
  historyStored : Bool
  appended : Bool
  deriving DecidableEq, Repr, Inhabited

/-- Whether a verification runs or waits (R186, R187); the operand is the millisecond count at which the pass began. -/
inductive VerifyPhase where
  | idle
  | startup (since : Nat)
  | waiting
  | running (since : Nat)
  deriving DecidableEq, Repr, Inhabited

/-- The Table Store with the next sequence number of section 8.1. -/
@[ext] structure Store where
  items : Vector Item 34
  records : List StoredRecord
  checkpoints : Vector CheckpointItem 4
  queue : List QueueEntry
  writer : Option ActiveWrite
  verify : VerifyPhase
  nextSeq : Nat
  deriving DecidableEq, Repr

/-- What the Experience Factor Unit holds for a direction (R161). `computed` is present for OUT_OF_RANGE. -/
structure VefState where
  result : VefResult
  count : Nat
  median : Option Int
  ratios : List (Int × Bool)
  qualifying : Nat
  computed : Option Int
  deriving DecidableEq, Repr, Inhabited

/-! ### Chapter 12: discrete lines -/

/-- One discrete input (R207): its loop current as it stands, the level the loop was last read at since the reset,
the recognized level (`true` is ACTIVE), and since which millisecond its candidate stands. -/
structure InputState where
  microamps : Nat
  lastRead : Option Bool
  level : Bool
  candidate : Option Nat
  deriving DecidableEq, Repr, Inhabited

/-- The base patterns of R211. -/
inductive LampPattern where
  | fast | slow | steady | dim | off
  deriving DecidableEq, Repr, Inhabited

/-- A parcel lamp (R211, R212): its base pattern, the millisecond at which that pattern began its on phase, and the
millisecond at which a PULSE ends. -/
structure Lamp where
  pattern : LampPattern
  since : Nat
  pulseUntil : Option Nat
  deriving DecidableEq, Repr, Inhabited

/-- The Discrete Line Unit: the inputs, the silence latch (`true` is SET), the alarm output (`true` is ASSERTED) and
the lamps. -/
@[ext] structure Lines where
  esd : InputState
  mv : Vector InputState 4
  spare : InputState
  silence : Bool
  alarmOut : Bool
  lamps : Vector Lamp 4
  deriving DecidableEq, Repr

/-! ### Chapter 11: links and messages -/

/-- The 37 requests of R196. -/
inductive Req where
  | declare | setParameter | assignTank | unassignTank | assignMeter | unassignMeter | offerBasis | openParcel
  | suspend | resume | close | cancelClose | regauge | accept | dispute | setLineAdjust | witness | abort
  | restoreGrade | release | abandon | readParcel
  | tankReading | attitudeReading | meterReading
  | tableBegin | tableData | tableCommit | readTable | lockTable | unlockTable | verifyStore | clearHistory
  | readRecord | status | silenceAlarm | setCalendar
  deriving DecidableEq, Repr, Inhabited

/-- The response codes of R198. -/
inductive Code where
  | ok | accepted | reserved | refusedRights | refusedState | refusedRange | refusedBusy | refusedFull
  | refusedLocked | staleRevision | tagMismatch | checkMismatch | unknownRequest | refusedFormat
  deriving DecidableEq, Repr, Inhabited

/-- The event a PARCEL_STATE notice names (R4). -/
inductive Cause where
  | request (req : Req) (link : Link)
  | esdActive | esdInactive | settleValve | settledByTime | openDone | openFailed | closeDone | closeFailed
  | acceptTimeout | restart
  deriving DecidableEq, Repr, Inhabited

/-- A cause of a failed OPEN job (R40). -/
inductive OpenCause where
  | noReading (source : SourceName)
  | tableInvalid (item : Nat)
  deriving DecidableEq, Repr, Inhabited

/-- The cause of a GRADE_CHANGE (R121). -/
inductive GradeCause where
  | downshift | restoredByTime | restoreGrade
  deriving DecidableEq, Repr, Inhabited

/-- The ending a TABLE_RESULT reports for a link commit (R184). -/
inductive CommitEnding where
  | valid | empty | writeFault (block : Nat)
  deriving DecidableEq, Repr, Inhabited

/-- The content of a notice (R201), one constructor per kind; TABLE_RESULT has two forms (R184, R187). -/
inductive NoticeBody where
  | parcelState (parcel : ParcelNo) (before after : ParcelState) (cause : Cause) (openSet : PartySet)
      (suspendSet : SuspendSet) (restartResume closeReservation releaseSet : PartySet)
      (dispute : Option DisputeCause)
  | basisResolved (parcel : ParcelNo) (basis : Basis) (ship : ShipOffer) (shore : ShoreOffer)
  | basisFailed (parcel : ParcelNo) (cause : ResolveFailure)
  | openFailed (parcel : ParcelNo) (causes : List OpenCause)
  | cycleResult (parcel : ParcelNo) (cycle : LatestCycle) (grade indeterminate : Nat)
      (downFrom1 downFrom2 alarm : Bool) (divergent clear : Nat) (overrun : Bool)
  | alarmChange (parcel : ParcelNo) (alarm : Bool) (cycle : BitVec 16) (delta : Int) (band : Int)
      (grade alarmsRaised : Nat)
  | gradeChange (parcel : ParcelNo) (before after : Nat) (cause : GradeCause) (cycle : Option (BitVec 16))
      (downFrom1 downFrom2 : Bool) (lowestGrade : Nat)
  | figures (parcel : ParcelNo) (figs : ClosingFigures) (required : AcceptSet) (expiry : Instant)
  | closeFailed (parcel : ParcelNo) (returned : ParcelState) (items : List Nat)
  | outcomeStored (parcel : ParcelNo) (seq : Nat) (cause : Option DisputeCause)
      (appended recordStored historyStored clearStored : Bool)
  | tableResult (item : Nat) (link : Link) (ending : CommitEnding) (length : Nat) (check : Word16)
  | verified (items : List Nat) (records : List Nat) (checkpoints : List ParcelNo)
  | inputChange (input : InputName) (level : Bool) (levels : List Bool)
  deriving DecidableEq, Repr, Inhabited

/-- A notice with the instant at which it was posted (R201). -/
structure Notice where
  posted : Instant
  body : NoticeBody
  deriving DecidableEq, Repr, Inhabited

/-- A response (R198): TAG, code, the two flags, and the result fields in the encoding of R197. -/
structure Response where
  tag : Byte
  code : Code
  clamped : Bool
  truncated : Bool
  fields : List Byte
  deriving DecidableEq, Repr, Inhabited

/-- A link's condition (R190, R194). -/
inductive Condition where
  | normal | broken
  deriving DecidableEq, Repr, Inhabited

/-- The receive framer (R193): HUNTING, with whether the last byte was the first SYNC byte; or RECEIVING, with the
bytes after SYNC so far. -/
inductive Framer where
  | hunting (sawSync : Bool)
  | receiving (bytes : List Byte)
  deriving DecidableEq, Repr, Inhabited

/-- The transmitter (R199): idle, or sending a frame, with its bytes on the line. A response stays in the response
list until it is sent; a notice has left the notice queue. -/
inductive Transmitter where
  | idle
  | response (frame : List Byte)
  | notice (frame : List Byte)
  deriving DecidableEq, Repr, Inhabited

/-- An open staging buffer (section 10.5): item id, declared length, and that many bytes. -/
structure Staging where
  item : Nat
  length : Nat
  bytes : List Byte
  deriving DecidableEq, Repr, Inhabited

/-- The kinds of multi-page read (R200). -/
inductive ReadKind where
  | parcel | table | record
  deriving DecidableEq, Repr, Inhabited

/-- A filled read buffer (R190, R200). -/
structure ReadBuffer where
  kind : ReadKind
  target : Nat
  pages : Nat
  truncated : Bool
  bytes : List Byte
  deriving DecidableEq, Repr, Inhabited

/-- A link controller (R190). `baudFast` is 115,200; `lastByte` is the millisecond of the framer's last byte;
`lost` is NOTICE_LOST. -/
@[ext] structure LinkState where
  baudFast : Bool
  condition : Condition
  framer : Framer
  lastByte : Nat
  responses : List Response
  notices : List Notice
  lost : Bool
  staging : Option Staging
  readBuffer : Option ReadBuffer
  tx : Transmitter
  deriving DecidableEq, Repr, Inhabited

/-- The cause of the last reset (R204). -/
inductive ResetCause where
  | powerOn | resetLine
  deriving DecidableEq, Repr, Inhabited

/-- A calendar setting (R205): the value C and the part-clock instant at which it was taken. -/
structure Calendar where
  value : BitVec 32
  setAt : Instant
  deriving DecidableEq, Repr, Inhabited

/-- The whole part. `msec` counts milliseconds since the last reset (the model's own field, assumption 2) and
`clock` is the part clock; `freeDraws` counts the free values drawn (the model's own field, assumption 1);
`pending` is the queue of commands that wait. -/
@[ext]
structure State where
  clock : Instant
  msec : Nat
  resetCause : ResetCause
  straps : Straps
  calendar : Option Calendar
  tanks : Vector TankSource 16
  att : AttSource
  meters : Vector MeterSource 8
  parcels : Vector Parcel 4
  restoreLost : Vector Bool 4
  engine : Engine
  store : Store
  vefLoad : Option VefState
  vefDischarge : Option VefState
  lines : Lines
  ship : LinkState
  shore : LinkState
  survey : LinkState
  freeDraws : Nat
  pending : List Instr
  deriving DecidableEq, Repr

/-- The ways this block stops. There is none: the manual gives every command of the table an effect in every state
of the part, so no command ends in a fault and this type has no constructor. -/
inductive Fault : Type where
  deriving DecidableEq, Repr

/-- The ways a command has no meaning. -/
inductive Refusal where
  /-- A row of the opcode table that the model does not reach. Raised by no arm of `exec`; safe. -/
  | notModelled (mnemonic : String)
  deriving DecidableEq, Repr

/-! ### Reset values -/

/-- The empty party set. -/
def PartySet.empty : PartySet := ⟨false, false⟩

/-- The empty suspend set. -/
def SuspendSet.empty : SuspendSet := ⟨false, false, false, false⟩

/-- The empty acceptance set. -/
def AcceptSet.empty : AcceptSet := ⟨false, false, false⟩

/-- The parameters of a record that holds none. -/
def Params.zero : Params := ⟨0, 0, 0, 0, 0, 0, 0, 0, 0, 0, 0, 0, 0⟩

/-- The reconciliation state of a FREE record: cleared (R112). -/
def Recon.cleared : Recon := ⟨0, 0, false, false, false, 0, 0, none⟩

/-- A FREE record: number and state only, "every other field is absent, empty or zero" (R1). -/
def Parcel.cleared : Parcel where
  state := .free
  decl := none
  params := Params.zero
  shipOffer := none
  shoreOffer := none
  basis := none
  openSet := PartySet.empty
  suspendSet := SuspendSet.empty
  restartResume := PartySet.empty
  closeReservation := PartySet.empty
  closedFrom := none
  opening := none
  flowRef := none
  lastFlow := none
  settleArmed := false
  restoreArmed := false
  run := []
  cycle := 0
  cycleTimer := none
  overrun := false
  recon := Recon.cleared
  lineAdjust := 0
  revision := none
  closing := none
  acceptance := AcceptSet.empty
  acceptTimer := none
  record := none
  alarmsRaised := 0
  lowestGrade := 0
  disputeCause := none
  finalizePending := false
  releaseSet := PartySet.empty

/-- A tank channel after a reset (R44). -/
def TankSource.never : TankSource := ⟨none, 0, none, false, 0, false, []⟩

/-- ATT after a reset (R44). -/
def AttSource.never : AttSource := ⟨none, []⟩

/-- A meter run after a reset (R44). -/
def MeterSource.never : MeterSource := ⟨none, 0, none, false, false, 0, false, [], none, .none⟩

/-- The engine after a reset (R100): IDLE, nothing waiting, the round-robin mark at 4. -/
def Engine.reset : Engine := ⟨Vector.replicate 4 ⟨false, false, false⟩, none, 3⟩

/-- An item as delivered (R173): EMPTY, unlocked. -/
def Item.delivered : Item := ⟨.empty, false, false, [], 0, []⟩

/-- A checkpoint item as delivered (R173) and as a clear or a drop leaves it (R29, R183): EMPTY. That it then holds no
content, word sum 0 and check word 0 is the model's choice (assumptions 4 and 13). -/
def CheckpointItem.delivered : CheckpointItem := ⟨.empty, none, 0, 0⟩

/-- The store as delivered, start-up verification begun (R173, R186). The next sequence number is set only when that
verification completes (R134); until then it holds 1 (assumption 5). -/
def Store.delivered : Store where
  items := Vector.replicate 34 Item.delivered
  records := []
  checkpoints := Vector.replicate 4 CheckpointItem.delivered
  queue := []
  writer := none
  verify := .startup 0
  nextSeq := 1

/-- An input after a reset (R207) whose loop carries `microamps`. -/
def InputState.reset (microamps : Nat) : InputState := ⟨microamps, none, false, none⟩

/-- A lamp after a reset (R211): OFF, no PULSE. -/
def Lamp.reset : Lamp := ⟨.off, 0, none⟩

/-- The discrete lines after a reset with no current in any loop (R207, R209, R211; assumption 4 for the currents). -/
def Lines.reset : Lines where
  esd := InputState.reset 0
  mv := Vector.replicate 4 (InputState.reset 0)
  spare := InputState.reset 0
  silence := false
  alarmOut := false
  lamps := Vector.replicate 4 Lamp.reset

/-- A link controller after a reset (R190) at the rate its strap gives. -/
def LinkState.reset (fast : Bool) : LinkState where
  baudFast := fast
  condition := .normal
  framer := .hunting false
  lastByte := 0
  responses := []
  notices := []
  lost := false
  staging := none
  readBuffer := none
  tx := .idle

/-- The part right after power-on with its store as delivered, every strap open and no current in any loop
(assumption 4), and no command waiting. -/
def State.reset : State where
  clock := 0
  msec := 0
  resetCause := .powerOn
  straps := ⟨false, false, false, false⟩
  calendar := none
  tanks := Vector.replicate 16 TankSource.never
  att := AttSource.never
  meters := Vector.replicate 8 MeterSource.never
  parcels := Vector.replicate 4 Parcel.cleared
  restoreLost := Vector.replicate 4 false
  engine := Engine.reset
  store := Store.delivered
  vefLoad := none
  vefDischarge := none
  lines := Lines.reset
  ship := LinkState.reset false
  shore := LinkState.reset false
  survey := LinkState.reset false
  freeDraws := 0
  pending := []

end Sys2Proof.Machine
end

