-- ==== Sys2Proof/Machine/Ops.lean ====
section
/-!
DEFINITION. The shared operations every command is built from: the part's rounding and instants, table lookup,
and the one accessor and the one update of each piece of state. They answer for every number, also for one no
command may name: a read there gives the delivered value and an update there changes nothing.
-/

namespace Sys2Proof.Machine

/-! ### Rounding, instants, interpolation -/

/-- The part's division (R61): the nearest integer, a half going away from zero. The divisor is positive. -/
def roundDiv (n d : Int) : Int :=
  if 0 ≤ n then (2 * n + d) / (2 * d) else -((2 * (-n) + d) / (2 * d))

/-- The age of an instant: the difference from `now` modulo 2^32 (R83, R204). -/
def age (now t : Instant) : Nat := (now - t).toNat

/-- Whether a timer's expiry instant has been reached: the signed difference of the two instants is not negative. -/
def reached (now expiry : Instant) : Bool := decide (0 ≤ (now - expiry).toInt)

/-- A number of tenths of a second as an instant difference. -/
def tenths (n : Nat) : Instant := BitVec.ofNat 32 n

/-- 10^9, the modulus of a meter total (R50). -/
def totalModulus : Nat := 1000000000

/-- The forward amount from one meter total to another, modulo 10^9 (R50, R57, R86, R88). -/
def totalDelta (newTotal oldTotal : Nat) : Nat :=
  (newTotal + totalModulus - oldTotal % totalModulus) % totalModulus

/-- A lookup in a section (R63, R64): its value, and whether it was clamped at either end. -/
structure Lookup where
  value : Int
  clamped : Bool
  deriving DecidableEq, Repr, Inhabited

/-- Interpolation at a key not below `k0`, the key of the row last passed (R63, R64). -/
def interpFrom (k0 v0 : Int) : List (Int × Int) → Int → Lookup
  | [], x => ⟨v0, decide (k0 < x)⟩
  | (k1, v1) :: rest, x =>
    if x ≤ k1 then ⟨v0 + roundDiv ((v1 - v0) * (x - k0)) (k1 - k0), false⟩
    else interpFrom k1 v1 rest x

/-- A section interpolated at a key (R63, R64). -/
def interp : List (Int × Int) → Int → Lookup
  | [], _ => ⟨0, false⟩
  | (k0, v0) :: rest, x => if x < k0 then ⟨v0, true⟩ else interpFrom k0 v0 rest x

/-- The first key of a section. -/
def firstKey (section_ : List (Int × Int)) : Int := ((section_.head?).map (·.1)).getD 0

/-- The last key of a section. -/
def lastKey (section_ : List (Int × Int)) : Int := ((section_.getLast?).map (·.1)).getD 0

/-- The sum of a list of figures (R80, R97). -/
def sumInt (xs : List Int) : Int := xs.foldr (· + ·) 0

/-! ### Parcels, sources, items: read and update -/

/-- The four parcel numbers, ascending. -/
def allParcels : List ParcelNo := [0, 1, 2, 3]

/-- The tank numbers, ascending. -/
def tankNumbers : List Nat := List.range' 1 16

/-- The meter numbers, ascending. -/
def meterNumbers : List Nat := List.range' 1 8

/-- The item ids, ascending. -/
def itemIds : List Nat := List.range' 1 34

/-- The three links. -/
def allLinks : List Link := [.ship, .shore, .survey]

/-- The record of a parcel. -/
def State.parcel (s : State) (p : ParcelNo) : Parcel := s.parcels.get p

/-- Replace the record of a parcel. -/
def State.setParcel (s : State) (p : ParcelNo) (r : Parcel) : State :=
  { s with parcels := s.parcels.set p.val r p.isLt }

/-- The record of tank channel `n`. -/
def State.tank (s : State) (n : Nat) : TankSource :=
  if n = 0 then TankSource.never else (s.tanks[n - 1]?).getD TankSource.never

/-- Replace the record of tank channel `n`. -/
def State.setTank (s : State) (n : Nat) (t : TankSource) : State :=
  if n = 0 then s else { s with tanks := s.tanks.setIfInBounds (n - 1) t }

/-- The record of meter run `n`. -/
def State.meter (s : State) (n : Nat) : MeterSource :=
  if n = 0 then MeterSource.never else (s.meters[n - 1]?).getD MeterSource.never

/-- Replace the record of meter run `n`. -/
def State.setMeter (s : State) (n : Nat) (m : MeterSource) : State :=
  if n = 0 then s else { s with meters := s.meters.setIfInBounds (n - 1) m }

/-- Stored item `id`. -/
def Store.item (st : Store) (id : Nat) : Item :=
  if id = 0 then Item.delivered else (st.items[id - 1]?).getD Item.delivered

/-- Replace stored item `id`. -/
def Store.setItem (st : Store) (id : Nat) (i : Item) : Store :=
  if id = 0 then st else { st with items := st.items.setIfInBounds (id - 1) i }

/-- The checkpoint item of a parcel number. -/
def Store.checkpoint (st : Store) (p : ParcelNo) : CheckpointItem := st.checkpoints.get p

/-- Replace the checkpoint item of a parcel number. -/
def Store.setCheckpoint (st : Store) (p : ParcelNo) (c : CheckpointItem) : Store :=
  { st with checkpoints := st.checkpoints.set p.val c p.isLt }

/-- The controller of a link. -/
def State.link (s : State) : Link → LinkState
  | .ship => s.ship
  | .shore => s.shore
  | .survey => s.survey

/-- Replace the controller of a link. -/
def State.setLink (s : State) (l : Link) (k : LinkState) : State :=
  match l with
  | .ship => { s with ship := k }
  | .shore => { s with shore := k }
  | .survey => { s with survey := k }

/-- Replace the engine. -/
def State.setEngine (s : State) (e : Engine) : State := { s with engine := e }

/-- Replace the store. -/
def State.setStore (s : State) (st : Store) : State := { s with store := st }

/-- Replace the discrete lines. -/
def State.setLines (s : State) (l : Lines) : State := { s with lines := l }

/-- Set or clear the RESTORE_LOST indication of a parcel number (R27, R29). -/
def State.setRestoreLost (s : State) (p : ParcelNo) (b : Bool) : State :=
  { s with restoreLost := s.restoreLost.set p.val b p.isLt }

/-- The held factor of a direction (R161). -/
def State.vef (s : State) : Direction → Option VefState
  | .load => s.vefLoad
  | .discharge => s.vefDischarge

/-- Replace the held factor of a direction. -/
def State.setVef (s : State) (d : Direction) (v : Option VefState) : State :=
  match d with
  | .load => { s with vefLoad := v }
  | .discharge => { s with vefDischarge := v }

/-- One of the six inputs. -/
def Lines.input (l : Lines) : InputName → InputState
  | .esd => l.esd
  | .mv n => l.mv.get n
  | .spare => l.spare

/-- Replace one of the six inputs. -/
def Lines.setInput (l : Lines) (i : InputName) (x : InputState) : Lines :=
  match i with
  | .esd => { l with esd := x }
  | .mv n => { l with mv := l.mv.set n.val x n.isLt }
  | .spare => { l with spare := x }

/-- The lamp of a parcel. -/
def Lines.lamp (l : Lines) (p : ParcelNo) : Lamp := l.lamps.get p

/-- Replace the lamp of a parcel. -/
def Lines.setLamp (l : Lines) (p : ParcelNo) (x : Lamp) : Lines :=
  { l with lamps := l.lamps.set p.val x p.isLt }

/-- Which jobs of a parcel wait (R100). -/
def Engine.jobs (e : Engine) (p : ParcelNo) : JobSet := e.waiting.get p

/-- Replace which jobs of a parcel wait. -/
def Engine.setJobs (e : Engine) (p : ParcelNo) (j : JobSet) : Engine :=
  { e with waiting := e.waiting.set p.val j p.isLt }

/-- Run an update for each parcel in ascending order (R4, R208). -/
def State.forParcels (s : State) (f : ParcelNo → State → State) : State :=
  allParcels.foldl (fun acc p => f p acc) s

/-! ### Assignments and the pool -/

/-- The tanks of a parcel, ascending (section 1.1). -/
def State.tanksOf (s : State) (p : ParcelNo) : List Nat :=
  tankNumbers.filter (fun n => decide ((s.tank n).owner = some p))

/-- The meters of a parcel, ascending (section 1.1). -/
def State.metersOf (s : State) (p : ParcelNo) : List Nat :=
  meterNumbers.filter (fun n => decide ((s.meter n).owner = some p))

/-- The depth an assigned source holds of the pool, 0 for an unassigned one (R55). -/
def heldDepth (owner : Option ParcelNo) (depth : Nat) : Nat := if owner.isSome then depth else 0

/-- The sum of the depths of all assigned sources (R55). -/
def State.depthSum (s : State) : Nat :=
  (tankNumbers.map (fun n => heldDepth (s.tank n).owner (s.tank n).depth)).foldr (· + ·) 0
    + (meterNumbers.map (fun n => heldDepth (s.meter n).owner (s.meter n).depth)).foldr (· + ·) 0

/-- The pool's free count: 96 less the sum of the depths of all assigned sources (R55). -/
def State.poolFree (s : State) : Nat := 96 - s.depthSum

/-- Give tank channel `n` an owner and a ring of the depth named, starting with its latest reading if it has one
(R53). -/
def State.drawTank (s : State) (n : Nat) (p : ParcelNo) (depth : Nat) : State :=
  let t := s.tank n
  s.setTank n { t with
    owner := some p
    depth := depth
    ring := match t.latest with
      | some r => [⟨r, t.held⟩]
      | none => [] }

/-- Give meter run `n` an owner and a ring (R53); a hold on a backward step ends (R50; assumption 18). -/
def State.drawMeter (s : State) (n : Nat) (p : ParcelNo) (depth : Nat) : State :=
  let m := s.meter n
  s.setMeter n { m with
    owner := some p
    depth := depth
    ring := match m.latest with
      | some r => [⟨r, m.held, m.reverse⟩]
      | none => []
    stepHold := m.stepHold.reassigned }

/-- Take the ring of tank channel `n` away and return its slots (R53, R56). -/
def State.returnTank (s : State) (n : Nat) : State :=
  s.setTank n { s.tank n with owner := none, depth := 0, ring := [] }

/-- Take the ring of meter run `n` away, return its slots, and drop its rate (R53, R56). -/
def State.returnMeter (s : State) (n : Nat) : State :=
  s.setMeter n { s.meter n with owner := none, depth := 0, ring := [], rate := none }

/-- Return every source of a parcel (R24, R56). -/
def State.returnSources (s : State) (p : ParcelNo) : State :=
  (s.metersOf p).foldl (fun acc n => acc.returnMeter n)
    ((s.tanksOf p).foldl (fun acc n => acc.returnTank n) s)

/-! ### Reading a parcel record -/

/-- The direction of a parcel; a FREE record has none and LOAD stands in its place. -/
def Parcel.direction (r : Parcel) : Direction := (r.decl.map (·.direction)).getD .load

/-- Whether the survey link's witness is required (section 1.1). -/
def Parcel.witnessed (r : Parcel) : Bool := (r.decl.map (·.witnessed)).getD false

/-- The required set of section 8.1. -/
def Parcel.required (r : Parcel) : AcceptSet := ⟨true, true, r.witnessed⟩

/-- Whether a parcel is in TRANSFERRING or SUSPENDED. -/
def Parcel.inTransfer (r : Parcel) : Bool :=
  match r.state with
  | .transferring => true
  | .suspended => true
  | _ => false

/-- The no-flow time (R16): absent when the parcel has neither a last flowing instant nor a flow reference. -/
def Parcel.noFlow (r : Parcel) (now : Instant) : Option Nat :=
  match r.lastFlow with
  | some t => some (age now t)
  | none => r.flowRef.map (age now)

/-- Whether the no-flow time is `mark` or more (R17). -/
def Parcel.noFlowReached (r : Parcel) (now : Instant) (mark : Nat) : Bool :=
  match r.noFlow now with
  | some n => decide (mark ≤ n)
  | none => false

/-- The reconciliation state DECLARE and a restore set (R112). -/
def Recon.initial : Recon := ⟨1, 0, false, false, false, 0, 0, none⟩

/-! ### Sets -/

/-- Whether a party is in a set; the survey link is in none. -/
def PartySet.has (x : PartySet) : Link → Bool
  | .ship => x.ship
  | .shore => x.shore
  | .survey => false

/-- A set with a party put in or taken out; the survey link is no party. -/
def PartySet.put (x : PartySet) (l : Link) (b : Bool) : PartySet :=
  match l with
  | .ship => { x with ship := b }
  | .shore => { x with shore := b }
  | .survey => x

/-- Whether the set is {SHIP, SHORE}. -/
def PartySet.isFull (x : PartySet) : Bool := x.ship && x.shore

/-- Whether the set has no member. -/
def PartySet.isEmpty (x : PartySet) : Bool := !x.ship && !x.shore

/-- A suspend set with a party's member put in or taken out. -/
def SuspendSet.put (x : SuspendSet) (l : Link) (b : Bool) : SuspendSet :=
  match l with
  | .ship => { x with ship := b }
  | .shore => { x with shore := b }
  | .survey => x

/-- Whether the suspend set has no member. -/
def SuspendSet.isEmpty (x : SuspendSet) : Bool := !x.ship && !x.shore && !x.esd && !x.restart

/-- An acceptance set with a link's member. -/
def AcceptSet.add (x : AcceptSet) (l : Link) : AcceptSet :=
  match l with
  | .ship => { x with ship := true }
  | .shore => { x with shore := true }
  | .survey => { x with survey := true }

/-- Whether every member of `req` is in the acceptance set (R147). -/
def AcceptSet.covers (x req : AcceptSet) : Bool :=
  (!req.ship || x.ship) && (!req.shore || x.shore) && (!req.survey || x.survey)

/-! ### The store: status, check word, verification, free values -/

/-- The id of a direction's voyage history (section 9.1). -/
def historyId : Direction → Nat
  | .load => 33
  | .discharge => 34

/-- The direction whose history an item id is. -/
def historyDirection (id : Nat) : Option Direction :=
  if id = 33 then some .load else if id = 34 then some .discharge else none

/-- The words of an image (R175). -/
def imageWords : List Byte → List Word16
  | a :: b :: rest => (a ++ b : Word16) :: imageWords rest
  | _ => []

/-- The sum of the words of an image, modulo 65,536 (R175). -/
def wordSum (image : List Byte) : Word16 := (imageWords image).foldr (· + ·) 0

/-- The check word of a sum of words (R175). -/
def checkOf (sum : Word16) : Word16 := 0xFFFF - sum

/-- Whether an item passes its check (R175). -/
def Item.passes (i : Item) : Bool :=
  decide (i.status = .valid) && decide (wordSum i.image + i.check = 0xFFFF)

/-- Whether a checkpoint passes its check (R175). -/
def CheckpointItem.passes (c : CheckpointItem) : Bool :=
  decide (c.status = .valid) && decide (c.wordSum + c.check = 0xFFFF)

/-- Whether a stored record passes its check (R175). -/
def StoredRecord.passes (r : StoredRecord) : Bool :=
  decide (r.status = .valid) && decide (r.wordSum + r.check = 0xFFFF)

/-- A stored status as a reported one (R173). -/
def Status.report : Status → ReportedStatus
  | .empty => .empty
  | .valid => .valid
  | .invalid => .invalid

/-- Whether the write unit is writing item `id` (R173): a commit of it, or an append to it. -/
def ActiveWrite.writesItem (w : ActiveWrite) (id : Nat) : Bool :=
  !w.paused &&
  match w.kind, w.entry with
  | .commit, .commit item _ _ _ _ => decide (item = id)
  | .history, .finalize _ r => decide (id = historyId ((r.decl.map (·.direction)).getD .load))
  | _, _ => false

/-- Whether the write unit is writing a parcel number's checkpoint item. -/
def ActiveWrite.writesCheckpoint (w : ActiveWrite) (p : ParcelNo) : Bool :=
  !w.paused &&
  match w.kind, w.entry with
  | .checkpoint, .checkpoint q _ => decide (q = p)
  | .clearCheckpoint, .finalize q _ => decide (q = p)
  | _, _ => false

/-- The reported status of item `id` (R173). -/
def Store.reported (st : Store) (id : Nat) : ReportedStatus :=
  let i := st.item id
  if i.commitPending || (st.writer.map (·.writesItem id)).getD false then .writing else i.status.report

/-- The reported status of a parcel number's checkpoint item (R25, R173). -/
def Store.reportedCheckpoint (st : Store) (p : ParcelNo) : ReportedStatus :=
  if (st.writer.map (·.writesCheckpoint p)).getD false then .writing else (st.checkpoint p).status.report

/-- Whether the reported status of an item is VALID (R173). -/
def Store.isValid (st : Store) (id : Nat) : Bool := decide (st.reported id = .valid)

/-- Whether the store is verifying, or a verification waits (R182, R186, R187). -/
def Store.verifying (st : Store) : Bool :=
  match st.verify with
  | .idle => false
  | _ => true

/-- Whether start-up verification runs (R186). -/
def Store.startingUp (st : Store) : Bool :=
  match st.verify with
  | .startup _ => true
  | _ => false

/-- The number of link commits in the queue (R182). -/
def Store.commitCount (st : Store) : Nat :=
  (st.queue.filter (fun e => match e with
    | .commit _ _ _ _ _ => true
    | _ => false)).length

/-- Put an entry at the end of the write queue (R182). -/
def Store.enqueue (st : Store) (e : QueueEntry) : Store := { st with queue := st.queue ++ [e] }

/-- The blocks of a record or checkpoint image whose length the manual does not give: 1 to `most` (assumption 1). -/
def freeBlocks (draw most : Nat) : Nat := 1 + (Config.imageLength draw).toNat % most

/-- The blocks of an image of `bytes` bytes with its check word (R183). -/
def blocksOf (bytes : Nat) : Nat := (bytes + 2 + 63) / 64

/-! ### Calendar (R205) -/

/-- The calendar time of a part-clock instant (R205). -/
def Calendar.timeOf (c : Calendar) (t : Instant) : BitVec 32 :=
  c.value + BitVec.ofInt 32 (roundDiv (t - c.setAt).toInt 10)

/-! ### Mass (R82) -/

/-- A mass in kg from a standard volume in litres (R82). -/
def mass (b : Basis) (v : Int) : Int :=
  let d : Int := match b.massBasis with
    | .vac => b.density
    | .air => b.density - 11
  roundDiv (v * d) 10000

end Sys2Proof.Machine
end

