-- ==== Sys2Proof/Machine/Flags.lean ====
section
/-!
DEFINITION. The flags of a source (HELD, the held count, SUSPECT, REVERSE, freshness: R48 to R52) and the flags of
the figure records as ordered lists for the encodings of R197.
-/

namespace Sys2Proof.Machine

/-- Freshness against a STALENESS, at an instant (R52). -/
def freshness (arrival : Option Instant) (now : Instant) (staleness : Nat) : Freshness :=
  match arrival with
  | none => .never
  | some t => if age now t ≤ staleness then .fresh else .stale

/-- Whether a job counts a source as STALE: a NEVER source counts (R52). -/
def Freshness.isStale : Freshness → Bool
  | .fresh => false
  | .never => true
  | .stale => true

/-- The held count after a reading (R48): one more, stopping at 255, for a held reading; 0 for another. -/
def nextHeldCount (held : Bool) (count : Nat) : Nat := if held then min 255 (count + 1) else 0

/-- SUSPECT of a tank channel (R49). -/
def tankSuspect (count : Nat) (r : TankReading) : Bool :=
  decide (3 ≤ count) || r.ullage.isNone || r.temp.isNone

/-- SUSPECT of a meter run (R49). -/
def meterSuspect (count : Nat) (r : MeterReading) : Bool :=
  decide (3 ≤ count) || r.total.isNone || r.temp.isNone || r.pressure.isNone

/-- Whether a meter observation's total steps backward against the total held (R50). -/
def stepsBack (newTotal : Option Nat) (latest : Option Nat) : Bool :=
  match newTotal, latest with
  | some n, some o => decide (500000000 ≤ totalDelta n o)
  | _, _ => false

/-- No flag of a tank figure record. -/
def TankFlags.clear : TankFlags := ⟨false, false, false, false, false, false, false, false, false, false, false, false⟩

/-- No flag of a meter figure record. -/
def MeterFlags.clear : MeterFlags := ⟨false, false, false, false, false, false, false, false, false, false⟩

/-- The flags of a tank figure record in the order of R66. -/
def TankFlags.toList (f : TankFlags) : List Bool :=
  [f.trimLimit, f.listLimit, f.clamped, f.waterLimit, f.fwCapped, f.expLimit, f.vcfLimit, f.noReading, f.noUllage,
   f.noTemp, f.noAttitude, f.table]

/-- The flags of a meter figure record in the order of R85. -/
def MeterFlags.toList (f : MeterFlags) : List Bool :=
  [f.unbracketed, f.stepReverse, f.noTotal, f.noBase, f.noTemp, f.noPressure, f.expLimit, f.vcfLimit, f.table,
   f.noShipInstant]

/-- No cause. -/
def Causes.none : Causes := ⟨[], [], [], [], []⟩

/-- Whether at least one cause of R116 holds. -/
def Causes.any (c : Causes) : Bool :=
  !c.stale.isEmpty || !c.suspect.isEmpty || !c.unbracketed.isEmpty || !c.clamped.isEmpty || !c.table.isEmpty

end Sys2Proof.Machine
end

