-- ==== Sys2Proof/Machine/Operands.lean ====
section
/-!
DEFINITION. Reading the fields of a PAYLOAD (R197): multi-byte fields most significant byte first, signed fields in
two's complement, and the decoders of the enumerations and sets a request carries.
-/

namespace Sys2Proof.Machine

/-- The unsigned byte at an offset; 0 beyond the end (every use follows a form check). -/
def u8 (pl : List Byte) (i : Nat) : Nat := ((pl[i]?).getD 0).toNat

/-- The unsigned two-byte field at an offset. -/
def u16 (pl : List Byte) (i : Nat) : Nat := u8 pl i * 256 + u8 pl (i + 1)

/-- The unsigned four-byte field at an offset. -/
def u32 (pl : List Byte) (i : Nat) : Nat := u16 pl i * 65536 + u16 pl (i + 2)

/-- The signed two-byte field at an offset. -/
def s16 (pl : List Byte) (i : Nat) : Int :=
  if u16 pl i < 32768 then (u16 pl i : Int) else (u16 pl i : Int) - 65536

/-- The signed four-byte field at an offset. -/
def s32 (pl : List Byte) (i : Nat) : Int :=
  if u32 pl i < 2147483648 then (u32 pl i : Int) else (u32 pl i : Int) - 4294967296

/-- Whether a payload has the length its fields give (R195). -/
def formLen (n : Nat) (pl : List Byte) : Bool := decide (pl.length = n)

/-- Whether a value lies in a range, bounds included. -/
def inRange (lo hi v : Int) : Bool := decide (lo ≤ v) && decide (v ≤ hi)

/-- The parcel a number 1..4 names (R1). -/
def parcelOf (n : Nat) : Option ParcelNo :=
  match n with
  | 1 => some 0
  | 2 => some 1
  | 3 => some 2
  | 4 => some 3
  | _ => none

/-- A direction from its enumeration value: LOAD is 1, DISCHARGE is 2 (R3, R197). -/
def directionOf (n : Nat) : Option Direction :=
  match n with
  | 1 => some .load
  | 2 => some .discharge
  | _ => none

/-- Bit `k` of a one-byte set (R197). -/
def setBit (n k : Nat) : Bool := decide (n / 2 ^ k % 2 = 1)

/-- Whether each byte is a printable character, 0x20..0x7E (R3). -/
def printable (label : List Byte) : Bool :=
  label.all (fun b => decide (0x20 ≤ b.toNat) && decide (b.toNat ≤ 0x7E))

/-- The value of a field that may hold a sentinel. -/
def unlessSentinel {α : Type} [DecidableEq α] (sentinel v : α) : Option α :=
  if v = sentinel then none else some v

/-! ### Parameters (section 1.3) -/

/-- Lowest value, highest value, default, and the tenths in one unit of a parameter named 1..13 (section 1.3). -/
def paramTable : List (Nat × Nat × Nat × Nat) :=
  [(500, 20000, 3000, 1), (0, 100000, 2000, 1), (10, 600, 60, 10), (5, 600, 90, 10), (1, 10, 3, 1),
   (1, 10, 3, 1), (1, 15, 4, 1), (30, 3600, 300, 10), (10, 600, 60, 10), (10, 100000, 200, 1),
   (60, 7200, 1800, 10), (1, 60, 10, 1), (0, 4, 0, 1)]

/-- The row of a parameter name 1..13. -/
def paramRow (name : Nat) : Option (Nat × Nat × Nat × Nat) :=
  if name = 0 then none else paramTable[name - 1]?

/-- A value brought into a parameter's range (R5). -/
def clampTo (lo hi : Nat) (v : Int) : Nat :=
  if v < lo then lo else if (hi : Int) < v then hi else v.toNat

/-- The parameters at their defaults, as held (section 1.3). -/
def Params.defaults : Params where
  tolerance := 3000
  floor := 2000
  cyclePeriod := 600
  staleness := 900
  confirmCount := 3
  clearCount := 3
  downshiftN := 4
  restoreTime := 3000
  settleTime := 600
  flowThreshold := 200
  acceptWindow := 18000
  checkpointInterval := 10
  valveInput := 0

/-- A parameter's held value replaced (R5). -/
def Params.put (x : Params) (name v : Nat) : Params :=
  match name with
  | 1 => { x with tolerance := v }
  | 2 => { x with floor := v }
  | 3 => { x with cyclePeriod := v }
  | 4 => { x with staleness := v }
  | 5 => { x with confirmCount := v }
  | 6 => { x with clearCount := v }
  | 7 => { x with downshiftN := v }
  | 8 => { x with restoreTime := v }
  | 9 => { x with settleTime := v }
  | 10 => { x with flowThreshold := v }
  | 11 => { x with acceptWindow := v }
  | 12 => { x with checkpointInterval := v }
  | 13 => { x with valveInput := v }
  | _ => x

/-- The held values in the order of section 1.3. -/
def Params.values (x : Params) : List Nat :=
  [x.tolerance, x.floor, x.cyclePeriod, x.staleness, x.confirmCount, x.clearCount, x.downshiftN, x.restoreTime,
   x.settleTime, x.flowThreshold, x.acceptWindow, x.checkpointInterval, x.valveInput]

/-! ### Request codes and rights (R196) -/

/-- The request a KIND names (R196). -/
def reqOf (kind : Byte) : Option Req :=
  match kind.toNat with
  | 0x01 => some .declare
  | 0x02 => some .setParameter
  | 0x03 => some .assignTank
  | 0x04 => some .unassignTank
  | 0x05 => some .assignMeter
  | 0x06 => some .unassignMeter
  | 0x07 => some .offerBasis
  | 0x08 => some .openParcel
  | 0x09 => some .suspend
  | 0x0A => some .resume
  | 0x0B => some .close
  | 0x0C => some .cancelClose
  | 0x0D => some .regauge
  | 0x0E => some .accept
  | 0x0F => some .dispute
  | 0x10 => some .setLineAdjust
  | 0x11 => some .witness
  | 0x12 => some .abort
  | 0x13 => some .restoreGrade
  | 0x14 => some .release
  | 0x15 => some .abandon
  | 0x16 => some .readParcel
  | 0x20 => some .tankReading
  | 0x21 => some .attitudeReading
  | 0x22 => some .meterReading
  | 0x30 => some .tableBegin
  | 0x31 => some .tableData
  | 0x32 => some .tableCommit
  | 0x33 => some .readTable
  | 0x34 => some .lockTable
  | 0x35 => some .unlockTable
  | 0x36 => some .verifyStore
  | 0x37 => some .clearHistory
  | 0x40 => some .readRecord
  | 0x50 => some .status
  | 0x51 => some .silenceAlarm
  | 0x52 => some .setCalendar
  | _ => none

/-- The request code of a request (R196). -/
def Req.code : Req → Nat
  | .declare => 0x01
  | .setParameter => 0x02
  | .assignTank => 0x03
  | .unassignTank => 0x04
  | .assignMeter => 0x05
  | .unassignMeter => 0x06
  | .offerBasis => 0x07
  | .openParcel => 0x08
  | .suspend => 0x09
  | .resume => 0x0A
  | .close => 0x0B
  | .cancelClose => 0x0C
  | .regauge => 0x0D
  | .accept => 0x0E
  | .dispute => 0x0F
  | .setLineAdjust => 0x10
  | .witness => 0x11
  | .abort => 0x12
  | .restoreGrade => 0x13
  | .release => 0x14
  | .abandon => 0x15
  | .readParcel => 0x16
  | .tankReading => 0x20
  | .attitudeReading => 0x21
  | .meterReading => 0x22
  | .tableBegin => 0x30
  | .tableData => 0x31
  | .tableCommit => 0x32
  | .readTable => 0x33
  | .lockTable => 0x34
  | .unlockTable => 0x35
  | .verifyStore => 0x36
  | .clearHistory => 0x37
  | .readRecord => 0x40
  | .status => 0x50
  | .silenceAlarm => 0x51
  | .setCalendar => 0x52

/-- Whether a link may make a request (R196); a dash of the table is REFUSED_RIGHTS. -/
def mayRequest : Req → Link → Bool
  | .declare, l | .setParameter, l | .offerBasis, l | .openParcel, l | .suspend, l | .resume, l | .close, l
  | .cancelClose, l | .regauge, l | .accept, l | .dispute, l => decide (l ≠ .survey)
  | .assignTank, l | .unassignTank, l | .tankReading, l | .attitudeReading, l | .clearHistory, l =>
    decide (l = .ship)
  | .assignMeter, l | .unassignMeter, l | .setLineAdjust, l | .meterReading, l => decide (l = .shore)
  | .witness, l | .abort, l | .restoreGrade, l | .lockTable, l | .unlockTable, l | .verifyStore, l
  | .setCalendar, l => decide (l = .survey)
  | .release, _ | .abandon, _ | .readParcel, _ | .tableBegin, _ | .tableData, _ | .tableCommit, _ | .readTable, _
  | .readRecord, _ | .status, _ | .silenceAlarm, _ => true

/-- Whether a link may write an item (section 10.1, R179). -/
def mayWriteItem (id : Nat) (l : Link) : Bool :=
  if id ≤ 16 then decide (l = .ship)
  else if id ≤ 24 then decide (l = .shore)
  else if id ≤ 32 then decide (l ≠ .ship)
  else decide (l = .ship)

end Sys2Proof.Machine
end

