-- ==== Sys2Proof/Machine/Wire.lean ====
section
/-!
DEFINITION. What goes on the line: the CRC and frame layout of R192, the field encodings of R197, the response of
R198 and the notices of R201. Where a rule lists what a message carries but R197 fixes no encoding or order for it,
the choices made here are those of assumption 7.
-/

namespace Sys2Proof.Machine

/-! ### Fields (R197) -/

/-- A number in `n` bytes, most significant first. -/
def bigEndian : Nat → Nat → List Byte
  | 0, _ => []
  | n + 1, v => BitVec.ofNat 8 (v / 256 ^ n) :: bigEndian n v

/-- An unsigned field of one byte. -/
def e1 (v : Nat) : List Byte := bigEndian 1 v

/-- An unsigned field of two bytes. -/
def e2 (v : Nat) : List Byte := bigEndian 2 v

/-- An unsigned field of four bytes. -/
def e4 (v : Nat) : List Byte := bigEndian 4 v

/-- A signed field of two bytes. -/
def i2 (v : Int) : List Byte := bigEndian 2 (v % 65536).toNat

/-- A field of four bytes holding a signed figure, or an unsigned one carried as an integer. -/
def i4 (v : Int) : List Byte := bigEndian 4 (v % 4294967296).toNat

/-- A field of eight bytes. -/
def i8 (v : Int) : List Byte := bigEndian 8 (v % 18446744073709551616).toNat

/-- A part-clock instant or a calendar time. -/
def eTime (t : BitVec 32) : List Byte := bigEndian 4 t.toNat

/-- An indication that stands alone is a byte of its own: 0 clear or no, 1 set or yes (assumption 7). -/
def eBool (b : Bool) : List Byte := e1 (if b then 1 else 0)

/-- An optional field: a presence byte, then the field when present. -/
def eOpt {α : Type} (f : α → List Byte) : Option α → List Byte
  | none => [0]
  | some x => 1 :: f x

/-- A list: the entry count, then the entries. -/
def eList {α : Type} (f : α → List Byte) (xs : List α) : List Byte := e1 xs.length ++ xs.flatMap f

/-- The bits of a set, the first-listed member least significant. -/
def setValue : List Bool → Nat
  | [] => 0
  | b :: rest => (if b then 1 else 0) + 2 * setValue rest

/-- A set of up to 8 members. -/
def eSet (members : List Bool) : List Byte := e1 (setValue members)

/-- A set of 9 to 16 members. -/
def eWideSet (members : List Bool) : List Byte := e2 (setValue members)

/-- A text: the character count, then the characters. -/
def eText (t : List Byte) : List Byte := e1 t.length ++ t

/-! ### Enumerations: positions from 1 in the list the rule gives -/

/-- A parcel number. -/
def eParcel (p : ParcelNo) : List Byte := e1 (p.val + 1)

/-- A link: SHIP 1, SHORE 2, SURVEY 3. -/
def eLink : Link → List Byte
  | .ship => [1]
  | .shore => [2]
  | .survey => [3]

/-- A parcel state, in the order of section 1.2. -/
def eState : ParcelState → List Byte
  | .free => [1]
  | .declared => [2]
  | .basisAgreed => [3]
  | .opening => [4]
  | .transferring => [5]
  | .suspended => [6]
  | .closing => [7]
  | .awaitingAccept => [8]
  | .closed => [9]
  | .disputed => [10]

/-- A direction. -/
def eDirection : Direction → List Byte
  | .load => [1]
  | .discharge => [2]

/-- A dispute cause. -/
def eDispute : DisputeCause → List Byte
  | .partyShip => [1]
  | .partyShore => [2]
  | .timeout => [3]
  | .aborted => [4]

/-- A closed-from state. -/
def eClosedFrom : ClosedFrom → List Byte
  | .transferring => [1]
  | .suspended => [2]

/-- A method. -/
def eMethod : Method → List Byte
  | .tab => [1]
  | .quad => [2]
  | .lin => [3]

/-- A mass basis. -/
def eMassBasis : MassBasis → List Byte
  | .vac => [1]
  | .air => [2]

/-- A free-water mode. -/
def eFreeWater : FreeWaterMode → List Byte
  | .measured => [1]
  | .none => [2]

/-- A pressure mode. -/
def ePressureMode : PressureMode → List Byte
  | .on => [1]
  | .off => [2]

/-- The cause of a failed resolution. -/
def eResolveFailure : ResolveFailure → List Byte
  | .refMismatch => [1]
  | .densityMismatch => [2]
  | .massBasis => [3]
  | .noCommonMethod => [4]
  | .tableInvalid => [5]

/-- A freshness. -/
def eFreshness : Freshness → List Byte
  | .never => [1]
  | .fresh => [2]
  | .stale => [3]

/-- A source by its place among the 25: T1..T16, ATT, M1..M8. -/
def eSource : SourceName → List Byte
  | .tank n => e1 n
  | .att => e1 17
  | .meter n => e1 (17 + n)

/-- A reported status, in the order of R25. -/
def eReported : ReportedStatus → List Byte
  | .empty => [1]
  | .valid => [2]
  | .invalid => [3]
  | .writing => [4]

/-- An alarm state: NORMAL 1, ALARM 2. -/
def eAlarm (alarm : Bool) : List Byte := e1 (if alarm then 2 else 1)

/-- A level: ACTIVE 1, INACTIVE 2. -/
def eLevel (level : Bool) : List Byte := e1 (if level then 1 else 2)

/-- An input: ESD, MV1..MV4, SPARE. -/
def eInput : InputName → List Byte
  | .esd => [1]
  | .mv n => e1 (n.val + 2)
  | .spare => [6]

/-- The ending of a finalize write: STORED 1, WRITE_FAULT 2. -/
def eEnding (stored : Bool) : List Byte := e1 (if stored then 1 else 2)

/-- The reason a direction has no factor. -/
def eVefReason : VefReason → List Byte
  | .historyInvalid => [1]
  | .fewEntries => [2]
  | .outOfRange => [3]

/-- A factor (R142, R172): a byte 1 and the factor, or a byte 0 and the reason there is none (assumption 7). -/
def eVef : VefResult → List Byte
  | .available f => 1 :: i4 f
  | .unavailable r => 0 :: eVefReason r

/-- The cause of a GRADE_CHANGE (R121). -/
def eGradeCause : GradeCause → List Byte
  | .downshift => [1]
  | .restoredByTime => [2]
  | .restoreGrade => [3]

/-- The cause of a PARCEL_STATE (R4). -/
def eCause : Cause → List Byte
  | .request r l => 1 :: e1 r.code ++ eLink l
  | .esdActive => [2]
  | .esdInactive => [3]
  | .settleValve => [4]
  | .settledByTime => [5]
  | .openDone => [6]
  | .openFailed => [7]
  | .closeDone => [8]
  | .closeFailed => [9]
  | .acceptTimeout => [10]
  | .restart => [11]

/-! ### Sets and records -/

/-- A set of parties. -/
def ePartySet (x : PartySet) : List Byte := eSet [x.ship, x.shore]

/-- A suspend set. -/
def eSuspendSet (x : SuspendSet) : List Byte := eSet [x.ship, x.shore, x.esd, x.restart]

/-- An acceptance set. -/
def eAcceptSet (x : AcceptSet) : List Byte := eSet [x.ship, x.shore, x.survey]

/-- The downshift flags. -/
def eDownFlags (a b : Bool) : List Byte := eSet [a, b]

/-- The part of an offer both parties send (section 2.1). -/
def eCommonOffer (o : CommonOffer) : List Byte :=
  eSet [o.tab, o.quad, o.lin] ++ eOpt e1 o.tableId ++ e2 o.alpha ++ i2 o.refTemp ++ eSet [o.vac, o.air] ++ e2 o.density

/-- A ship offer. -/
def eShipOffer (o : ShipOffer) : List Byte := eCommonOffer o.common ++ eFreeWater o.freeWater

/-- A shore offer. -/
def eShoreOffer (o : ShoreOffer) : List Byte := eCommonOffer o.common ++ ePressureMode o.pressure ++ e2 o.compress

/-- A resolved basis, in the order of R35. -/
def eBasis (b : Basis) : List Byte :=
  eMethod b.method ++ eOpt e1 b.tableId ++ eOpt e2 b.alpha ++ i2 b.refTemp ++ e2 b.density ++ eMassBasis b.massBasis
    ++ eFreeWater b.freeWater ++ ePressureMode b.pressure ++ e2 b.compress ++ eBool b.tabFallback

/-- An attitude with its instant. -/
def eAtt (a : AttReading) : List Byte := i2 a.trim ++ i2 a.list ++ eTime a.arrival

/-- A tank figure record, in the order of R66. How its optional fields are grouped is the model's choice (assumption 7):
trim, list and the attitude's instant are one optional field behind one presence byte, as they are absent together (R78);
the reading's instant, U, T, d, Ct, Cl and Uc have a presence byte each. -/
def eTankFigure (f : TankFigure) : List Byte :=
  e1 f.tank ++ eOpt eTime f.instant ++ eOpt e2 f.ullage ++ eOpt i2 f.temp ++ eOpt e2 f.dip ++ eOpt eAtt f.att
    ++ eOpt i2 f.ct ++ eOpt i2 f.cl ++ eOpt i2 f.uc ++ i4 f.tov ++ i4 f.fwv ++ i4 f.gov ++ i4 f.vcf ++ i4 f.gsv
    ++ eWideSet f.flags.toList

/-- A ring entry used by an alignment: instant and total. -/
def eAligned (x : Instant × Nat) : List Byte := eTime x.1 ++ e4 x.2

/-- A meter figure record, in the order of R85. The entries used are two optional fields, the one entry of an unbracketed
meter being the first (assumption 7). -/
def eMeterFigure (f : MeterFigure) : List Byte :=
  e1 f.meter ++ eTime f.snapshot ++ eOpt eAligned f.entryA ++ eOpt eAligned f.entryB ++ eOpt e4 f.aligned
    ++ eOpt e4 f.lastBefore ++ i4 f.iv ++ i2 f.d ++ i4 f.gv ++ i2 f.temp ++ e2 f.pressure ++ i4 f.vcf ++ i4 f.pcf
    ++ i8 f.dmL ++ i8 f.accAfter ++ eOpt e4 f.lastAfter ++ eWideSet f.flags.toList

/-- Tank totals. -/
def eTotals (t : TankTotals) : List Byte := i4 t.tov ++ i4 t.fwv ++ i4 t.gov ++ i4 t.gsv

/-- Causes (R116): a list of sources or items for each cause, in the order of the rule and without a cause code, the list
empty for a cause that does not hold (assumption 7). -/
def eCauses (c : Causes) : List Byte :=
  eList eSource c.stale ++ eList eSource c.suspect ++ eList e1 c.unbracketed ++ eList e1 c.clamped ++ eList e1 c.table

/-- An outcome with its reason, an optional field, and its cleanness (R117; assumption 7). -/
def eOutcome : CycleOutcome → List Byte
  | .notJudgedGrade3 => [1, 1, 1, 0]
  | .notJudgedBelowMinimum => [1, 1, 2, 0]
  | .indeterminate => [2, 0, 0]
  | .within clean => [3, 0] ++ eBool clean
  | .divergent => [4, 0, 0]

/-- A final judgement: FINAL_WITHIN 1, FINAL_OUTSIDE 2. -/
def eJudgement (within : Bool) : List Byte := e1 (if within then 1 else 2)

/-- A cause of a failed OPEN (R40): NO_READING 1 with its source, TABLE_INVALID 2 with its item (assumption 7). -/
def eOpenCause : OpenCause → List Byte
  | .noReading src => 1 :: eSource src
  | .tableInvalid item => 2 :: e1 item

/-- The outcome and cause of a parcel: AGREED 1, DISPUTED 2 with its cause. -/
def eOutcomeCause (c : Option DisputeCause) : List Byte := e1 (if c.isSome then 2 else 1) ++ eOpt eDispute c

/-! ### Notices (R201) -/

/-- The kind code of a notice. -/
def NoticeBody.code : NoticeBody → Nat
  | .parcelState .. => 0x01
  | .basisResolved .. => 0x02
  | .basisFailed .. => 0x02
  | .openFailed .. => 0x03
  | .cycleResult .. => 0x04
  | .alarmChange .. => 0x05
  | .gradeChange .. => 0x06
  | .figures .. => 0x07
  | .closeFailed .. => 0x08
  | .outcomeStored .. => 0x09
  | .tableResult .. => 0x0A
  | .verified .. => 0x0A
  | .inputChange .. => 0x0B

/-- Whether a notice is a CYCLE_RESULT, the kind that gives way first (R202). -/
def NoticeBody.isCycleResult : NoticeBody → Bool
  | .cycleResult .. => true
  | _ => false

/-- The ending of a commit as TABLE_RESULT names it (R184). -/
def eCommitEnding : CommitEnding → List Byte
  | .valid => [1]
  | .empty => [2]
  | .writeFault _ => [3]

/-- The block a commit failed at, absent where it did not fail (R184). -/
def CommitEnding.block : CommitEnding → Option Nat
  | .valid | .empty => none
  | .writeFault b => some b

/-- The fields of a notice, in the order its posting rule lists them. The model's own reading (assumption 7): BASIS_RESULT
numbers its outcomes RESOLVED 1 and FAILED 2; B, the half band, the cycle number of a GRADE_CHANGE and the block of a
TABLE_RESULT are each an optional field with its presence byte; VERIFIED is the fourth result of TABLE_RESULT, after the
three of R184. Two sizes are the model's choice too, R197 naming neither field (assumption 7): the image length of a
TABLE_RESULT is 2 bytes, and the number of its failed block is 1. -/
def NoticeBody.fields : NoticeBody → List Byte
  | .parcelState p before after cause os ss rr cr rs dispute =>
    eParcel p ++ eState before ++ eState after ++ eCause cause ++ ePartySet os ++ eSuspendSet ss ++ ePartySet rr
      ++ ePartySet cr ++ ePartySet rs ++ eOpt eDispute dispute
  | .basisResolved p b so sh => eParcel p ++ e1 1 ++ eBasis b ++ eShipOffer so ++ eShoreOffer sh
  | .basisFailed p cause => eParcel p ++ e1 2 ++ eResolveFailure cause
  | .openFailed p causes => eParcel p ++ eList eOpenCause causes
  | .cycleResult p c grade ind d1 d2 alarm dv cl ov =>
    eParcel p ++ e2 c.cycle.toNat ++ eTime c.snapshot ++ i4 c.ship ++ i4 c.shore ++ i4 c.delta ++ i4 c.q
      ++ eOpt i4 c.band ++ eOpt i4 c.half ++ eOutcome c.outcome ++ eCauses c.causes ++ e1 c.grade ++ e1 grade ++ e1 ind
      ++ eDownFlags d1 d2 ++ eAlarm alarm ++ e1 dv ++ e1 cl ++ eBool ov
  | .alarmChange p alarm cycle delta band grade raised =>
    eParcel p ++ eAlarm alarm ++ e1 (if alarm then 1 else 2) ++ e2 cycle.toNat ++ i4 delta ++ i4 band ++ e1 grade
      ++ e1 raised
  | .gradeChange p before after cause cycle d1 d2 lowest =>
    eParcel p ++ e1 before ++ e1 after ++ eGradeCause cause ++ eOpt (fun c => e2 c.toNat) cycle ++ eDownFlags d1 d2
      ++ e1 lowest
  | .figures p f req expiry =>
    eParcel p ++ e1 f.revision ++ eTime f.snapshot ++ i4 f.ship ++ i4 f.lineAdjust ++ i4 f.shore ++ i4 f.delta
      ++ eVef f.vef ++ eOpt i4 f.adjShip ++ eOpt i4 f.adjDelta ++ i4 f.massShip ++ i4 f.massShore ++ eOpt i4 f.massAdj
      ++ i4 f.band ++ eJudgement f.within ++ eCauses f.conditions ++ eAcceptSet req ++ eTime expiry
  | .closeFailed p returned items => eParcel p ++ eState returned ++ eList e1 items
  | .outcomeStored p seq cause appended r h c =>
    eParcel p ++ e2 seq ++ eOutcomeCause cause ++ eBool appended ++ eEnding r ++ eEnding h ++ eEnding c
  | .tableResult item link ending length check =>
    e1 item ++ eLink link ++ eCommitEnding ending ++ e2 length ++ e2 check.toNat ++ eOpt e1 ending.block
  | .verified items records checkpoints => e1 4 ++ eList e1 items ++ eList e2 records ++ eList eParcel checkpoints
  | .inputChange input level levels => eInput input ++ eLevel level ++ levels.flatMap eLevel

/-! ### Frames (R192) -/

/-- One bit step of the CRC: polynomial 0x1021, most significant bit first. -/
def crcBit (r : Word16) : Word16 := if r.msb then (r <<< 1) ^^^ 0x1021 else r <<< 1

/-- The CRC register after one more byte. -/
def crcByte (r : Word16) (b : Byte) : Word16 :=
  crcBit (crcBit (crcBit (crcBit (crcBit (crcBit (crcBit (crcBit (r ^^^ (b.setWidth 16 <<< 8)))))))))

/-- The CRC of a run of bytes: initial value 0xFFFF, no reflection, no final exclusive-or. -/
def crc (bytes : List Byte) : Word16 := bytes.foldl crcByte 0xFFFF

/-- LEN, KIND, TAG and PAYLOAD of a frame. -/
def frameBody (kind tag : Byte) (payload : List Byte) : List Byte :=
  BitVec.ofNat 8 (payload.length + 2) :: kind :: tag :: payload

/-- A whole frame. -/
def frameBytes (kind tag : Byte) (payload : List Byte) : List Byte :=
  0xC5 :: 0x3A :: (frameBody kind tag payload ++ e2 (crc (frameBody kind tag payload)).toNat)

/-- The response code of R198. -/
def Code.value : Code → Nat
  | .ok => 0x00
  | .accepted => 0x01
  | .reserved => 0x02
  | .refusedRights => 0x10
  | .refusedState => 0x11
  | .refusedRange => 0x12
  | .refusedBusy => 0x13
  | .refusedFull => 0x14
  | .refusedLocked => 0x15
  | .staleRevision => 0x16
  | .tagMismatch => 0x17
  | .checkMismatch => 0x18
  | .unknownRequest => 0x19
  | .refusedFormat => 0x1A

/-- The frame of a response (R198). -/
def Response.frame (r : Response) : List Byte :=
  frameBytes 0x80 r.tag (e1 r.code.value ++ eSet [r.clamped, r.truncated] ++ r.fields)

/-- The frame of a notice (R201). -/
def Notice.frame (n : Notice) : List Byte :=
  frameBytes 0x81 0 (e1 n.body.code ++ eTime n.posted ++ n.body.fields)

end Sys2Proof.Machine
end

