-- ==== Sys2Proof/Machine/Posting.lean ====
section
/-!
DEFINITION. The link controllers' shared operations: placing a notice (R201, R202), choosing the next frame to send
(R199), posting a response (R195, R198), and taking a request (R193, R195), which every request command calls.
-/

namespace Sys2Proof.Machine

/-- A notice list without its oldest CYCLE_RESULT (R202). -/
def dropCycleResult : List Notice → List Notice
  | [] => []
  | n :: rest => if n.body.isCycleResult then rest else n :: dropCycleResult rest

/-- Place a notice for a link (R201, R202): not at all in BREAK; as the newest while fewer than 16 wait; by removing
the oldest CYCLE_RESULT of a full queue that holds one; and otherwise dropped with NOTICE_LOST set. -/
def LinkState.place (k : LinkState) (n : Notice) : LinkState :=
  match k.condition with
  | .broken => k
  | .normal =>
    if k.notices.length < 16 then { k with notices := k.notices ++ [n] }
    else if k.notices.any (fun m => m.body.isCycleResult) then
      { k with notices := dropCycleResult k.notices ++ [n] }
    else { k with lost := true }

/-- Post a notice to one link. -/
def State.postTo (s : State) (l : Link) (b : NoticeBody) : State := s.setLink l ((s.link l).place ⟨s.clock, b⟩)

/-- Post a notice to all three links. -/
def State.postAll (s : State) (b : NoticeBody) : State := ((s.postTo .ship b).postTo .shore b).postTo .survey b

/-- Choose the next frame on an idle transmitter (R199): the oldest response, else the oldest notice, which leaves
the queue as its sending begins. Nothing is sent in BREAK (R194). -/
def LinkState.transmit (k : LinkState) : LinkState :=
  match k.condition, k.tx with
  | .normal, .idle =>
    match k.responses with
    | r :: _ => { k with tx := .response r.frame }
    | [] =>
      match k.notices with
      | n :: rest => { k with tx := .notice n.frame, notices := rest }
      | [] => k
  | _, _ => k

/-- Every idle transmitter chooses its next frame (R199); done once, at the end of a command. -/
def State.transmitAll (s : State) : State :=
  { s with ship := s.ship.transmit, shore := s.shore.transmit, survey := s.survey.transmit }

/-- What an owning block answers to a request (R198). -/
structure Reply where
  code : Code
  clamped : Bool
  truncated : Bool
  fields : List Byte
  deriving DecidableEq, Repr, Inhabited

/-- A response with a code and no field. -/
def Reply.plain (c : Code) : Reply := ⟨c, false, false, []⟩

/-- A response with a code and result fields. -/
def Reply.withFields (c : Code) (fields : List Byte) : Reply := ⟨c, false, false, fields⟩

/-- How an owning block answers a request: the state after it, and its reply. -/
abbrev Body := Link → List Byte → State → State × Reply

/-- A refusal: the state as it was. -/
def refuse (s : State) (c : Code) : State × Reply := (s, Reply.plain c)

/-- Place a response at the end of a link's response list (R195). -/
def State.respond (s : State) (l : Link) (tag : Byte) (r : Reply) : State :=
  s.setLink l { s.link l with responses := (s.link l).responses ++ [⟨tag, r.code, r.clamped, r.truncated, r.fields⟩] }

/-- The framer of a link back in HUNTING (R193). -/
def State.hunt (s : State) (l : Link) : State := s.setLink l { s.link l with framer := .hunting false }

/-- A complete frame has arrived on a link (R193, R195): nothing reaches a link in BREAK; a frame that finds 8
responses waiting is discarded; otherwise the request is examined by `answer`, its response is posted, and idle
transmitters choose their next frame. -/
def State.takeFrame (s : State) (l : Link) (tag : Byte) (answer : State → State × Reply) : State :=
  match (s.link l).condition with
  | .broken => s
  | .normal =>
    if 8 ≤ (s.link l).responses.length then s.hunt l
    else
      let out := answer (s.hunt l)
      (out.1.respond l tag out.2).transmitAll

/-- The examination of a request whose KIND is a request code (R195): rights by the Link Interface, then the owning
block. -/
def examine (r : Req) (body : Body) (l : Link) (pl : List Byte) (s : State) : State × Reply :=
  if mayRequest r l then body l pl s else refuse s .refusedRights

/-- A request taken from a link (R193, R195). -/
def serve (r : Req) (body : Body) (l : Link) (tag : Byte) (pl : List Byte) (s : State) : State :=
  s.takeFrame l tag (examine r body l pl)

/-! ### The checks every parcel request shares (R2) -/

/-- The fields every accepted parcel request's response begins with (R2): number, state, the five party sets. -/
def State.parcelFields (s : State) (p : ParcelNo) : List Byte :=
  let r := s.parcel p
  eParcel p ++ eState r.state ++ ePartySet r.openSet ++ eSuspendSet r.suspendSet ++ ePartySet r.restartResume
    ++ ePartySet r.closeReservation ++ ePartySet r.releaseSet

/-- The response to an accepted parcel request, with the result fields its own rule names. -/
def State.answerParcel (s : State) (p : ParcelNo) (c : Code) (fields : List Byte) : State × Reply :=
  (s, Reply.withFields c (s.parcelFields p ++ fields))

/-- Checks 2 and 3 of R2 with the form check of R195 between them, for a request whose first field is a parcel
number 1..4: the store verifying, the form, the parcel number. That the parcel number is the first byte of the payload, in
OFFER_BASIS (R30) and OPEN (R39) as in every request that names a parcel, is the model's reading: section 2.1 and the rules
of those requests give the number no place among the fields (assumption 7). -/
def withParcel (form : List Byte → Bool) (pl : List Byte) (s : State) (k : ParcelNo → State × Reply) :
    State × Reply :=
  if s.store.verifying then refuse s .refusedBusy
  else if form pl then
    match parcelOf (u8 pl 0) with
    | some p => k p
    | none => refuse s .refusedRange
  else refuse s .refusedFormat

end Sys2Proof.Machine
end

