-- ==== Sys2Proof/Machine/Events.lean ====
section
/-!
DEFINITION. What several commands do to a parcel alike: the notice and lamp of a change (R4, R211), the alarm output
(R209), the checkpoint request (R25), placing, voiding and cancelling jobs (R101, R106, R108), suspending and
resuming (R11 to R14), executing a close (R20), and the return to FREE (R24).
-/

namespace Sys2Proof.Machine

/-! ### Lamps and the alarm output -/

/-- The base pattern of a parcel's lamp (R211). -/
def Parcel.pattern (r : Parcel) : LampPattern :=
  if r.recon.alarm then .fast
  else match r.state with
    | .suspended => .slow
    | .awaitingAccept => .slow
    | .opening => .steady
    | .transferring => .steady
    | .closing => .steady
    | .declared => .dim
    | .basisAgreed => .dim
    | .closed => .dim
    | .disputed => .dim
    | .free => .off

/-- Choose a parcel's base pattern again; a pattern that differs from the one showing starts at its on phase (R211). -/
def State.relamp (s : State) (p : ParcelNo) : State :=
  let lamp := s.lines.lamp p
  let pat := (s.parcel p).pattern
  if pat = lamp.pattern then s
  else s.setLines (s.lines.setLamp p { lamp with pattern := pat, since := s.msec })

/-- What a lamp driver shows: off, on, or the two duty cycles of DIM and of an inverted DIM (R211, R212). -/
inductive LampDrive where
  | off | on | tenPercent | ninetyPercent
  deriving DecidableEq, Repr, Inhabited

/-- What a base pattern shows at a millisecond count since it began (R211). -/
def LampPattern.drive (pat : LampPattern) (elapsed : Nat) : LampDrive :=
  match pat with
  | .fast => if elapsed % 250 < 125 then .on else .off
  | .slow => if elapsed % 1000 < 500 then .on else .off
  | .steady => .on
  | .dim => .tenPercent
  | .off => .off

/-- The inverse of what a lamp shows (R212). -/
def LampDrive.inverse : LampDrive → LampDrive
  | .off => .on
  | .on => .off
  | .tenPercent => .ninetyPercent
  | .ninetyPercent => .tenPercent

/-- What the lamp of a parcel shows now (R211, R212). -/
def State.lampDrive (s : State) (p : ParcelNo) : LampDrive :=
  let lamp := s.lines.lamp p
  let base := lamp.pattern.drive (s.msec - lamp.since)
  match lamp.pulseUntil with
  | some _ => base.inverse
  | none => base

/-- Start a PULSE of 100 ms on a parcel's lamp (R212). -/
def State.pulse (s : State) (p : ParcelNo) : State :=
  s.setLines (s.lines.setLamp p { s.lines.lamp p with pulseUntil := some (s.msec + 100) })

/-- Whether a parcel is in ALARM. -/
def State.anyAlarm (s : State) : Bool := allParcels.any (fun p => (s.parcel p).recon.alarm)

/-- The alarm output after a raise (R209): the latch CLEAR, the output asserted. -/
def State.alarmRaised (s : State) : State := s.setLines { s.lines with silence := false, alarmOut := true }

/-- The alarm output after a parcel left ALARM (R209): as it was while another is in ALARM, and otherwise the latch
CLEAR and the output deasserted. -/
def State.alarmFell (s : State) : State :=
  if s.anyAlarm then s else s.setLines { s.lines with silence := false, alarmOut := false }

/-! ### Changing a parcel record -/

/-- Whether a change calls for a PARCEL_STATE notice (R4): of the state, or of one of the five sets. -/
def Parcel.announces (old new : Parcel) : Bool :=
  decide (old.state ≠ new.state) || decide (old.openSet ≠ new.openSet) || decide (old.suspendSet ≠ new.suspendSet)
    || decide (old.restartResume ≠ new.restartResume) || decide (old.closeReservation ≠ new.closeReservation)
    || decide (old.releaseSet ≠ new.releaseSet)

/-- The PARCEL_STATE notice of a change (R4). -/
def parcelStateNotice (p : ParcelNo) (old new : Parcel) (cause : Cause) : NoticeBody :=
  .parcelState p old.state new.state cause new.openSet new.suspendSet new.restartResume new.closeReservation
    new.releaseSet (if new.state = .disputed then new.disputeCause else none)

/-- Replace a parcel record for an event: the lamp follows, and one PARCEL_STATE is posted when R4 calls for it. -/
def State.changeParcel (s : State) (p : ParcelNo) (new : Parcel) (cause : Cause) : State :=
  let old := s.parcel p
  let s1 := (s.setParcel p new).relamp p
  if old.announces new then s1.postAll (parcelStateNotice p old new cause) else s1

/-! ### Checkpoints (R25, R26) -/

/-- The copy a checkpoint holds of a parcel (R26). -/
def State.checkpointCopy (s : State) (p : ParcelNo) : Checkpoint :=
  let r := s.parcel p
  { decl := r.decl
    params := r.params
    tanks := (s.tanksOf p).map (fun n => (n, (s.tank n).depth))
    meters := (s.metersOf p).map (fun n => (n, (s.meter n).depth))
    basis := r.basis
    shipOffer := r.shipOffer
    shoreOffer := r.shoreOffer
    opening := r.opening
    run := r.run
    cycle := r.cycle
    alarmsRaised := r.alarmsRaised
    lowestGrade := r.lowestGrade }

/-- Whether a queue entry is the checkpoint of a parcel. -/
def QueueEntry.isCheckpointOf (p : ParcelNo) : QueueEntry → Bool
  | .checkpoint q _ => decide (q = p)
  | _ => false

/-- Request a checkpoint write for a parcel (R25): its entry still queued takes the new copy in its place; otherwise
a new entry is placed. -/
def State.requestCheckpoint (s : State) (p : ParcelNo) : State :=
  let entry := QueueEntry.checkpoint p (s.checkpointCopy p)
  if s.store.queue.any (QueueEntry.isCheckpointOf p) then
    s.setStore { s.store with
      queue := s.store.queue.map (fun e => if e.isCheckpointOf p then entry else e) }
  else s.setStore (s.store.enqueue entry)

/-! ### Jobs of the engine (R101, R106, R108) -/

/-- Whether jobs of a kind are among those that wait. -/
def JobSet.has (j : JobSet) : JobKind → Bool
  | .openJob => j.openJob
  | .cycle => j.cycle
  | .close => j.close

/-- A kind of job put in or taken out of those that wait. -/
def JobSet.put (j : JobSet) (k : JobKind) (b : Bool) : JobSet :=
  match k with
  | .openJob => { j with openJob := b }
  | .cycle => { j with cycle := b }
  | .close => { j with close := b }

/-- Whether a job of a kind runs for a parcel. -/
def Engine.runs (e : Engine) (k : JobKind) (p : ParcelNo) : Bool :=
  match e.running with
  | some j => decide (j.kind = k) && decide (j.parcel = p)
  | none => false

/-- Place a job by kind and parcel; no second job of one kind and parcel is placed (R101). -/
def State.placeJob (s : State) (k : JobKind) (p : ParcelNo) : State :=
  if (s.engine.jobs p).has k || s.engine.runs k p then s
  else s.setEngine (s.engine.setJobs p ((s.engine.jobs p).put k true))

/-- A parcel leaves TRANSFERRING (R106): its waiting CYCLE is withdrawn, its running CYCLE is marked VOID. -/
def State.voidCycle (s : State) (p : ParcelNo) : State :=
  let e := s.engine.setJobs p ((s.engine.jobs p).put .cycle false)
  s.setEngine { e with
    running := e.running.map (fun j =>
      if j.kind = .cycle ∧ j.parcel = p then { j with voided := true } else j) }

/-- ABORT cancels every job of a parcel (R108). -/
def State.cancelJobs (s : State) (p : ParcelNo) : State :=
  let e := s.engine.setJobs p ⟨false, false, false⟩
  s.setEngine { e with
    running := match e.running with
      | some j => if j.parcel = p then none else some j
      | none => none }

/-- The running job has handed over its result (R105): the engine is IDLE. -/
def State.engineIdle (s : State) : State := s.setEngine { s.engine with running := none }

/-! ### Suspending, resuming, closing -/

/-- A record entering TRANSFERRING: the cycle timer starts with a full period (R14, R110). -/
def Parcel.toTransferring (r : Parcel) (now : Instant) : Parcel :=
  { r with state := .transferring, cycleTimer := some (now + tenths r.params.cyclePeriod) }

/-- A record entering SUSPENDED: the cycle timer stops (R14, R110). -/
def Parcel.toSuspended (r : Parcel) : Parcel := { r with state := .suspended, cycleTimer := none }

/-- Both marks of the no-flow timer rearmed (R17). -/
def Parcel.rearm (r : Parcel) : Parcel := { r with settleArmed := true, restoreArmed := true }

/-- A parcel in transfer takes a new suspend set that holds a reason (R11, R12): from TRANSFERRING it enters
SUSPENDED, its CYCLE is withdrawn or voided, and a checkpoint is requested (R14). -/
def State.suspendWith (s : State) (p : ParcelNo) (x : SuspendSet) (cause : Cause) : State :=
  let r := s.parcel p
  match r.state with
  | .transferring =>
    ((s.changeParcel p { r with suspendSet := x }.toSuspended cause).voidCycle p).requestCheckpoint p
  | _ => s.changeParcel p { r with suspendSet := x } cause

/-- A record with new suspend and restart-resume sets returns to TRANSFERRING when it was SUSPENDED and no reason is
left (R11, R12, R13). -/
def State.resumeWith (s : State) (p : ParcelNo) (x : SuspendSet) (rr : PartySet) (cause : Cause) : State :=
  let r := { s.parcel p with suspendSet := x, restartResume := rr }
  if r.state = .suspended ∧ x.isEmpty then s.changeParcel p (r.toTransferring s.clock) cause
  else s.changeParcel p r cause

/-- The alarm state set to NORMAL with its counts at 0 (R129). -/
def Parcel.alarmNormal (r : Parcel) : Parcel :=
  { r with recon := { r.recon with alarm := false, divergent := 0, clear := 0 } }

/-- The alarm output follows a parcel that was in ALARM before (R129, R209). -/
def State.afterAlarm (s : State) (was : Bool) : State := if was then s.alarmFell else s

/-- Whether the settle condition of a parcel holds (R18). -/
def State.settled (s : State) (p : ParcelNo) : Bool :=
  let r := s.parcel p
  (match parcelOf r.params.valveInput with
    | some n => (s.lines.mv.get n).level
    | none => false)
    || r.noFlowReached s.clock r.params.settleTime

/-- A close executes (R20, R129): the closed-from state is recorded, the reservation emptied, the timers stopped,
CLOSING entered, the alarm state set to NORMAL, and a CLOSE job placed. -/
def State.executeClose (s : State) (p : ParcelNo) (cause : Cause) : State :=
  let r := s.parcel p
  let closedFrom : ClosedFrom := if r.state = .transferring then .transferring else .suspended
  let new : Parcel := { r.alarmNormal with
    state := .closing
    closedFrom := some closedFrom
    closeReservation := PartySet.empty
    cycleTimer := none }
  let s1 := (s.changeParcel p new cause).afterAlarm r.recon.alarm
  let s2 := if r.state = .transferring then s1.voidCycle p else s1
  s2.placeJob .close p

/-- A parcel returns to FREE (R24): its sources are returned and its record is cleared. -/
def State.returnToFree (s : State) (p : ParcelNo) (cause : Cause) : State :=
  (s.returnSources p).changeParcel p Parcel.cleared cause

end Sys2Proof.Machine
end

