-- ==== Sys2Proof/Machine/Parcels.lean ====
section
/-!
DEFINITION. The Parcel Table's requests (01_parcels.md): DECLARE, SET_PARAMETER, the assignments, SUSPEND, RESUME,
CLOSE, CANCEL_CLOSE, RELEASE and ABANDON, and the event SETTLED_BY_TIME.
-/

namespace Sys2Proof.Machine

/-! ### DECLARE (R3) -/

/-- Whether a state is FREE. -/
def ParcelState.isFree (x : ParcelState) : Bool := decide (x = .free)

/-- The lowest-numbered FREE parcel (R3). -/
def State.lowestFree (s : State) : Option ParcelNo := allParcels.find? (fun p => (s.parcel p).state.isFree)

/-- The record an accepted DECLARE sets up (R3, R112). -/
def Parcel.declared (d : Declaration) : Parcel :=
  { Parcel.cleared with
    state := .declared
    decl := some d
    params := Params.defaults
    recon := Recon.initial
    lowestGrade := 1 }

/-- The label of a DECLARE payload. -/
def declareLabel (pl : List Byte) : List Byte := (pl.drop 3).take (u8 pl 2)

/-- The length a DECLARE payload must have: number, direction, label text, witnessed (R3, R197). -/
def declareForm (pl : List Byte) : Bool := decide (pl.length = 4 + u8 pl 2)

/-- The declaration a DECLARE payload gives (R3); absent where a field is out of range. -/
def declarationOf (l : Link) (pl : List Byte) : Option Declaration :=
  let label := declareLabel pl
  let w := u8 pl (3 + u8 pl 2)
  match directionOf (u8 pl 1) with
  | some d =>
    if inRange 1 8 label.length && printable label && decide (w ≤ 1) then some ⟨d, label, decide (w = 1), l⟩ else none
  | none => none

/-- A parcel number taken by a DECLARE with its field checks (R3). DESIGN CHOICE (assumption 7): the parcel number taken, the
result field R3 names, is the one R2 puts first in the response, and is not sent again after the sets. -/
def State.declare (s : State) (l : Link) (pl : List Byte) (p : ParcelNo) : State × Reply :=
  match declarationOf l pl with
  | some d =>
    ((s.changeParcel p (Parcel.declared d) (.request .declare l)).setRestoreLost p false).answerParcel p .ok []
  | none => refuse s .refusedRange

/-- DECLARE as the Parcel Table answers it (R2, R3). -/
def reqDeclare : Body := fun l pl s =>
  if s.store.verifying then refuse s .refusedBusy
  else if declareForm pl then
    if u8 pl 0 = 0 then
      match s.lowestFree with
      | some p => s.declare l pl p
      | none => refuse s .refusedFull
    else
      match parcelOf (u8 pl 0) with
      | some p => if (s.parcel p).state.isFree then s.declare l pl p else refuse s .refusedState
      | none => refuse s .refusedRange
  else refuse s .refusedFormat

/-- DECLARE (R3). -/
def execDeclare (l : Link) (tag : Byte) (pl : List Byte) (s : State) : Host.Outcome State Fault Refusal :=
  .next (serve .declare reqDeclare l tag pl s)

/-! ### Declaration changes (R5 to R8) -/

/-- Whether the declaration may be changed in a state (R5, R7, R8, R30). -/
def ParcelState.declarable : ParcelState → Bool
  | .declared | .basisAgreed => true
  | .free | .opening | .transferring | .suspended | .closing | .awaitingAccept | .closed | .disputed => false

/-- A record after a declaration change (R6). -/
def Parcel.undecided (r : Parcel) : Parcel :=
  { r with state := .declared, openSet := PartySet.empty, shipOffer := none, shoreOffer := none, basis := none }

/-- A declaration change (R6), with the parameters it leaves. -/
def State.declarationChange (s : State) (p : ParcelNo) (x : Params) (cause : Cause) : State :=
  s.changeParcel p { (s.parcel p).undecided with params := x } cause

/-- The response to an accepted parcel request, with its VALUE_CLAMPED flag. -/
def State.answerClamped (s : State) (p : ParcelNo) (clamped : Bool) : State × Reply :=
  (s, ⟨.ok, clamped, false, s.parcelFields p⟩)

/-- SET_PARAMETER as the Parcel Table answers it (R5). -/
def reqSetParameter : Body := fun l pl s =>
  withParcel (formLen 6) pl s fun p =>
    let r := s.parcel p
    if r.state.declarable then
      match paramRow (u8 pl 1) with
      | some (lo, hi, _, unit) =>
        let given := s32 pl 2
        let stored := clampTo lo hi given
        (s.declarationChange p (r.params.put (u8 pl 1) (stored * unit)) (.request .setParameter l)).answerClamped p
          (decide ((stored : Int) ≠ given))
      | none => refuse s .refusedRange
    else refuse s .refusedState

/-- SET_PARAMETER (R5). -/
def execSetParameter (l : Link) (tag : Byte) (pl : List Byte) (s : State) : Host.Outcome State Fault Refusal :=
  .next (serve .setParameter reqSetParameter l tag pl s)

/-- The depth an assignment takes (R7). -/
def depthOf (field : Nat) : Nat := if field = 0 then 4 else if field < 2 then 2 else if 8 < field then 8 else field

/-- Whether the depth field of an assignment was brought into range (R7). -/
def depthClamped (field : Nat) : Bool := decide (field ≠ 0) && decide (depthOf field ≠ field)

/-- ASSIGN_TANK and ASSIGN_METER after the checks of R2 (R7, R55): number, owner, pool. -/
def assignSource (req : Req) (most : Nat) (ownerOf : State → Nat → Option ParcelNo)
    (draw : State → Nat → ParcelNo → Nat → State) (l : Link) (pl : List Byte) (s : State) : State × Reply :=
  withParcel (formLen 3) pl s fun p =>
    let n := u8 pl 1
    let depth := depthOf (u8 pl 2)
    let clamped := depthClamped (u8 pl 2)
    if (s.parcel p).state.declarable then
      if inRange 1 most n then
        match ownerOf s n with
        | some q => if q = p then s.answerClamped p clamped else refuse s .refusedState
        | none =>
          if depth ≤ s.poolFree then
            ((draw s n p depth).declarationChange p (s.parcel p).params (.request req l)).answerClamped p clamped
          else refuse s .refusedFull
      else refuse s .refusedRange
    else refuse s .refusedState

/-- UNASSIGN_TANK and UNASSIGN_METER after the checks of R2 (R8, R56). -/
def unassignSource (req : Req) (most : Nat) (ownerOf : State → Nat → Option ParcelNo)
    (giveBack : State → Nat → State) (l : Link) (pl : List Byte) (s : State) : State × Reply :=
  withParcel (formLen 2) pl s fun p =>
    let n := u8 pl 1
    if (s.parcel p).state.declarable then
      if inRange 1 most n then
        if ownerOf s n = some p then
          ((giveBack s n).declarationChange p (s.parcel p).params (.request req l)).answerParcel p .ok []
        else refuse s .refusedState
      else refuse s .refusedRange
    else refuse s .refusedState

/-- The owner of a tank channel. -/
def tankOwner (s : State) (n : Nat) : Option ParcelNo := (s.tank n).owner

/-- The owner of a meter run. -/
def meterOwner (s : State) (n : Nat) : Option ParcelNo := (s.meter n).owner

/-- ASSIGN_TANK as the Parcel Table answers it (R7). -/
def reqAssignTank : Body := assignSource .assignTank 16 tankOwner State.drawTank

/-- ASSIGN_TANK (R7). -/
def execAssignTank (l : Link) (tag : Byte) (pl : List Byte) (s : State) : Host.Outcome State Fault Refusal :=
  .next (serve .assignTank reqAssignTank l tag pl s)

/-- UNASSIGN_TANK as the Parcel Table answers it (R8). -/
def reqUnassignTank : Body := unassignSource .unassignTank 16 tankOwner State.returnTank

/-- UNASSIGN_TANK (R8). -/
def execUnassignTank (l : Link) (tag : Byte) (pl : List Byte) (s : State) : Host.Outcome State Fault Refusal :=
  .next (serve .unassignTank reqUnassignTank l tag pl s)

/-- ASSIGN_METER as the Parcel Table answers it (R7). -/
def reqAssignMeter : Body := assignSource .assignMeter 8 meterOwner State.drawMeter

/-- ASSIGN_METER (R7). -/
def execAssignMeter (l : Link) (tag : Byte) (pl : List Byte) (s : State) : Host.Outcome State Fault Refusal :=
  .next (serve .assignMeter reqAssignMeter l tag pl s)

/-- UNASSIGN_METER as the Parcel Table answers it (R8). -/
def reqUnassignMeter : Body := unassignSource .unassignMeter 8 meterOwner State.returnMeter

/-- UNASSIGN_METER (R8). -/
def execUnassignMeter (l : Link) (tag : Byte) (pl : List Byte) (s : State) : Host.Outcome State Fault Refusal :=
  .next (serve .unassignMeter reqUnassignMeter l tag pl s)

/-! ### SUSPEND and RESUME (R11, R13) -/

/-- SUSPEND as the Parcel Table answers it (R11). -/
def reqSuspend : Body := fun l pl s =>
  withParcel (formLen 1) pl s fun p =>
    let r := s.parcel p
    if r.inTransfer then
      (s.suspendWith p (r.suspendSet.put l true) (.request .suspend l)).answerParcel p .ok []
    else refuse s .refusedState

/-- SUSPEND (R11). -/
def execSuspend (l : Link) (tag : Byte) (pl : List Byte) (s : State) : Host.Outcome State Fault Refusal :=
  .next (serve .suspend reqSuspend l tag pl s)

/-- The suspend and restart-resume sets after a party's RESUME (R11, R13). -/
def resumeSets (x : SuspendSet) (rr : PartySet) (l : Link) : SuspendSet × PartySet :=
  let y := x.put l false
  if x.restart then
    let confirmed := rr.put l true
    if confirmed.isFull then ({ y with restart := false }, PartySet.empty) else (y, confirmed)
  else (y, rr)

/-- RESUME as the Parcel Table answers it (R11, R13). -/
def reqResume : Body := fun l pl s =>
  withParcel (formLen 1) pl s fun p =>
    let r := s.parcel p
    if r.inTransfer then
      let sets := resumeSets r.suspendSet r.restartResume l
      (s.resumeWith p sets.1 sets.2 (.request .resume l)).answerParcel p .ok []
    else refuse s .refusedState

/-- RESUME (R11). -/
def execResume (l : Link) (tag : Byte) (pl : List Byte) (s : State) : Host.Outcome State Fault Refusal :=
  .next (serve .resume reqResume l tag pl s)

/-! ### CLOSE and CANCEL_CLOSE (R18, R19) -/

/-- CLOSE as the Parcel Table answers it (R18). -/
def reqClose : Body := fun l pl s =>
  withParcel (formLen 1) pl s fun p =>
    let r := s.parcel p
    if r.inTransfer then
      if s.settled p then (s.executeClose p (.request .close l)).answerParcel p .accepted []
      else
        (s.changeParcel p { r with closeReservation := r.closeReservation.put l true }
          (.request .close l)).answerParcel p .reserved []
    else refuse s .refusedState

/-- CLOSE (R18). -/
def execClose (l : Link) (tag : Byte) (pl : List Byte) (s : State) : Host.Outcome State Fault Refusal :=
  .next (serve .close reqClose l tag pl s)

/-- CANCEL_CLOSE as the Parcel Table answers it (R19). -/
def reqCancelClose : Body := fun l pl s =>
  withParcel (formLen 1) pl s fun p =>
    let r := s.parcel p
    if r.inTransfer && r.closeReservation.has l then
      (s.changeParcel p { r with closeReservation := r.closeReservation.put l false }
        (.request .cancelClose l)).answerParcel p .ok []
    else refuse s .refusedState

/-- CANCEL_CLOSE (R19). -/
def execCancelClose (l : Link) (tag : Byte) (pl : List Byte) (s : State) : Host.Outcome State Fault Refusal :=
  .next (serve .cancelClose reqCancelClose l tag pl s)

/-- The settle mark of a parcel's no-flow timer is reached (R17, R19): the mark is spent, and a reserved close
executes. -/
def State.reachSettleMark (s : State) (p : ParcelNo) : State :=
  let r := s.parcel p
  if r.inTransfer && r.settleArmed && r.noFlowReached s.clock r.params.settleTime then
    let s1 := s.setParcel p { r with settleArmed := false }
    if r.closeReservation.isEmpty then s1 else (s1.executeClose p .settledByTime).transmitAll
  else s

/-- SETTLED_BY_TIME (R19). Where the timer does not run, or the mark is spent or not yet reached, nothing is
reached. -/
def execSettledByTime (p : ParcelNo) (s : State) : Host.Outcome State Fault Refusal := .next (s.reachSettleMark p)

/-! ### RELEASE and ABANDON (R21, R24) -/

/-- Whether a state is CLOSED or DISPUTED (R24). -/
def ParcelState.ended : ParcelState → Bool
  | .closed | .disputed => true
  | .free | .declared | .basisAgreed | .opening | .transferring | .suspended | .closing | .awaitingAccept => false

/-- RELEASE as the Parcel Table answers it (R24). -/
def reqRelease : Body := fun l pl s =>
  withParcel (formLen 1) pl s fun p =>
    let r := s.parcel p
    if r.state.ended then
      if r.finalizePending then refuse s .refusedBusy
      else
        let joined := r.releaseSet.put l true
        if l = .survey ∨ joined.isFull then (s.returnToFree p (.request .release l)).answerParcel p .ok []
        else (s.changeParcel p { r with releaseSet := joined } (.request .release l)).answerParcel p .ok []
    else refuse s .refusedState

/-- RELEASE (R24). -/
def execRelease (l : Link) (tag : Byte) (pl : List Byte) (s : State) : Host.Outcome State Fault Refusal :=
  .next (serve .release reqRelease l tag pl s)

/-- ABANDON as the Parcel Table answers it (R21). -/
def reqAbandon : Body := fun l pl s =>
  withParcel (formLen 1) pl s fun p =>
    if (s.parcel p).state.declarable then (s.returnToFree p (.request .abandon l)).answerParcel p .ok []
    else refuse s .refusedState

/-- ABANDON (R21). -/
def execAbandon (l : Link) (tag : Byte) (pl : List Byte) (s : State) : Host.Outcome State Fault Refusal :=
  .next (serve .abandon reqAbandon l tag pl s)

end Sys2Proof.Machine
end

