-- ==== Sys2Proof/Machine/Lines.lean ====
section
/-!
DEFINITION. The discrete inputs (12_discrete_lines_and_lamps.md): how a loop current is read, the candidate of an
input, and what a recognized change does to the parcels; the commands LOOP_LEVEL_CHANGE and INPUT_CHANGE.
-/

namespace Sys2Proof.Machine

/-- A loop current read as current, as no current, or as neither (R207). -/
def currentOf (microamps : Nat) : Option Bool :=
  if 4000 ≤ microamps then some true else if microamps ≤ 1000 then some false else none

/-- The level an input stands at while its loop carries current, or carries none (R206, R207). -/
def levelOf (straps : Straps) (i : InputName) (current : Bool) : Bool :=
  match i with
  | .esd => if straps.esdPol then current else !current
  | .mv _ => current
  | .spare => current

/-- The level a loop is read at (R207): between the two limits, the level at which it was last read, or the recognized
level when it has not been read at either since the reset. -/
def InputState.reads (x : InputState) (straps : Straps) (i : InputName) (microamps : Nat) : Bool :=
  match currentOf microamps with
  | some c => levelOf straps i c
  | none => x.lastRead.getD x.level

/-- Whether the candidate of an input has stood for 50 ms (R207). -/
def InputState.due (x : InputState) (now : Nat) : Bool :=
  match x.candidate with
  | some t => decide (t + 50 ≤ now)
  | none => false

/-- An input whose loop carries a current from `now` on (R207): at the other level the candidate starts or runs on. A
return to the recognized level drops a candidate before 50 ms have passed; one that has stood for 50 ms stays, its change
being recognized by the INPUT_CHANGE that is due. -/
def InputState.sample (x : InputState) (straps : Straps) (i : InputName) (microamps now : Nat) : InputState :=
  let level := x.reads straps i microamps
  { x with
    microamps := microamps
    lastRead := match currentOf microamps with
      | some c => some (levelOf straps i c)
      | none => x.lastRead
    candidate :=
      if level = x.level then (if x.due now then x.candidate else none) else some (x.candidate.getD now) }

/-- A loop's current changes (R207). -/
def State.sampleLoop (s : State) (i : InputName) (microamps : Nat) : State :=
  s.setLines (s.lines.setInput i ((s.lines.input i).sample s.straps i microamps s.msec))

/-- LOOP_LEVEL_CHANGE (R207). -/
def execLoopLevelChange (i : InputName) (microamps : Nat) (s : State) : Host.Outcome State Fault Refusal :=
  .next (s.sampleLoop i microamps)

/-- The six inputs in the order of section 12.2. -/
def allInputs : List InputName := [.esd, .mv 0, .mv 1, .mv 2, .mv 3, .spare]

/-- The recognized levels of all six inputs (R208). -/
def Lines.levels (l : Lines) : List Bool := allInputs.map (fun i => (l.input i).level)

/-- ESD recognized active reaches a parcel (R12): one in transfer takes the member, one in TRANSFERRING enters
SUSPENDED. -/
def State.esdActive (s : State) (p : ParcelNo) : State :=
  let r := s.parcel p
  if r.inTransfer then s.suspendWith p { r.suspendSet with esd := true } .esdActive else s

/-- ESD recognized inactive reaches a parcel (R12): one that holds the member loses it, in whatever state. -/
def State.esdInactive (s : State) (p : ParcelNo) : State :=
  let r := s.parcel p
  if r.suspendSet.esd then s.resumeWith p { r.suspendSet with esd := false } r.restartResume .esdInactive else s

/-- A manifold valve recognized closed reaches a parcel (R19, R208): a reserved close of a parcel that names it
executes. -/
def State.valveClosed (n p : ParcelNo) (s : State) : State :=
  let r := s.parcel p
  if r.params.valveInput = n.val + 1 ∧ r.closeReservation.isEmpty = false ∧ r.inTransfer = true then
    s.executeClose p .settleValve
  else s

/-- A recognized change handed to the blocks it feeds (R208). -/
def State.feedInput (s : State) (i : InputName) (level : Bool) : State :=
  match i, level with
  | .esd, true => s.forParcels (fun p acc => acc.esdActive p)
  | .esd, false => s.forParcels (fun p acc => acc.esdInactive p)
  | .mv n, true => s.forParcels (State.valveClosed n)
  | .mv _, false => s
  | .spare, _ => s

/-- A recognized change of an input (R207, R208). A loop that has already returned starts its new candidate when it is next
read (assumption 14). -/
def State.recognize (s : State) (i : InputName) : State :=
  let x := s.lines.input i
  if x.due s.msec then
    let level := !x.level
    let s1 := s.setLines (s.lines.setInput i { x with level := level, candidate := none })
    ((s1.postAll (.inputChange i level s1.lines.levels)).feedInput i level).transmitAll
  else s

/-- INPUT_CHANGE (R208). Where the loop has not stood at the other level for 50 ms, nothing is recognized. -/
def execInputChange (i : InputName) (s : State) : Host.Outcome State Fault Refusal := .next (s.recognize i)

end Sys2Proof.Machine
end

