-- ==== Sys2Proof/Machine/Ship.lean ====
section
/-!
DEFINITION. The ship-side pipeline (04_ship_side_quantities.md): one tank figure record from a job's copy of a tank,
the parcel's tank totals, and the ship figure.
-/

namespace Sys2Proof.Machine

/-- A factor found by R73 to R75, before the limit: its value, and whether its lookup clamped. -/
def rawFactor (b : Basis) (expansion : List (Int × Int)) (temp : Int) : Lookup :=
  let dT := temp - b.refTemp
  let alpha : Int := ((b.alpha.getD 0 : Nat) : Int)
  let x := roundDiv (alpha * dT) 100
  match b.method with
  | .lin => ⟨1000000 - x, false⟩
  | .quad => ⟨1000000 - x - roundDiv (8 * (x * x)) 10000000, false⟩
  | .tab => interp expansion temp

/-- A factor brought into 850,000..1,150,000 (R76). -/
def limitFactor (v : Int) : Int := if v < 850000 then 850000 else if 1150000 < v then 1150000 else v

/-- The volume correction factor at a temperature (R72 to R76, R91): the factor, EXP_LIMIT, VCF_LIMIT. -/
def volumeFactor (b : Basis) (expansion : List (Int × Int)) (temp : Int) : Int × Bool × Bool :=
  let raw := rawFactor b expansion temp
  (limitFactor raw.value, raw.clamped, decide (limitFactor raw.value ≠ raw.value))

/-- The free water volume before the cap, and WATER_LIMIT (R70). -/
def freeWater (b : Basis) (t : TankTable) (dip : Nat) : Lookup :=
  match b.freeWater with
  | .none => ⟨0, false⟩
  | .measured => if dip = 0 then ⟨0, false⟩ else interp t.calibration (t.refHeight - (dip : Int))

/-- A corrected ullage brought to the calibration's keys (R68). -/
def clampUllage (t : TankTable) (uc : Int) : Int :=
  if uc < firstKey t.calibration then firstKey t.calibration
  else if lastKey t.calibration < uc then lastKey t.calibration
  else uc

/-- The flags R78 raises before the first step, with TABLE (R79). NO_ATTITUDE is raised where ATT is NEVER (assumption
10). -/
def entryFlags (b : Basis) (attNever expansionValid : Bool) (t : TankCopy) : TankFlags :=
  { TankFlags.clear with
    noReading := t.latest.isNone
    noUllage := match t.latest with
      | some r => r.ullage.isNone
      | none => false
    noTemp := match t.latest with
      | some r => r.temp.isNone
      | none => false
    noAttitude := attNever
    table := !t.tableValid || (decide (b.method = .tab) && !expansionValid) }

/-- The record of a tank whose steps R67 to R77 are not performed (R78, R79). -/
def skippedFigure (b : Basis) (flags : TankFlags) (t : TankCopy) : TankFigure where
  tank := t.number
  instant := t.latest.map (·.arrival)
  ullage := t.latest.bind (·.ullage)
  temp := t.latest.map (fun r => r.temp.getD b.refTemp)
  dip := t.latest.map (·.dip)
  att := t.att
  ct := none
  cl := none
  uc := none
  tov := 0
  fwv := 0
  gov := 0
  vcf := 1000000
  gsv := 0
  flags := flags

/-- The tank figure record of one tank (R66 to R79). -/
def tankFigure (b : Basis) (expansionValid : Bool) (expansion : List (Int × Int)) (attNever : Bool) (t : TankCopy) :
    TankFigure :=
  let flags := entryFlags b attNever expansionValid t
  match t.latest, t.latest.bind (·.ullage), t.tableValid with
  | some r, some ullage, true =>
    let trim := (t.att.map (·.trim)).getD 0
    let list := (t.att.map (·.list)).getD 0
    let temp := r.temp.getD b.refTemp
    let ct := interp t.table.trim trim
    let cl := interp t.table.list list
    let raw := (ullage : Int) + ct.value + cl.value
    let uc := clampUllage t.table raw
    let tov := (interp t.table.calibration uc).value
    let water := freeWater b t.table r.dip
    let capped := decide (tov < water.value)
    let fwv := if capped then tov else water.value
    let gov := tov - fwv
    let f := volumeFactor b expansion temp
    let noTable := decide (b.method = .tab) && !expansionValid
    let vcf := if noTable then 1000000 else f.1
    { tank := t.number
      instant := some r.arrival
      ullage := some ullage
      temp := some temp
      dip := some r.dip
      att := t.att
      ct := some ct.value
      cl := some cl.value
      uc := some uc
      tov := tov
      fwv := fwv
      gov := gov
      vcf := vcf
      gsv := if noTable then 0 else roundDiv (gov * vcf) 1000000
      flags := { flags with
        trimLimit := ct.clamped
        listLimit := cl.clamped
        clamped := decide (uc ≠ raw)
        waterLimit := water.clamped
        fwCapped := capped
        expLimit := !noTable && f.2.1
        vcfLimit := !noTable && f.2.2 } }
  | _, _, _ => skippedFigure b flags t

/-- The tank totals of a parcel's records (R80). -/
def tankTotals (fs : List TankFigure) : TankTotals where
  tov := sumInt (fs.map (·.tov))
  fwv := sumInt (fs.map (·.fwv))
  gov := sumInt (fs.map (·.gov))
  gsv := sumInt (fs.map (·.gsv))

/-- The ship figure from the opening and current GSV totals (R81). -/
def shipFigure (d : Direction) (opening current : Int) : Int :=
  match d with
  | .discharge => opening - current
  | .load => current - opening

/-- The tank figure records of a job's copy, in ascending tank order (R66). -/
def JobCopy.tankFigures (c : JobCopy) (b : Basis) : List TankFigure :=
  c.tanks.map (tankFigure b c.expansionValid c.expansion c.att.isNone)

end Sys2Proof.Machine
end

