-- ==== Sys2Proof/Machine/Shore.lean ====
section
/-!
DEFINITION. The shore-side pipeline (05_shore_side_quantities.md): the snapshot instant, the alignment of a meter to
it, the increment and its corrections, and the shore figure.
-/

namespace Sys2Proof.Machine

/-- The instants that take part in the snapshot instant (R83): the latest readings of the tanks and of ATT. -/
def JobCopy.shipInstants (c : JobCopy) : List Instant :=
  c.tanks.filterMap (fun t => t.latest.map (·.arrival)) ++ (c.att.map (·.arrival)).toList

/-- The instant of greatest age among a list that starts with `best`; of equals, the first. -/
def oldestOf (start best : Instant) : List Instant → Instant
  | [] => best
  | t :: rest => if age start best < age start t then oldestOf start t rest else oldestOf start best rest

/-- The snapshot instant S of a job (R83). -/
def JobCopy.snapshot (c : JobCopy) (start : Instant) : Instant :=
  match c.shipInstants with
  | [] => start
  | t :: rest => oldestOf start t rest

/-- The alignment of a meter (R86, R87): a, b and the entry whose temperature and pressure are used (R90), with the
aligned total. -/
structure Alignment where
  entryA : Option (Instant × Nat)
  entryB : Option (Instant × Nat)
  used : Option MeterReading
  aligned : Option Nat
  unbracketed : Bool
  deriving DecidableEq, Repr, Inhabited

/-- A ring entry that carries a total. -/
def carriesTotal (e : MeterEntry) : Bool := e.reading.total.isSome

/-- The instant and total of a reading. -/
def instantTotal (r : MeterReading) : Instant × Nat := (r.arrival, r.total.getD 0)

/-- The aligned total between a and b at S (R86). -/
def alignedBetween (s : Instant) (a b : MeterReading) : Nat :=
  let ta := a.total.getD 0
  let delta : Int := totalDelta (b.total.getD 0) ta
  let rise := roundDiv (delta * (age s a.arrival : Int)) (age b.arrival a.arrival : Int)
  ((ta : Int) + rise).toNat % totalModulus

/-- Align a meter's ring to S, instants compared by age at the job's start (R86, R87). -/
def align (start s : Instant) (ring : List MeterEntry) : Alignment :=
  let entries := ring.filter carriesTotal
  let before := entries.filter (fun e => decide (age start s ≤ age start e.reading.arrival))
  let after := entries.filter (fun e => decide (age start e.reading.arrival < age start s))
  match before.getLast?, after.head? with
  | some a, some b =>
    ⟨some (instantTotal a.reading), some (instantTotal b.reading), some b.reading,
      some (alignedBetween s a.reading b.reading), false⟩
  | some a, none => ⟨some (instantTotal a.reading), none, some a.reading, a.reading.total, true⟩
  | none, some b => ⟨some (instantTotal b.reading), none, some b.reading, b.reading.total, true⟩
  | none, none => ⟨none, none, none, none, false⟩

/-- The increment of a meter (R88): IV, the last aligned total after, STEP_REVERSE, NO_BASE. -/
def increment (aligned last : Option Nat) : Int × Option Nat × Bool × Bool :=
  match aligned, last with
  | some a, some l =>
    if totalDelta a l < 500000000 then ((totalDelta a l : Int), some a, false, false) else (0, some l, true, false)
  | none, l => (0, l, false, false)
  | some a, none => (0, some a, false, true)

/-- The pressure correction factor (R92). -/
def pressureFactor (b : Basis) (p : Nat) : Int :=
  match b.pressure with
  | .on => 1000000 + roundDiv ((b.compress : Int) * (p : Int)) 100
  | .off => 1000000

/-- The standard increment in millilitres (R93). -/
def standardIncrement (gv vcf pcf : Int) : Int := roundDiv (gv * 1000 * vcf * pcf) 1000000000000

/-- The increment corrected by the meter factor (R89). -/
def factoredIncrement (iv d : Int) : Int := iv + roundDiv (iv * d) 100000

/-- The meter figure record of one meter (R85 to R95). An OPEN job records the alignment with IV, GV and the standard
increment at 0 (R95). An entry without a pressure is recorded with P 0 in either pressure mode (R90; assumption 10). -/
def meterFigure (kind : JobKind) (b : Basis) (expansionValid : Bool) (expansion : List (Int × Int))
    (noShipInstant : Bool) (start s : Instant) (m : MeterCopy) : MeterFigure :=
  let al := align start s m.ring
  let opening := decide (kind = .openJob)
  let inc := if opening then (0, al.aligned, false, false) else increment al.aligned m.lastAligned
  let gv := factoredIncrement inc.1 m.d
  let temp := (al.used.bind (·.temp)).getD b.refTemp
  let p := (al.used.bind (·.pressure)).getD 0
  let noTable := decide (b.method = .tab) && !expansionValid
  let f := volumeFactor b expansion temp
  let vcf := if noTable then 1000000 else f.1
  let pcf := pressureFactor b p
  let dmL := if noTable then 0 else standardIncrement gv vcf pcf
  { meter := m.number
    snapshot := s
    entryA := al.entryA
    entryB := al.entryB
    aligned := al.aligned
    lastBefore := if opening then none else m.lastAligned
    iv := inc.1
    d := m.d
    gv := gv
    temp := temp
    pressure := p
    vcf := vcf
    pcf := pcf
    dmL := dmL
    accAfter := (if opening then 0 else m.acc) + dmL
    lastAfter := if noTable then m.lastAligned else inc.2.1
    flags := {
      unbracketed := al.unbracketed
      stepReverse := inc.2.2.1
      noTotal := al.aligned.isNone
      noBase := inc.2.2.2
      noTemp := match al.used with
        | some r => r.temp.isNone
        | none => false
      noPressure := decide (b.pressure = .on) && (match al.used with
        | some r => r.pressure.isNone
        | none => false)
      expLimit := !noTable && f.2.1
      vcfLimit := !noTable && f.2.2
      table := noTable
      noShipInstant := noShipInstant } }

/-- The meter figure records of a job's copy, in ascending meter order (R84, R85). -/
def JobCopy.meterFigures (c : JobCopy) (kind : JobKind) (b : Basis) (start : Instant) : List MeterFigure :=
  c.meters.map (meterFigure kind b c.expansionValid c.expansion c.shipInstants.isEmpty start (c.snapshot start))

/-- The running state the meter records hand back (R93, R95, R96). -/
def runOf (fs : List MeterFigure) : List MeterRun := fs.map (fun f => ⟨f.meter, f.d, f.lastAfter, f.accAfter⟩)

/-- The shore figure without a line adjustment (R97). -/
def shoreFigure (fs : List MeterFigure) : Int := roundDiv (sumInt (fs.map (·.accAfter))) 1000

/-- Each meter's standard volume in litres (R97, R118, R137). -/
def meterVolumes (fs : List MeterFigure) : List Int := fs.map (fun f => roundDiv f.accAfter 1000)

/-- The indeterminate causes of a job's snapshot and figure records (R116). -/
def JobCopy.causes (c : JobCopy) (b : Basis) (tanks : List TankFigure) (meters : List MeterFigure) : Causes where
  stale :=
    (c.tanks.filter (fun t => t.fresh.isStale)).map (fun t => SourceName.tank t.number)
      ++ (if c.attFresh.isStale then [SourceName.att] else [])
      ++ (c.meters.filter (fun m => m.fresh.isStale)).map (fun m => SourceName.meter m.number)
  suspect :=
    (c.tanks.filter (fun t => t.suspect)).map (fun t => SourceName.tank t.number)
      ++ (c.meters.filter (fun m => m.suspect)).map (fun m => SourceName.meter m.number)
  unbracketed := (meters.filter (fun f => f.flags.unbracketed)).map (·.meter)
  clamped := (tanks.filter (fun f => f.flags.clamped)).map (·.tank)
  table :=
    (c.tanks.filter (fun t => !t.tableValid)).map (·.number)
      ++ (if b.method = .tab ∧ c.expansionValid = false then [24 + b.tableId.getD 0] else [])

end Sys2Proof.Machine
end

