-- ==== Sys2Proof/Machine/Images.lean ====
section
/-!
DEFINITION. The images of section 10.2: their structure check (R174), and what the jobs and the Experience Factor
Unit read from a stored image.
-/

namespace Sys2Proof.Machine

/-- An unsigned two-byte field as an integer. -/
def u16i (img : List Byte) (i : Nat) : Int := u16 img i

/-- An unsigned four-byte field as an integer. -/
def u32i (img : List Byte) (i : Nat) : Int := u32 img i

/-- How the rows of a section lie in an image and what their fields may hold (section 10.2, R174): a two-byte key and
a value after it, keys strictly increasing, values never rising where `falling` says so. -/
structure RowForm where
  rowLen : Nat
  key : List Byte → Nat → Int
  value : List Byte → Nat → Int
  keyLo : Int
  keyHi : Int
  valueLo : Int
  valueHi : Int
  falling : Bool

/-- Calibration rows: ullage and volume. -/
def calibrationForm : RowForm := ⟨6, u16i, u32i, 0, 40000, 0, 999999999, true⟩

/-- Trim rows: trim and correction. -/
def trimForm : RowForm := ⟨4, s16, s16, -5000, 5000, -2000, 2000, false⟩

/-- List rows: list and correction. -/
def listForm : RowForm := ⟨4, s16, s16, -500, 500, -2000, 2000, false⟩

/-- Expansion rows: temperature and factor. -/
def expansionForm : RowForm := ⟨6, s16, u32i, -4000, 15000, 700000, 1300000, false⟩

/-- The rows of a section of `n` rows at an offset. -/
def rowsAt (f : RowForm) (img : List Byte) : Nat → Nat → List (Int × Int)
  | _, 0 => []
  | off, n + 1 => (f.key img off, f.value img (off + 2)) :: rowsAt f img (off + f.rowLen) n

/-- The offset of the first field at fault among `n` rows at an offset, given the row before them (R174). -/
def rowsFault (f : RowForm) (img : List Byte) : Option (Int × Int) → Nat → Nat → Option Nat
  | _, _, 0 => none
  | prev, off, n + 1 =>
    let k := f.key img off
    let v := f.value img (off + 2)
    let keyOk := inRange f.keyLo f.keyHi k && (match prev with
      | some (k0, _) => decide (k0 < k)
      | none => true)
    let valueOk := inRange f.valueLo f.valueHi v && (match prev with
      | some (_, v0) => !f.falling || decide (v ≤ v0)
      | none => true)
    if !keyOk then some off
    else if !valueOk then some (off + 2)
    else rowsFault f img (some (k, v)) (off + f.rowLen) n

/-- The first of several checks that finds a fault. -/
def firstFault : List (Option Nat) → Option Nat
  | [] => none
  | some off :: _ => some off
  | none :: rest => firstFault rest

/-- A fault at an offset unless a condition holds. -/
def faultUnless (ok : Bool) (off : Nat) : Option Nat := if ok then none else some off

/-- The structure check of a tank table image (R174): the offset of the first field at fault. A length that the counts do
not give is found after their ranges, at Nc (assumption 11). -/
def tankImageFault (img : List Byte) : Option Nat :=
  let nc := u16 img 2
  let nt := u16 img 4
  let nl := u16 img 6
  firstFault
    [faultUnless (inRange 1 40000 (u16i img 0)) 0,
     faultUnless (inRange 2 200 nc) 2,
     faultUnless (inRange 2 16 nt) 4,
     faultUnless (inRange 2 16 nl) 6,
     faultUnless (decide (img.length = 8 + 6 * nc + 4 * nt + 4 * nl)) 2,
     rowsFault calibrationForm img none 8 nc,
     rowsFault trimForm img none (8 + 6 * nc) nt,
     rowsFault listForm img none (8 + 6 * nc + 4 * nt) nl]

/-- The structure check of a meter definition image (R174). -/
def meterImageFault (img : List Byte) : Option Nat :=
  firstFault
    [faultUnless (decide (img.length = 10)) 0,
     faultUnless (printable (img.take 8)) 0,
     faultUnless (inRange (-5000) 5000 (s16 img 8)) 8]

/-- The structure check of an expansion table image (R174). -/
def expansionImageFault (img : List Byte) : Option Nat :=
  let n := u16 img 0
  firstFault
    [faultUnless (inRange 2 64 n) 0,
     faultUnless (decide (img.length = 2 + 6 * n)) 0,
     rowsFault expansionForm img none 2 n]

/-- The entries of a voyage history of `n` entries at an offset: ship figure and shore figure. -/
def entriesAt (img : List Byte) : Nat → Nat → List (Int × Int)
  | _, 0 => []
  | off, n + 1 => (u32i img off, u32i img (off + 4)) :: entriesAt img (off + 8) n

/-- The offset of the first voyage figure outside 100,000..999,999,999. -/
def entriesFault (img : List Byte) : Nat → Nat → Option Nat
  | _, 0 => none
  | off, n + 1 =>
    if !inRange 100000 999999999 (u32i img off) then some off
    else if !inRange 100000 999999999 (u32i img (off + 4)) then some (off + 4)
    else entriesFault img (off + 8) n

/-- The structure check of a voyage history image (R169, R174). -/
def historyImageFault (img : List Byte) : Option Nat :=
  let n := u16 img 0
  firstFault
    [faultUnless (decide (n ≤ 10)) 0,
     faultUnless (decide (img.length = 2 + 8 * n)) 0,
     entriesFault img 2 n]

/-- The structure check of an item's image by its id (R174). -/
def imageFault (id : Nat) (img : List Byte) : Option Nat :=
  if id ≤ 16 then tankImageFault img
  else if id ≤ 24 then meterImageFault img
  else if id ≤ 32 then expansionImageFault img
  else historyImageFault img

/-! ### What is read from a stored image -/

/-- The tank table of an image (section 10.2). -/
def tankTableOf (img : List Byte) : TankTable where
  refHeight := u16i img 0
  calibration := rowsAt calibrationForm img 8 (u16 img 2)
  trim := rowsAt trimForm img (8 + 6 * u16 img 2) (u16 img 4)
  list := rowsAt listForm img (8 + 6 * u16 img 2 + 4 * u16 img 4) (u16 img 6)

/-- The expansion table of an image. -/
def expansionOf (img : List Byte) : List (Int × Int) := rowsAt expansionForm img 2 (u16 img 0)

/-- The meter factor deviation d of an image. -/
def deviationOf (img : List Byte) : Int := s16 img 8

/-- The voyage entries of an image. -/
def historyOf (img : List Byte) : List (Int × Int) := entriesAt img 2 (u16 img 0)

/-- The image of a voyage history (section 10.2). -/
def historyImage (entries : List (Int × Int)) : List Byte :=
  e2 entries.length ++ entries.flatMap (fun e => i4 e.1 ++ i4 e.2)

end Sys2Proof.Machine
end

