-- ==== Sys2Proof/Machine/Vef.lean ====
section
/-!
DEFINITION. The Experience Factor Unit (09_vessel_experience_factor.md): the computation of a direction's factor, and
the new content of a history a finalize appends to.
-/

namespace Sys2Proof.Machine

/-- Insert into an ascending list. -/
def insertSorted (x : Int) : List Int → List Int
  | [] => [x]
  | y :: rest => if x ≤ y then x :: y :: rest else y :: insertSorted x rest

/-- A list in ascending order (R162). -/
def sortAscending : List Int → List Int
  | [] => []
  | x :: rest => insertSorted x (sortAscending rest)

/-- The ratio of an entry (R162, step 1). -/
def entryRatio (e : Int × Int) : Int := roundDiv (e.1 * 100000) e.2

/-- The lower median of a list of ratios (R162, step 2): position ⌈n/2⌉ counting from 1. -/
def lowerMedian (ratios : List Int) : Option Int := (sortAscending ratios)[(ratios.length - 1) / 2]?

/-- Whether an entry of a ratio qualifies against the median (R162, step 3). -/
def qualifies (m ratio : Int) : Bool := decide ((ratio - m).natAbs ≤ 300)

/-- The computation on a history of entries (R162, R163). -/
def vefOfEntries (entries : List (Int × Int)) : VefState :=
  let ratios := entries.map entryRatio
  match lowerMedian ratios with
  | none => ⟨.unavailable .fewEntries, entries.length, none, [], 0, none⟩
  | some m =>
    let marked := ratios.map (fun r => (r, qualifies m r))
    let kept := entries.filter (fun e => qualifies m (entryRatio e))
    let v := roundDiv (sumInt (kept.map (·.1)) * 100000) (sumInt (kept.map (·.2)))
    if kept.length < 5 then ⟨.unavailable .fewEntries, entries.length, some m, marked, kept.length, none⟩
    else if inRange 98000 102000 v then ⟨.available v, entries.length, some m, marked, kept.length, none⟩
    else ⟨.unavailable .outOfRange, entries.length, some m, marked, kept.length, some v⟩

/-- The entries an item holds for the unit, by its stored status (R159). -/
def Item.entries (i : Item) : List (Int × Int) :=
  match i.status with
  | .valid => historyOf i.image
  | .empty => []
  | .invalid => []

/-- The computation on a history item (R162). -/
def vefOfItem (i : Item) : VefState :=
  match i.status with
  | .invalid => ⟨.unavailable .historyInvalid, 0, none, [], 0, none⟩
  | .empty => vefOfEntries []
  | .valid => vefOfEntries (historyOf i.image)

/-- The unit computes a direction afresh (R161). -/
def State.computeVef (s : State) (d : Direction) : State :=
  s.setVef d (some (vefOfItem (s.store.item (historyId d))))

/-- The unit computes the direction whose history an item is, if it is one (R161, R184). -/
def State.computeVefOf (s : State) (id : Nat) : State :=
  match historyDirection id with
  | some d => s.computeVef d
  | none => s

/-- The factor a CLOSE job copies (R164): before start-up verification has completed the unit holds none, and then no
CLOSE job starts (R109). -/
def State.vefResult (s : State) (d : Direction) : VefResult :=
  match s.vef d with
  | some v => v.result
  | none => .unavailable .fewEntries

/-- Whether the finalize of a record qualifies for a voyage entry (R165), with the figures of the entry. -/
def voyageEntry (r : TransferRecord) : Option (Int × Int) :=
  match r.cause, r.ship, r.shore with
  | none, some ship, some shore =>
    if inRange 100000 999999999 ship && inRange 100000 999999999 shore then some (ship, shore) else none
  | _, _, _ => none

/-- A list with an eleventh entry's oldest removed (R159). -/
def newestTen {α : Type} (xs : List α) : List α := xs.drop (xs.length - 10)

/-- The entries of a history after a finalize's append (R166). -/
def appendedEntries (i : Item) (e : Int × Int) : List (Int × Int) := newestTen (i.entries ++ [e])

/-- The origins of a history after a finalize's append (R166). -/
def appendedOrigins (i : Item) : List Origin :=
  match i.status with
  | .valid => newestTen (i.origins ++ [.recorded])
  | .empty => [.recorded]
  | .invalid => [.recorded]

end Sys2Proof.Machine
end

