-- ==== Sys2Proof/Machine/Engine.lean ====
section
/-!
DEFINITION. The Calculation Engine: the arbiter and the copy a job takes (R102, R103), the causes that fail an OPEN
or a CLOSE job (R40, R136), the bound of a job (R104), and the commands JOB_START and CYCLE_TIMER_EXPIRY.
-/

namespace Sys2Proof.Machine

/-! ### The copy (R59, R103) -/

/-- The attitude in force for a tank reading that arrived at `t` (R51), instants compared by age. -/
def attInForce (ring : List AttReading) (now t : Instant) : Option AttReading :=
  match (ring.filter (fun a => decide (age now t ≤ age now a.arrival))).getLast? with
  | some a => some a
  | none => ring.head?

/-- The copy of one tank (R59, R65). -/
def State.copyTank (s : State) (staleness n : Nat) : TankCopy :=
  let t := s.tank n
  let valid := s.store.isValid n
  { number := n
    latest := t.latest
    fresh := freshness (t.latest.map (·.arrival)) s.clock staleness
    held := t.held
    heldCount := t.heldCount
    suspect := t.suspect
    ring := t.ring
    att := t.latest.bind (fun r => attInForce s.att.ring s.clock r.arrival)
    tableValid := valid
    table := if valid then tankTableOf (s.store.item n).image else ⟨0, [], [], []⟩ }

/-- The running state of a meter of a parcel. -/
def Parcel.runFor (r : Parcel) (n : Nat) : Option MeterRun := r.run.find? (fun m => decide (m.meter = n))

/-- The copy of one meter (R59, R84); an OPEN job reads d from the meter definition (R41). -/
def State.copyMeter (s : State) (k : JobKind) (r : Parcel) (n : Nat) : MeterCopy :=
  let m := s.meter n
  let valid := s.store.isValid (16 + n)
  let run := r.runFor n
  { number := n
    latest := m.latest
    fresh := freshness (m.latest.map (·.arrival)) s.clock r.params.staleness
    held := m.held
    reverse := m.reverse
    heldCount := m.heldCount
    suspect := m.suspect
    ring := m.ring
    lastAligned := run.bind (·.lastAligned)
    acc := (run.map (·.acc)).getD 0
    d := match k with
      | .openJob => if valid then deviationOf (s.store.item (16 + n)).image else 0
      | .cycle => (run.map (·.d)).getD 0
      | .close => (run.map (·.d)).getD 0
    defValid := valid }

/-- The item id of the expansion table a TAB basis uses. -/
def Basis.expansionItem (b : Basis) : Option Nat :=
  match b.method with
  | .tab => b.tableId.map (fun k => 24 + k)
  | .quad => none
  | .lin => none

/-- The copy a job takes at its start (R103). -/
def State.jobCopy (s : State) (k : JobKind) (p : ParcelNo) : JobCopy :=
  let r := s.parcel p
  let table := r.basis.bind (·.expansionItem)
  let valid := (table.map s.store.isValid).getD false
  { tanks := (s.tanksOf p).map (s.copyTank r.params.staleness)
    att := s.att.latest
    attFresh := freshness (s.att.latest.map (·.arrival)) s.clock r.params.staleness
    attRing := s.att.ring
    meters := (s.metersOf p).map (s.copyMeter k r)
    expansionValid := valid
    expansion := if valid then (table.map (fun id => expansionOf (s.store.item id).image)).getD [] else []
    basis := r.basis
    direction := r.direction
    opening := r.opening
    cycle := r.cycle
    lineAdjust := r.lineAdjust
    vef := s.vefResult r.direction }

/-- The causes that fail an OPEN job, against its copy (R40). -/
def JobCopy.openCauses (c : JobCopy) : List OpenCause :=
  (c.tanks.filter (fun t => t.latest.isNone)).map (fun t => OpenCause.noReading (.tank t.number))
    ++ (c.meters.filter (fun m => m.latest.isNone)).map (fun m => OpenCause.noReading (.meter m.number))
    ++ (if c.att.isNone then [OpenCause.noReading .att] else [])
    ++ (c.tanks.filter (fun t => !t.tableValid)).map (fun t => OpenCause.tableInvalid t.number)
    ++ (c.meters.filter (fun m => !m.defValid)).map (fun m => OpenCause.tableInvalid (16 + m.number))
    ++ (match c.basis.bind (·.expansionItem) with
      | some id => if c.expansionValid then [] else [OpenCause.tableInvalid id]
      | none => [])

/-- The items that fail a CLOSE job, against its copy (R136). -/
def JobCopy.closeFaults (c : JobCopy) : List Nat :=
  (c.tanks.filter (fun t => !t.tableValid)).map (·.number)
    ++ (match c.basis.bind (·.expansionItem) with
      | some id => if c.expansionValid then [] else [id]
      | none => [])

/-! ### The arbiter (R102) -/

/-- The lowest-numbered parcel for which a kind of job waits. -/
def Engine.lowestWaiting (e : Engine) (k : JobKind) : Option ParcelNo :=
  allParcels.find? (fun p => (e.jobs p).has k)

/-- The parcels in round-robin order from the one after the mark. -/
def roundRobin (mark : ParcelNo) : List ParcelNo := [mark + 1, mark + 2, mark + 3, mark]

/-- The job the arbiter takes (R102): a CLOSE of the lowest parcel, else an OPEN of the lowest parcel, else a CYCLE in
round-robin order. -/
def Engine.choose (e : Engine) : Option (JobKind × ParcelNo) :=
  match e.lowestWaiting .close with
  | some p => some (.close, p)
  | none =>
    match e.lowestWaiting .openJob with
    | some p => some (.openJob, p)
    | none => ((roundRobin e.mark).find? (fun p => (e.jobs p).cycle)).map (fun p => (JobKind.cycle, p))

/-- The arbiter starts a job on an IDLE engine (R102): it leaves the waiting set, takes its copy, and a CYCLE sets the
round-robin mark. -/
def State.startJob (s : State) : State :=
  match s.engine.running, s.engine.choose with
  | none, some (k, p) =>
    let e := s.engine.setJobs p ((s.engine.jobs p).put k false)
    s.setEngine { e with
      running := some ⟨k, p, s.clock, s.msec, false, s.jobCopy k p⟩
      mark := if k = .cycle then p else e.mark }
  | _, _ => s

/-- The bound of a job in milliseconds (R104). -/
def RunningJob.bound (j : RunningJob) : Nat :=
  match j.kind with
  | .cycle => 5 + 2 * j.copy.tanks.length + 2 * j.copy.meters.length
  | .openJob => 10 + 3 * j.copy.tanks.length + 3 * j.copy.meters.length
  | .close => 10 + 3 * j.copy.tanks.length + 3 * j.copy.meters.length

/-- JOB_START (R102). On a BUSY engine, or with no job waiting, no job starts. -/
def execJobStart (s : State) : Host.Outcome State Fault Refusal := .next s.startJob

/-- Whether the cycle timer of a parcel has reached its expiry (R110). -/
def Parcel.cycleDue (r : Parcel) (now : Instant) : Bool :=
  decide (r.state = .transferring) && (match r.cycleTimer with
    | some e => reached now e
    | none => false)

/-- The expiry of a cycle timer (R110, R111): it reloads from the expiry just reached, and a CYCLE is placed, or the
overrun indication is set when one waits or runs. -/
def State.expireCycleTimer (s : State) (p : ParcelNo) : State :=
  let r := s.parcel p
  if r.cycleDue s.clock then
    let busy := (s.engine.jobs p).cycle || s.engine.runs .cycle p
    let reloaded := { r with cycleTimer := r.cycleTimer.map (· + tenths r.params.cyclePeriod) }
    if busy then s.setParcel p { reloaded with overrun := true }
    else (s.setParcel p reloaded).placeJob .cycle p
  else s

/-- CYCLE_TIMER_EXPIRY (R111). Where the timer does not run or is not yet due, there is no expiry. -/
def execCycleTimerExpiry (p : ParcelNo) (s : State) : Host.Outcome State Fault Refusal :=
  .next (s.expireCycleTimer p)

end Sys2Proof.Machine
end

