-- ==== Sys2Proof/Machine/Recon.lean ====
section
/-!
DEFINITION. Running Reconciliation (07_running_reconciliation.md): the judgement of an applied cycle, the grade and
its restores, the alarm, and the commands CYCLE_COMPLETE, RESTORED_BY_TIME, RESTORE_GRADE and PULSE_END.
-/

namespace Sys2Proof.Machine

/-! ### The judgement (R113 to R127) -/

/-- The larger of two magnitudes (R114, R140). -/
def largerMagnitude (a b : Int) : Int := max (a.natAbs : Int) (b.natAbs : Int)

/-- The band of a tolerance (R115, R140): the larger of the floor and the proportional term. -/
def bandOf (floor : Nat) (tolerance : Nat) (q : Int) : Int :=
  max (floor : Int) (roundDiv (q * (tolerance : Int)) 1000000)

/-- The band of a cycle at a grade (R115); none at grade 3. -/
def cycleBand (grade : Nat) (x : Params) (q : Int) : Option Int :=
  if grade = 1 then some (bandOf x.floor x.tolerance q)
  else if grade = 2 then some (bandOf x.floor (2 * x.tolerance) q)
  else none

/-- The half band (R115). -/
def halfBand (b : Int) : Int := roundDiv b 2

/-- The least Q that is judged (R117). -/
def minimumQ (x : Params) : Int := max (10 * (x.floor : Int)) 10000

/-- The outcome of a cycle (R117). -/
def outcomeOf (x : Params) (band : Option Int) (q delta : Int) (anyCause : Bool) : CycleOutcome :=
  match band with
  | none => .notJudgedGrade3
  | some b =>
    if q < minimumQ x then .notJudgedBelowMinimum
    else if anyCause then .indeterminate
    else if (delta.natAbs : Int) ≤ b then .within (decide ((delta.natAbs : Int) ≤ halfBand b))
    else .divergent

/-- The indeterminate counter, the grade and the downshift flags after an outcome (R119, R120). With DOWNSHIFT_N 1 a cycle
judged after a restore at the same instant falls a grade again, although R124 says the parcel is left at grade 1
(assumption 22). -/
def gradeAfter (x : Params) (o : CycleOutcome) (r : Recon) : Recon :=
  match o with
  | .indeterminate =>
    if r.indeterminate + 1 < x.downshiftN then { r with indeterminate := r.indeterminate + 1 }
    else if r.grade = 1 then { r with indeterminate := 0, grade := 2, downFrom1 := true }
    else { r with indeterminate := 0, grade := 3, downFrom2 := true }
  | .within _ => { r with indeterminate := 0 }
  | .divergent => { r with indeterminate := 0 }
  | .notJudgedGrade3 => r
  | .notJudgedBelowMinimum => r

/-- The alarm state and its counts after an outcome (R125, R126, R127). -/
def alarmAfter (x : Params) (o : CycleOutcome) (r : Recon) : Recon :=
  match r.alarm, o with
  | false, .divergent =>
    if r.divergent + 1 < x.confirmCount then { r with divergent := r.divergent + 1 }
    else { r with alarm := true, divergent := 0, clear := 0 }
  | false, .within _ => { r with divergent := 0 }
  | true, .within true =>
    if r.clear + 1 < x.clearCount then { r with clear := r.clear + 1 }
    else { r with alarm := false, divergent := 0, clear := 0 }
  | true, .within false => { r with clear := 0 }
  | true, .divergent => { r with clear := 0 }
  | _, _ => r

/-- The figures and judgement of an applied cycle (R114 to R118), at the grade held when the judgement begins. -/
def latestCycleOf (c : JobCopy) (b : Basis) (start : Instant) (x : Params) (grade : Nat) (cycle : BitVec 16) :
    LatestCycle :=
  let tanks := c.tankFigures b
  let meters := c.meterFigures .cycle b start
  let totals := tankTotals tanks
  let openingGsv := (c.opening.map (·.totals.gsv)).getD 0
  let ship := shipFigure c.direction openingGsv totals.gsv
  let shore := shoreFigure meters
  let delta := ship - shore
  let q := largerMagnitude ship shore
  let band := cycleBand grade x q
  let causes := c.causes b tanks meters
  { cycle := cycle
    snapshot := c.snapshot start
    ship := ship
    shore := shore
    delta := delta
    q := q
    band := band
    half := band.map halfBand
    grade := grade
    outcome := outcomeOf x band q delta causes.any
    causes := causes
    tanks := tanks
    totals := totals
    meters := meters
    meterVolumes := meterVolumes meters
    massShip := mass b ship
    massShore := mass b shore
    tankMasses := tanks.map (fun f => mass b f.gsv)
    massGsv := mass b totals.gsv }

/-- A parcel record after an applied cycle (R106, R113 steps 1 to 7): cycle number, running state, grade, alarm,
alarms raised, lowest grade, latest cycle. The overrun indication is cleared as CYCLE_RESULT is posted (R131). -/
def Parcel.afterCycle (r : Parcel) (lc : LatestCycle) : Parcel :=
  let graded := gradeAfter r.params lc.outcome r.recon
  let alarmed := alarmAfter r.params lc.outcome graded
  { r with
    cycle := lc.cycle
    run := runOf lc.meters
    recon := { alarmed with latest := some lc }
    alarmsRaised := if alarmed.alarm && !r.recon.alarm then min 255 (r.alarmsRaised + 1) else r.alarmsRaised
    lowestGrade := max r.lowestGrade alarmed.grade
    overrun := false }

/-- The alarm output after a cycle moved a parcel's alarm state (R128, R209). -/
def State.alarmMoved (s : State) (before after : Bool) : State :=
  if after && !before then s.alarmRaised
  else if before && !after then s.alarmFell
  else s

/-- The checkpoint of R130: requested when the new cycle number is a multiple of CHECKPOINT_INTERVAL. -/
def State.cycleCheckpoint (s : State) (p : ParcelNo) : State :=
  let r := s.parcel p
  if r.cycle.toNat % r.params.checkpointInterval = 0 then s.requestCheckpoint p else s

/-- The notices of one judged cycle, in the order of R132. The band of an ALARM_CHANGE is never absent (R128): only a cycle
with a band is judged, and only a judged cycle moves the alarm state. -/
def State.cycleNotices (s : State) (p : ParcelNo) (old new : Parcel) (lc : LatestCycle) : State :=
  let s1 := s.postAll (.cycleResult p lc new.recon.grade new.recon.indeterminate new.recon.downFrom1
    new.recon.downFrom2 new.recon.alarm new.recon.divergent new.recon.clear old.overrun)
  let s2 := if old.recon.grade = new.recon.grade then s1
    else s1.postAll (.gradeChange p old.recon.grade new.recon.grade .downshift (some lc.cycle) new.recon.downFrom1
      new.recon.downFrom2 new.lowestGrade)
  if old.recon.alarm = new.recon.alarm then s2
  else s2.postAll (.alarmChange p new.recon.alarm lc.cycle lc.delta (lc.band.getD 0) lc.grade new.alarmsRaised)

/-- A CYCLE's result applied to its parcel (R106, R113): record, alarm output and lamp, checkpoint, notices, PULSE. -/
def State.applyCycle (s : State) (j : RunningJob) : State :=
  let p := j.parcel
  let r := s.parcel p
  let lc := latestCycleOf j.copy (j.copy.basis.getD default) j.start r.params r.recon.grade (r.cycle + 1)
  let new := r.afterCycle lc
  let s1 := ((s.setParcel p new).alarmMoved r.recon.alarm new.recon.alarm).relamp p
  ((s1.cycleCheckpoint p).cycleNotices p r new lc).pulse p

/-- The completion of a CYCLE (R105, R106): applied when it is not VOID and its parcel is in TRANSFERRING, and
otherwise discarded. -/
def State.completeCycle (s : State) : State :=
  match s.engine.running with
  | some j =>
    if j.kind = .cycle then
      if j.voided = false ∧ (s.parcel j.parcel).state = .transferring then (s.engineIdle.applyCycle j).transmitAll
      else s.engineIdle
    else s
  | none => s

/-- CYCLE_COMPLETE (R106). Where no CYCLE runs, none completes. -/
def execCycleComplete (s : State) : Host.Outcome State Fault Refusal := .next s.completeCycle

/-! ### Restoring the grade (R122, R123) -/

/-- The reconciliation state after a restore (R122). -/
def Recon.restored (r : Recon) : Recon :=
  { r with grade := 1, indeterminate := 0, downFrom1 := false, downFrom2 := false }

/-- A restore of a parcel's grade (R121, R122): GRADE_CHANGE is posted only when the grade was not 1. -/
def State.restoreGrade (s : State) (p : ParcelNo) (cause : GradeCause) : State :=
  let r := s.parcel p
  let s1 := s.setParcel p { r with recon := r.recon.restored }
  if r.recon.grade = 1 then s1
  else s1.postAll (.gradeChange p r.recon.grade 1 cause none false false r.lowestGrade)

/-- The restore mark of a parcel's no-flow timer is reached (R17, R122): the mark is spent and the grade restored. -/
def State.reachRestoreMark (s : State) (p : ParcelNo) : State :=
  let r := s.parcel p
  if r.inTransfer && r.restoreArmed && r.noFlowReached s.clock r.params.restoreTime then
    ((s.setParcel p { r with restoreArmed := false }).restoreGrade p .restoredByTime).transmitAll
  else s

/-- RESTORED_BY_TIME (R122). Where the timer does not run, or the mark is spent or not yet reached, nothing is
reached. -/
def execRestoredByTime (p : ParcelNo) (s : State) : Host.Outcome State Fault Refusal := .next (s.reachRestoreMark p)

/-- RESTORE_GRADE as the Parcel Table answers it (R123). -/
def reqRestoreGrade : Body := fun _ pl s =>
  withParcel (formLen 1) pl s fun p =>
    if (s.parcel p).inTransfer then
      let s1 := s.restoreGrade p .restoreGrade
      let g := (s1.parcel p).recon
      s1.answerParcel p .ok (e1 g.grade ++ e1 g.indeterminate ++ eDownFlags g.downFrom1 g.downFrom2)
    else refuse s .refusedState

/-- RESTORE_GRADE (R123). -/
def execRestoreGrade (l : Link) (tag : Byte) (pl : List Byte) (s : State) : Host.Outcome State Fault Refusal :=
  .next (serve .restoreGrade reqRestoreGrade l tag pl s)

/-! ### The lamp's PULSE (R212) -/

/-- The 100 ms of a PULSE end (R212). -/
def State.endPulse (s : State) (p : ParcelNo) : State :=
  let lamp := s.lines.lamp p
  match lamp.pulseUntil with
  | some e => if e ≤ s.msec then s.setLines (s.lines.setLamp p { lamp with pulseUntil := none }) else s
  | none => s

/-- PULSE_END (R212). Where no PULSE shows, or its 100 ms have not passed, none ends. -/
def execPulseEnd (p : ParcelNo) (s : State) : Host.Outcome State Fault Refusal := .next (s.endPulse p)

end Sys2Proof.Machine
end

