-- ==== Sys2Proof/Machine/Basis.lean ====
section
/-!
DEFINITION. Basis Agreement (02_basis_agreement.md): the offers and their resolution, and the commands OFFER_BASIS,
OPEN, OPEN_DONE and OPEN_FAILED.
-/

namespace Sys2Proof.Machine

/-! ### The offer a payload carries (R30) -/

/-- Whether a methods byte is a non-empty subset of {TAB, QUAD, LIN} (R30). -/
def methodsOk (m : Nat) : Bool := decide (0 < m) && decide (m < 8)

/-- Whether a mass-bases byte is a non-empty subset of {VAC, AIR} (R30). -/
def massBasesOk (m : Nat) : Bool := decide (0 < m) && decide (m < 4)

/-- Whether the table id, an optional field (R197), is present in the payload of an offer (section 2.1). -/
def offerHasTable (pl : List Byte) : Bool := decide (u8 pl 2 = 1)

/-- Where the fields after the table id begin in the payload of an offer (section 2.1, R197). -/
def offerRest (pl : List Byte) : Nat := if offerHasTable pl then 4 else 3

/-- The common part of an offer (R30); absent where a field is out of range. TAB calls for a table id 1..8; without TAB a
table id that is present is not examined and not kept. That TAB without a table id is out of range is the model's reading
(assumption 7). -/
def commonOfferOf (pl : List Byte) : Option CommonOffer :=
  let m := u8 pl 1
  let tab := setBit m 0
  let k := offerRest pl
  if methodsOk m && (!tab || (offerHasTable pl && inRange 1 8 (u8 pl 3))) && inRange 100 2000 (u16 pl k)
      && (decide (s16 pl (k + 2) = 1500) || decide (s16 pl (k + 2) = 2000)) && massBasesOk (u8 pl (k + 4))
      && inRange 6000 11000 (u16 pl (k + 5)) then
    some
      { tab := tab
        quad := setBit m 1
        lin := setBit m 2
        tableId := if tab then some (u8 pl 3) else none
        alpha := u16 pl k
        refTemp := s16 pl (k + 2)
        vac := setBit (u8 pl (k + 4)) 0
        air := setBit (u8 pl (k + 4)) 1
        density := u16 pl (k + 5) }
  else none

/-- A free-water mode from its enumeration value. -/
def freeWaterOf (n : Nat) : Option FreeWaterMode :=
  match n with
  | 1 => some .measured
  | 2 => some .none
  | _ => none

/-- A pressure mode from its enumeration value. -/
def pressureModeOf (n : Nat) : Option PressureMode :=
  match n with
  | 1 => some .on
  | 2 => some .off
  | _ => none

/-- The ship offer of a payload (R30). -/
def shipOfferOf (pl : List Byte) : Option ShipOffer :=
  match commonOfferOf pl, freeWaterOf (u8 pl (offerRest pl + 7)) with
  | some c, some f => some ⟨c, f⟩
  | _, _ => none

/-- The shore offer of a payload (R30). -/
def shoreOfferOf (pl : List Byte) : Option ShoreOffer :=
  let k := offerRest pl
  match commonOfferOf pl, pressureModeOf (u8 pl (k + 7)) with
  | some c, some m => if u16 pl (k + 8) ≤ 500 then some ⟨c, m, u16 pl (k + 8)⟩ else none
  | _, _ => none

/-- The form of an OFFER_BASIS payload from a link (section 2.1, R195, R197): the presence byte of the table id is 0 or 1
(assumption 7), and the length is that of the fields present. -/
def offerForm (l : Link) (pl : List Byte) : Bool :=
  decide (u8 pl 2 ≤ 1)
    && match l with
      | .ship => formLen (11 + u8 pl 2) pl
      | .shore => formLen (13 + u8 pl 2) pl
      | .survey => false

/-! ### Resolution (R32 to R35) -/

/-- The resolved mass basis (R32 step 3). -/
def resolveMass (a b : CommonOffer) : Option MassBasis :=
  if a.vac && b.vac then some .vac else if a.air && b.air then some .air else none

/-- Whether TAB is common (R33). -/
def tabCommon (a b : CommonOffer) : Bool := a.tab && b.tab && decide (a.tableId = b.tableId)

/-- Whether QUAD is common (R33). -/
def quadCommon (a b : CommonOffer) : Bool := a.quad && b.quad && decide (a.alpha = b.alpha)

/-- Whether LIN is common (R33). -/
def linCommon (a b : CommonOffer) : Bool := a.lin && b.lin && decide (a.alpha = b.alpha)

/-- The highest common method after TAB (R33, R34). -/
def nextCommon (a b : CommonOffer) : Option Method :=
  if quadCommon a b then some .quad else if linCommon a b then some .lin else none

/-- The method of a resolution with its TAB_FALLBACK flag, or the failure (R33, R34); `tableValid` is whether the
named expansion table is VALID at that moment. -/
def resolveMethod (a b : CommonOffer) (tableValid : Bool) : Except ResolveFailure (Method × Bool) :=
  match tabCommon a b, nextCommon a b with
  | true, next =>
    if tableValid then .ok (.tab, false)
    else match next with
      | some m => .ok (m, true)
      | none => .error .tableInvalid
  | false, some m => .ok (m, false)
  | false, none => .error .noCommonMethod

/-- The resolution of two offers (R32, R35). -/
def resolve (so : ShipOffer) (ho : ShoreOffer) (tableValid : Bool) : Except ResolveFailure Basis :=
  let a := so.common
  let b := ho.common
  if a.refTemp ≠ b.refTemp then .error .refMismatch
  else if 5 < ((a.density : Int) - b.density).natAbs then .error .densityMismatch
  else
    match resolveMass a b with
    | none => .error .massBasis
    | some mass =>
      match resolveMethod a b tableValid with
      | .error e => .error e
      | .ok (m, fallback) =>
        .ok
          { method := m
            tableId := if m = .tab ∨ fallback then a.tableId else none
            alpha := if m = .tab then none else some a.alpha
            refTemp := a.refTemp
            density := (roundDiv ((a.density : Int) + b.density) 2).toNat
            massBasis := mass
            freeWater := so.freeWater
            pressure := ho.pressure
            compress := ho.compress
            tabFallback := fallback }

/-- Whether the expansion table a ship offer names is VALID now (R34). -/
def State.offeredTableValid (s : State) (so : ShipOffer) : Bool :=
  match so.common.tableId with
  | some k => s.store.isValid (24 + k)
  | none => false

/-! ### OFFER_BASIS (R30, R31, R36, R37) -/

/-- The response to an offer (R31): the outcome, PENDING 1, RESOLVED 2, FAILED 3, a failure followed by its cause. The
cause stands in a FAILED response alone and follows without a presence byte: R31 gives it with FAILED, and whether R197
makes it an optional field is open; leaving the byte out is the model's choice (assumption 7). -/
def offerOutcome : Option (Except ResolveFailure Basis) → List Byte
  | none => [1]
  | some (.ok _) => [2]
  | some (.error e) => 3 :: eResolveFailure e

/-- An accepted offer stored in a record, which `r` holds already, and resolved where both are present (R31, R36,
R37). -/
def State.storeOffer (s : State) (p : ParcelNo) (r : Parcel) (l : Link) : State × Reply :=
  let cause := Cause.request .offerBasis l
  let base := { r with state := .declared, openSet := PartySet.empty, basis := none }
  match r.shipOffer, r.shoreOffer with
  | some so, some ho =>
    let out := resolve so ho (s.offeredTableValid so)
    let s1 := match out with
      | .ok b =>
        (s.changeParcel p { base with state := .basisAgreed, basis := some b } cause).postAll
          (.basisResolved p b so ho)
      | .error e =>
        (s.changeParcel p { base with shipOffer := none, shoreOffer := none } cause).postAll (.basisFailed p e)
    s1.answerParcel p .ok (offerOutcome (some out))
  | _, _ => (s.changeParcel p base cause).answerParcel p .ok (offerOutcome none)

/-- OFFER_BASIS as Basis Agreement answers it (R30, R31). -/
def reqOfferBasis : Body := fun l pl s =>
  withParcel (offerForm l) pl s fun p =>
    let r := s.parcel p
    if r.state.declarable then
      match l with
      | .ship =>
        match shipOfferOf pl with
        | some o => s.storeOffer p { r with shipOffer := some o } l
        | none => refuse s .refusedRange
      | .shore =>
        match shoreOfferOf pl with
        | some o => s.storeOffer p { r with shoreOffer := some o } l
        | none => refuse s .refusedRange
      | .survey => refuse s .refusedRights
    else refuse s .refusedState

/-- OFFER_BASIS (R30, R31). -/
def execOfferBasis (l : Link) (tag : Byte) (pl : List Byte) (s : State) : Host.Outcome State Fault Refusal :=
  .next (serve .offerBasis reqOfferBasis l tag pl s)

/-! ### OPEN (R9, R39) -/

/-- An OPEN that passed its checks (R9, R39). -/
def State.joinOpen (s : State) (p : ParcelNo) (l : Link) : State × Reply :=
  let r := s.parcel p
  let joined := r.openSet.put l true
  if r.openSet.has l then s.answerParcel p .ok []
  else if joined.isFull then
    ((s.changeParcel p { r with openSet := joined, state := .opening } (.request .openParcel l)).placeJob .openJob
      p).answerParcel p .accepted []
  else (s.changeParcel p { r with openSet := joined } (.request .openParcel l)).answerParcel p .ok []

/-- OPEN as Basis Agreement answers it (R39). -/
def reqOpen : Body := fun l pl s =>
  withParcel (formLen 1) pl s fun p =>
    match (s.parcel p).state with
    | .basisAgreed =>
      if (s.tanksOf p).isEmpty || (s.metersOf p).isEmpty then refuse s .refusedState else s.joinOpen p l
    | _ => refuse s .refusedState

/-- OPEN (R39). -/
def execOpen (l : Link) (tag : Byte) (pl : List Byte) (s : State) : Host.Outcome State Fault Refusal :=
  .next (serve .openParcel reqOpen l tag pl s)

/-! ### The end of an OPEN job (R10, R41, R42) -/

/-- The opening figures an OPEN job computes (R41, R66, R80, R82, R95, R151). -/
def State.openingOf (s : State) (c : JobCopy) (b : Basis) (start : Instant) : OpeningFigures :=
  let tanks := c.tankFigures b
  let totals := tankTotals tanks
  { s0 := c.snapshot start
    calendar := s.calendar.map (fun k => k.timeOf (c.snapshot start))
    tanks := tanks
    totals := totals
    meters := c.meterFigures .openJob b start
    tankMasses := tanks.map (fun f => mass b f.gsv)
    massGsv := mass b totals.gsv }

/-- A record after its OPEN job completed (R10, R17). -/
def Parcel.opened (r : Parcel) (o : OpeningFigures) (esd : Bool) (now : Instant) : Parcel :=
  let r1 := { r.rearm with
    opening := some o
    run := runOf o.meters
    cycle := 0
    flowRef := some now
    lastFlow := none
    openSet := PartySet.empty
    suspendSet := { SuspendSet.empty with esd := esd } }
  if esd then r1.toSuspended else r1.toTransferring now

/-- The OPEN job of a parcel in OPENING completes (R10, R41). -/
def State.finishOpen (s : State) (j : RunningJob) : State :=
  let p := j.parcel
  let o := s.openingOf j.copy (j.copy.basis.getD default) j.start
  (s.changeParcel p ((s.parcel p).opened o s.lines.esd.level s.clock) .openDone).requestCheckpoint p

/-- The completion of an OPEN job without a cause of R40 (R107). -/
def State.completeOpen (s : State) : State :=
  match s.engine.running with
  | some j =>
    if j.kind = .openJob ∧ j.copy.openCauses = [] ∧ (s.parcel j.parcel).state = .opening then
      (s.engineIdle.finishOpen j).transmitAll
    else s
  | none => s

/-- OPEN_DONE (R10). Where no OPEN job without a cause of R40 runs, none completes so. -/
def execOpenDone (s : State) : Host.Outcome State Fault Refusal := .next s.completeOpen

/-- The OPEN job of a parcel in OPENING fails (R10, R42). -/
def State.failOpen (s : State) (j : RunningJob) : State :=
  let p := j.parcel
  let r := s.parcel p
  (s.changeParcel p { r with state := .basisAgreed, openSet := PartySet.empty } .openFailed).postAll
    (.openFailed p j.copy.openCauses)

/-- The completion of a failed OPEN job (R42). -/
def State.completeOpenFailed (s : State) : State :=
  match s.engine.running with
  | some j =>
    if j.kind = .openJob ∧ j.copy.openCauses ≠ [] ∧ (s.parcel j.parcel).state = .opening then
      (s.engineIdle.failOpen j).transmitAll
    else s
  | none => s

/-- OPEN_FAILED (R42). Where no OPEN job with a cause of R40 runs, none fails. -/
def execOpenFailed (s : State) : Host.Outcome State Fault Refusal := .next s.completeOpenFailed

end Sys2Proof.Machine
end

