-- ==== Sys2Proof/Machine/Closing.lean ====
section
/-!
DEFINITION. Closing and Agreement (08_closing_and_agreement.md): the figures of a CLOSE job, the publication of a
revision, acceptance and dispute, the transfer record, and the commands CLOSE_DONE, CLOSE_FAILED, ACCEPT, WITNESS,
DISPUTE, ACCEPT_TIMEOUT, REGAUGE, SET_LINE_ADJUST and ABORT.
-/

namespace Sys2Proof.Machine

/-! ### The figures of a CLOSE job (R137 to R140) -/

/-- The adjusted ship figure (R138). -/
def adjustedShip (ship : Int) : VefResult → Option Int
  | .available f => some (roundDiv (ship * 100000) f)
  | .unavailable _ => none

/-- The closing figures of a CLOSE job (R137 to R141). -/
def closingOf (c : JobCopy) (b : Basis) (start : Instant) (x : Params) (revision : Nat) : ClosingFigures :=
  let tanks := c.tankFigures b
  let meters := c.meterFigures .close b start
  let totals := tankTotals tanks
  let openingGsv := (c.opening.map (·.totals.gsv)).getD 0
  let ship := shipFigure c.direction openingGsv totals.gsv
  let shore := shoreFigure meters + c.lineAdjust
  let delta := ship - shore
  let adj := adjustedShip ship c.vef
  let adjDelta := adj.map (fun a => a - shore)
  let judgedShip := adj.getD ship
  let judgedDelta := adjDelta.getD delta
  let band := bandOf x.floor x.tolerance (largerMagnitude judgedShip shore)
  { revision := revision
    snapshot := c.snapshot start
    tanks := tanks
    totals := totals
    meters := meters
    meterVolumes := meterVolumes meters
    ship := ship
    lineAdjust := c.lineAdjust
    shore := shore
    delta := delta
    vef := c.vef
    adjShip := adj
    adjDelta := adjDelta
    tankMasses := tanks.map (fun f => mass b f.gsv)
    massGsv := mass b totals.gsv
    massShip := mass b ship
    massShore := mass b shore
    massAdj := adj.map (mass b)
    massDelta := mass b delta
    massAdjDelta := adjDelta.map (mass b)
    band := band
    within := decide ((judgedDelta.natAbs : Int) ≤ band)
    conditions := c.causes b tanks meters }

/-! ### Publication and failure (R141, R143) -/

/-- The revision the next publication takes (R141). -/
def Parcel.nextRevision (r : Parcel) : Nat :=
  match r.revision with
  | none => 0
  | some n => n + 1

/-- A revision published for a parcel in CLOSING (R141). -/
def State.publish (s : State) (j : RunningJob) : State :=
  let p := j.parcel
  let r := s.parcel p
  let figs := closingOf j.copy (j.copy.basis.getD default) j.start r.params r.nextRevision
  let expiry := s.clock + tenths r.params.acceptWindow
  let new := { r with
    revision := some r.nextRevision
    closing := some figs
    run := runOf figs.meters
    acceptance := AcceptSet.empty
    acceptTimer := some expiry
    state := .awaitingAccept }
  (s.changeParcel p new .closeDone).postAll (.figures p figs r.required expiry)

/-- The completion of a CLOSE job that computed its figures (R107, R141). -/
def State.completeClose (s : State) : State :=
  match s.engine.running with
  | some j =>
    if j.kind = .close ∧ j.copy.closeFaults = [] ∧ (s.parcel j.parcel).state = .closing then
      (s.engineIdle.publish j).transmitAll
    else s
  | none => s

/-- CLOSE_DONE (R141). Where no CLOSE job without a fault of R136 runs, none completes so. -/
def execCloseDone (s : State) : Host.Outcome State Fault Refusal := .next s.completeClose

/-- The record of a parcel back in its closed-from state (R15, R17): ESD is added while recognized active; both marks
are rearmed; the closed-from state is discarded. -/
def Parcel.afterCloseFailure (r : Parcel) (esd : Bool) (now : Instant) : Parcel :=
  let back := { r.rearm with closedFrom := none }
  if esd then { back with suspendSet := { r.suspendSet with esd := true } }.toSuspended
  else match r.closedFrom with
    | some .transferring => back.toTransferring now
    | _ => if r.suspendSet.isEmpty then back.toTransferring now else back.toSuspended

/-- A parcel returned from CLOSING by a failed CLOSE job (R14, R15, R143). -/
def State.failClose (s : State) (j : RunningJob) : State :=
  let p := j.parcel
  let new := (s.parcel p).afterCloseFailure s.lines.esd.level s.clock
  let s1 := s.changeParcel p new .closeFailed
  let s2 := if new.state = .suspended then s1.requestCheckpoint p else s1
  s2.postAll (.closeFailed p new.state j.copy.closeFaults)

/-- The completion of a failed CLOSE job (R107, R143). -/
def State.completeCloseFailed (s : State) : State :=
  match s.engine.running with
  | some j =>
    if j.kind = .close ∧ j.copy.closeFaults ≠ [] ∧ (s.parcel j.parcel).state = .closing then
      (s.engineIdle.failClose j).transmitAll
    else s
  | none => s

/-- CLOSE_FAILED (R143). Where no CLOSE job with a fault of R136 runs, none fails. -/
def execCloseFailed (s : State) : Host.Outcome State Fault Refusal := .next s.completeCloseFailed

/-! ### The transfer record (R151 to R153) -/

/-- What a transfer record takes from a revision, a latest cycle, or neither (R151, R152). -/
structure RecordFigures where
  source : FigureSource
  revision : Option Nat
  closeS : Option Instant
  tanks : List TankFigure
  meters : List (Nat × Int × MeterFlags)
  ship : Option Int
  shore : Option Int
  delta : Option Int
  vef : Option Int
  adjShip : Option Int
  adjDelta : Option Int
  massShip : Option Int
  massShore : Option Int
  massAdj : Option Int
  band : Option Int
  within : Option Bool
  conditions : Causes

/-- Meter number, standard volume and flags of meter figure records. -/
def meterEntries (fs : List MeterFigure) : List (Nat × Int × MeterFlags) :=
  fs.map (fun f => (f.meter, roundDiv f.accAfter 1000, f.flags))

/-- The figures of a revision (R151). -/
def figuresOfRevision (f : ClosingFigures) : RecordFigures where
  source := .revision
  revision := some f.revision
  closeS := some f.snapshot
  tanks := f.tanks
  meters := meterEntries f.meters
  ship := some f.ship
  shore := some f.shore
  delta := some f.delta
  vef := match f.vef with
    | .available v => some v
    | .unavailable _ => none
  adjShip := f.adjShip
  adjDelta := f.adjDelta
  massShip := some f.massShip
  massShore := some f.massShore
  massAdj := f.massAdj
  band := some f.band
  within := some f.within
  conditions := f.conditions

/-- The figures of a latest cycle (R152, RUNNING). -/
def figuresOfCycle (f : LatestCycle) : RecordFigures where
  source := .running
  revision := none
  closeS := some f.snapshot
  tanks := f.tanks
  meters := meterEntries f.meters
  ship := some f.ship
  shore := some f.shore
  delta := some f.delta
  vef := none
  adjShip := none
  adjDelta := none
  massShip := some f.massShip
  massShore := some f.massShore
  massAdj := none
  band := none
  within := none
  conditions := f.causes

/-- No figures (R152, NONE). -/
def figuresOfNone : RecordFigures where
  source := .none
  revision := none
  closeS := none
  tanks := []
  meters := []
  ship := none
  shore := none
  delta := none
  vef := none
  adjShip := none
  adjDelta := none
  massShip := none
  massShore := none
  massAdj := none
  band := none
  within := none
  conditions := Causes.none

/-- The figures a parcel's record carries: its last published revision, else its latest cycle, else none (R151,
R152). -/
def Parcel.recordFigures (r : Parcel) : RecordFigures :=
  match r.closing, r.recon.latest with
  | some f, _ => figuresOfRevision f
  | none, some c => figuresOfCycle c
  | none, none => figuresOfNone

/-- The figure record of a tank among several. -/
def findTank (fs : List TankFigure) (n : Nat) : Option TankFigure := fs.find? (fun f => decide (f.tank = n))

/-- The transfer record of a parcel as it then stands, with the sequence number it takes (R151 to R153). Of the figures
source NONE it has every closing flag clear and no closing condition (assumption 20). -/
def State.buildRecord (s : State) (p : ParcelNo) (r : Parcel) (cause : Option DisputeCause) : TransferRecord :=
  let f := r.recordFigures
  { seq := s.store.nextSeq
    parcel := p
    decl := r.decl
    cause := cause
    revision := f.revision
    source := f.source
    basis := r.basis
    openS := r.opening.map (·.s0)
    closeS := f.closeS
    openCalendar := r.opening.bind (·.calendar)
    closeCalendar := match s.calendar, f.closeS with
      | some c, some t => some (c.timeOf t)
      | _, _ => none
    tanks := (s.tanksOf p).map (fun n =>
      { tank := n
        openGsv := (r.opening.bind (fun o => findTank o.tanks n)).map (·.gsv)
        closeGsv := (findTank f.tanks n).map (·.gsv)
        flags := ((findTank f.tanks n).map (·.flags)).getD TankFlags.clear })
    meters := (s.metersOf p).map (fun n =>
      let e := f.meters.find? (fun x => decide (x.1 = n))
      { meter := n
        volume := e.map (·.2.1)
        flags := (e.map (·.2.2)).getD MeterFlags.clear })
    ship := f.ship
    lineAdjust := r.lineAdjust
    shore := f.shore
    delta := f.delta
    vef := f.vef
    adjShip := f.adjShip
    adjDelta := f.adjDelta
    massShip := f.massShip
    massShore := f.massShore
    massAdj := f.massAdj
    band := f.band
    within := f.within
    conditions := f.conditions
    acceptance := r.acceptance
    alarmsRaised := r.alarmsRaised
    lowestGrade := r.lowestGrade }

/-- The sequence number after one (R134, R153): 65535 is followed by 1. -/
def seqAfter (n : Nat) : Nat := if 65535 ≤ n then 1 else n + 1

/-- A parcel enters CLOSED or DISPUTED (R23): every timer stops, the reservation and the release set are emptied, the
transfer record is built with the next sequence number, one finalize is queued, finalize pending is set. -/
def State.enterOutcome (s : State) (p : ParcelNo) (r : Parcel) (cause : Option DisputeCause) (ev : Cause) : State :=
  let rec_ := s.buildRecord p r cause
  let new := { r with
    state := if cause.isSome then .disputed else .closed
    disputeCause := cause
    cycleTimer := none
    acceptTimer := none
    closeReservation := PartySet.empty
    releaseSet := PartySet.empty
    record := some rec_
    finalizePending := true }
  let s1 := s.changeParcel p new ev
  s1.setStore { s1.store.enqueue (.finalize p rec_) with nextSeq := seqAfter s1.store.nextSeq }

/-! ### Acceptance and dispute (R144 to R148) -/

/-- An acceptance from a link added to the set of a parcel in AWAITING_ACCEPT (R145 to R147). -/
def State.addAcceptance (s : State) (p : ParcelNo) (l : Link) (req : Req) : State :=
  let r := s.parcel p
  let new := { r with acceptance := r.acceptance.add l }
  if new.acceptance.covers r.required then s.enterOutcome p new none (.request req l)
  else s.setParcel p new

/-- ACCEPT and WITNESS after the checks of R2: the state, then the revision named (R145, R146). -/
def answerAcceptance (req : Req) (l : Link) (pl : List Byte) (s : State) : State × Reply :=
  withParcel (formLen 2) pl s fun p =>
    let r := s.parcel p
    if r.state = .awaitingAccept then
      if r.revision = some (u8 pl 1) then
        let s1 := s.addAcceptance p l req
        s1.answerParcel p .ok (eAcceptSet (s1.parcel p).acceptance)
      else refuse s .staleRevision
    else refuse s .refusedState

/-- ACCEPT as Closing and Agreement answers it (R145). -/
def reqAccept : Body := fun l pl s => answerAcceptance .accept l pl s

/-- ACCEPT (R145). -/
def execAccept (l : Link) (tag : Byte) (pl : List Byte) (s : State) : Host.Outcome State Fault Refusal :=
  .next (serve .accept reqAccept l tag pl s)

/-- WITNESS as Closing and Agreement answers it (R146). -/
def reqWitness : Body := fun l pl s => answerAcceptance .witness l pl s

/-- WITNESS (R146). -/
def execWitness (l : Link) (tag : Byte) (pl : List Byte) (s : State) : Host.Outcome State Fault Refusal :=
  .next (serve .witness reqWitness l tag pl s)

/-- DISPUTE as Closing and Agreement answers it (R148). -/
def reqDispute : Body := fun l pl s =>
  withParcel (formLen 1) pl s fun p =>
    let r := s.parcel p
    match r.state with
    | .awaitingAccept =>
      let cause : DisputeCause := if l = .ship then .partyShip else .partyShore
      (s.enterOutcome p r (some cause) (.request .dispute l)).answerParcel p .ok []
    | .closing => refuse s .refusedBusy
    | _ => refuse s .refusedState

/-- DISPUTE (R148). -/
def execDispute (l : Link) (tag : Byte) (pl : List Byte) (s : State) : Host.Outcome State Fault Refusal :=
  .next (serve .dispute reqDispute l tag pl s)

/-- Whether the acceptance timer of a parcel has reached its expiry (R144). -/
def Parcel.acceptDue (r : Parcel) (now : Instant) : Bool :=
  decide (r.state = .awaitingAccept) && (match r.acceptTimer with
    | some e => reached now e
    | none => false)

/-- The acceptance timer expires (R144). -/
def State.expireAcceptance (s : State) (p : ParcelNo) : State :=
  let r := s.parcel p
  if r.acceptDue s.clock then (s.enterOutcome p r (some .timeout) .acceptTimeout).transmitAll else s

/-- ACCEPT_TIMEOUT (R144). Where the timer does not run or is not yet due, nothing expires. -/
def execAcceptTimeout (p : ParcelNo) (s : State) : Host.Outcome State Fault Refusal := .next (s.expireAcceptance p)

/-! ### New revisions (R135, R149) -/

/-- A new revision called for in AWAITING_ACCEPT (R149): the acceptance timer stops, the acceptance set is emptied,
CLOSING is entered and a CLOSE job is placed. -/
def State.callRevision (s : State) (p : ParcelNo) (r : Parcel) (ev : Cause) : State :=
  (s.changeParcel p { r with state := .closing, acceptTimer := none, acceptance := AcceptSet.empty } ev).placeJob
    .close p

/-- Whether the revision limit of R149 is reached: the current revision is 3. -/
def Parcel.revisionLimit (r : Parcel) : Bool := decide (3 ≤ r.revision.getD 0)

/-- REGAUGE as Closing and Agreement answers it (R149). -/
def reqRegauge : Body := fun l pl s =>
  withParcel (formLen 1) pl s fun p =>
    let r := s.parcel p
    match r.state with
    | .awaitingAccept =>
      if r.revisionLimit then refuse s .refusedState
      else (s.callRevision p r (.request .regauge l)).answerParcel p .accepted []
    | .closing => refuse s .refusedBusy
    | _ => refuse s .refusedState

/-- REGAUGE (R149). -/
def execRegauge (l : Link) (tag : Byte) (pl : List Byte) (s : State) : Host.Outcome State Fault Refusal :=
  .next (serve .regauge reqRegauge l tag pl s)

/-- SET_LINE_ADJUST as Closing and Agreement answers it (R135): state, range, revision limit. -/
def reqSetLineAdjust : Body := fun l pl s =>
  withParcel (formLen 5) pl s fun p =>
    let r := s.parcel p
    let v := s32 pl 1
    let ranged := inRange (-1000000) 1000000 v
    match r.state with
    | .transferring =>
      if ranged then (s.setParcel p { r with lineAdjust := v }).answerParcel p .ok [] else refuse s .refusedRange
    | .suspended =>
      if ranged then (s.setParcel p { r with lineAdjust := v }).answerParcel p .ok [] else refuse s .refusedRange
    | .awaitingAccept =>
      if ranged then
        if r.revisionLimit then refuse s .refusedState
        else (s.callRevision p { r with lineAdjust := v } (.request .setLineAdjust l)).answerParcel p .accepted []
      else refuse s .refusedRange
    | .closing => refuse s .refusedBusy
    | _ => refuse s .refusedState

/-- SET_LINE_ADJUST (R135). -/
def execSetLineAdjust (l : Link) (tag : Byte) (pl : List Byte) (s : State) : Host.Outcome State Fault Refusal :=
  .next (serve .setLineAdjust reqSetLineAdjust l tag pl s)

/-! ### ABORT (R22) -/

/-- Whether ABORT is taken in a state (R22). -/
def ParcelState.abortable : ParcelState → Bool
  | .opening | .transferring | .suspended | .closing | .awaitingAccept => true
  | .free | .declared | .basisAgreed | .closed | .disputed => false

/-- A parcel aborted (R22, R108, R111, R129): its jobs are cancelled, its open set emptied, its overrun indication
cleared, its alarm state set to NORMAL, and it enters DISPUTED with cause ABORTED. -/
def State.abortParcel (s : State) (p : ParcelNo) (l : Link) : State :=
  let r := s.parcel p
  let r1 := { r.alarmNormal with openSet := PartySet.empty, overrun := false }
  ((s.cancelJobs p).enterOutcome p r1 (some .aborted) (.request .abort l)).afterAlarm r.recon.alarm

/-- ABORT as the Parcel Table answers it (R22). -/
def reqAbort : Body := fun l pl s =>
  withParcel (formLen 1) pl s fun p =>
    if (s.parcel p).state.abortable then (s.abortParcel p l).answerParcel p .ok []
    else refuse s .refusedState

/-- ABORT (R22). -/
def execAbort (l : Link) (tag : Byte) (pl : List Byte) (s : State) : Host.Outcome State Fault Refusal :=
  .next (serve .abort reqAbort l tag pl s)

end Sys2Proof.Machine
end

