-- ==== Sys2Proof/Machine/Readings.lean ====
section
/-!
DEFINITION. The Source Table's requests (03_readings_and_sources.md): TANK_READING, ATTITUDE_READING and
METER_READING, each observation examined and stored in frame order.
-/

namespace Sys2Proof.Machine

/-! ### Results and rings -/

/-- The result of one observation (R46, R198): a code other than OK alone, or OK with the indications HELD, REVERSE
and SUSPECT and, for a meter, the rate computed from it. -/
inductive ObsResult where
  | refused (code : Code)
  | tankOk (held suspect : Bool)
  | meterOk (held reverse suspect : Bool) (rate : Option Nat)
  deriving DecidableEq, Repr

/-- The bytes of an observation's result. -/
def ObsResult.bytes : ObsResult → List Byte
  | .refused c => e1 c.value
  | .tankOk h x => e1 Code.ok.value ++ eSet [h, false, x]
  | .meterOk h r x rate => e1 Code.ok.value ++ eSet [h, r, x] ++ eOpt e4 rate

/-- A ring of a depth with a new newest entry (R54): a full ring gives up its oldest. -/
def pushRing {α : Type} (depth : Nat) (ring : List α) (e : α) : List α :=
  (ring ++ [e]).drop (ring.length + 1 - depth)

/-- Whether a field is within its range or its sentinel (R46 check 4). -/
def rangeOrSentinel (lo hi sentinel v : Int) : Bool := inRange lo hi v || decide (v = sentinel)

/-- The last check of an observation (R46): the tag is 0 or names the owner. -/
def tagMatches (tag : Nat) (owner : Option ParcelNo) : Bool :=
  decide (tag = 0) || (match owner with
    | some q => decide (tag = q.val + 1)
    | none => false)

/-! ### Tank observations -/

/-- A tank observation as a frame carries it (R197). -/
structure TankObs where
  tank : Nat
  tag : Nat
  ullage : Nat
  temp : Int
  dip : Nat
  deriving DecidableEq, Repr

/-- The `n` tank observations of a payload from an offset. -/
def tankObsAt (pl : List Byte) : Nat → Nat → List TankObs
  | _, 0 => []
  | off, n + 1 => ⟨u8 pl off, u8 pl (off + 1), u16 pl (off + 2), s16 pl (off + 4), u16 pl (off + 6)⟩
      :: tankObsAt pl (off + 8) n

/-- Whether a tank observation holds a sentinel (R48). -/
def TankObs.hasSentinel (o : TankObs) : Bool :=
  decide (o.ullage = 65535) || decide (o.temp = -32768) || decide (o.dip = 65535)

/-- The values in force after a tank observation (R48). -/
def TankObs.reading (o : TankObs) (latest : Option TankReading) (now : Instant) : TankReading where
  ullage := if o.ullage = 65535 then latest.bind (·.ullage) else some o.ullage
  temp := if o.temp = -32768 then latest.bind (·.temp) else some o.temp
  dip := if o.dip = 65535 then (latest.map (·.dip)).getD 0 else o.dip
  arrival := now

/-- A tank channel with an accepted observation stored (R47 to R49, R54). -/
def TankSource.store (t : TankSource) (o : TankObs) (now : Instant) : TankSource :=
  let r := o.reading t.latest now
  let held := o.hasSentinel
  let count := nextHeldCount held t.heldCount
  { t with
    latest := some r
    held := held
    heldCount := count
    suspect := tankSuspect count r
    ring := if t.owner.isSome then pushRing t.depth t.ring ⟨r, held⟩ else t.ring }

/-- The check of R46 that refuses a tank observation, given the tanks named before it in the frame. -/
def State.tankObsFault (s : State) (seen : List Nat) (o : TankObs) : Option Code :=
  if !inRange 1 16 o.tank then some .refusedRange
  else if seen.contains o.tank then some .refusedFormat
  else if 4 < o.tag then some .refusedRange
  else if !(rangeOrSentinel 0 40000 65535 o.ullage && rangeOrSentinel (-4000) 15000 (-32768) o.temp
      && rangeOrSentinel 0 2000 65535 o.dip) then some .refusedRange
  else if !tagMatches o.tag (s.tank o.tank).owner then some .tagMismatch
  else none

/-- One tank observation examined and stored (R46, R47). -/
def State.takeTankObs (s : State) (seen : List Nat) (o : TankObs) : State × ObsResult :=
  match s.tankObsFault seen o with
  | some c => (s, .refused c)
  | none =>
    let t := (s.tank o.tank).store o s.clock
    (s.setTank o.tank t, .tankOk t.held t.suspect)

/-- The tank observations of a frame in order (R45). -/
def State.takeTankFrame : List TankObs → List Nat → State → State × List ObsResult
  | [], _, s => (s, [])
  | o :: rest, seen, s =>
    let one := s.takeTankObs seen o
    let more := State.takeTankFrame rest (o.tank :: seen) one.1
    (more.1, one.2 :: more.2)

/-- The form of a counted reading request (R45). -/
def countedForm (most size : Nat) (pl : List Byte) : Bool :=
  inRange 1 most (u8 pl 0) && decide (pl.length = 1 + size * u8 pl 0)

/-- TANK_READING as the Source Table answers it (R45). -/
def reqTankReading : Body := fun _ pl s =>
  if s.store.startingUp then refuse s .refusedBusy
  else if countedForm 16 8 pl then
    let out := State.takeTankFrame (tankObsAt pl 1 (u8 pl 0)) [] s
    (out.1, Reply.withFields .ok (eList ObsResult.bytes out.2))
  else refuse s .refusedFormat

/-- TANK_READING (R45). -/
def execTankReading (l : Link) (tag : Byte) (pl : List Byte) (s : State) : Host.Outcome State Fault Refusal :=
  .next (serve .tankReading reqTankReading l tag pl s)

/-! ### Attitude -/

/-- ATT with an accepted observation (R51). -/
def AttSource.store (a : AttSource) (r : AttReading) : AttSource := ⟨some r, pushRing 2 a.ring r⟩

/-- ATTITUDE_READING as the Source Table answers it (R45, R51). DESIGN CHOICE (assumption 7): its one result stands in a list
of one, led by a count byte, although the request has no count (R197). -/
def reqAttitudeReading : Body := fun _ pl s =>
  if s.store.startingUp then refuse s .refusedBusy
  else if formLen 4 pl then
    if inRange (-5000) 5000 (s16 pl 0) && inRange (-500) 500 (s16 pl 2) then
      ({ s with att := s.att.store ⟨s16 pl 0, s16 pl 2, s.clock⟩ },
        Reply.withFields .ok (eList ObsResult.bytes [.tankOk false false]))
    else (s, Reply.withFields .ok (eList ObsResult.bytes [.refused .refusedRange]))
  else refuse s .refusedFormat

/-- ATTITUDE_READING (R45, R51). -/
def execAttitudeReading (l : Link) (tag : Byte) (pl : List Byte) (s : State) : Host.Outcome State Fault Refusal :=
  .next (serve .attitudeReading reqAttitudeReading l tag pl s)

/-! ### Meter observations -/

/-- A meter observation as a frame carries it (R197). -/
structure MeterObs where
  meter : Nat
  tag : Nat
  total : Nat
  temp : Int
  pressure : Nat
  deriving DecidableEq, Repr

/-- The `n` meter observations of a payload from an offset. -/
def meterObsAt (pl : List Byte) : Nat → Nat → List MeterObs
  | _, 0 => []
  | off, n + 1 => ⟨u8 pl off, u8 pl (off + 1), u32 pl (off + 2), s16 pl (off + 6), u16 pl (off + 8)⟩
      :: meterObsAt pl (off + 10) n

/-- The total a meter observation gives; absent for the sentinel. -/
def MeterObs.givenTotal (o : MeterObs) : Option Nat := if o.total = 4294967295 then none else some o.total

/-- Whether a meter observation steps backward against the latest total (R50). A meter reassigned while it was held takes
its next total as given (assumption 18). -/
def MeterObs.backward (o : MeterObs) (m : MeterSource) : Bool :=
  decide (m.stepHold ≠ .ended) && stepsBack o.givenTotal (m.latest.bind (·.total))

/-- Whether a meter observation holds a sentinel (R48). -/
def MeterObs.hasSentinel (o : MeterObs) : Bool :=
  o.givenTotal.isNone || decide (o.temp = -32768) || decide (o.pressure = 65535)

/-- The values in force after a meter observation (R48, R50). -/
def MeterObs.reading (o : MeterObs) (m : MeterSource) (now : Instant) : MeterReading where
  total := if o.backward m || o.givenTotal.isNone then m.latest.bind (·.total) else o.givenTotal
  temp := if o.temp = -32768 then m.latest.bind (·.temp) else some o.temp
  pressure := if o.pressure = 65535 then m.latest.bind (·.pressure) else some o.pressure
  arrival := now

/-- The hold on a backward step after a meter observation (R50): a sentinel takes no step and leaves it as it is, a backward
step begins or continues it, and a total taken ends it. -/
def MeterObs.stepHold (o : MeterObs) (m : MeterSource) : StepHold :=
  if o.givenTotal.isNone then m.stepHold else if o.backward m then .holding else .none

/-- The rate over a ring (R57): absent with fewer than two entries, with no time between the oldest and the newest, or
where either has no total. -/
def ringRate (ring : List MeterEntry) : Option Nat :=
  match ring.head?, ring.getLast? with
  | some a, some b =>
    match a.reading.total, b.reading.total with
    | some x, some y =>
      let span := age b.reading.arrival a.reading.arrival
      if 2 ≤ ring.length ∧ span ≠ 0 then some (roundDiv ((totalDelta y x : Int) * 600) (span : Int)).toNat else none
    | _, _ => none
  | _, _ => none

/-- A meter run with an accepted observation stored, before its rate (R47 to R50, R54). -/
def MeterSource.store (m : MeterSource) (o : MeterObs) (now : Instant) : MeterSource :=
  let r := o.reading m now
  let reverse := o.backward m
  let held := o.hasSentinel || reverse
  let count := nextHeldCount held m.heldCount
  { m with
    latest := some r
    held := held
    reverse := reverse
    heldCount := count
    suspect := meterSuspect count r
    ring := if m.owner.isSome then pushRing m.depth m.ring ⟨r, held, reverse⟩ else m.ring
    stepHold := o.stepHold m }

/-- The rate computed from a stored observation (R57): none for a meter without an owner. -/
def MeterSource.newRate (m : MeterSource) : Option Nat := if m.owner.isSome then ringRate m.ring else none

/-- A meter run after its rate was looked for (R57): no rate computed leaves the latest rate. -/
def MeterSource.withRate (m : MeterSource) : MeterSource :=
  match m.newRate with
  | some v => { m with rate := some v }
  | none => m

/-- Whether a parcel state takes a flowing observation (R16). -/
def ParcelState.takesFlow : ParcelState → Bool
  | .transferring | .suspended | .closing | .awaitingAccept => true
  | .free | .declared | .basisAgreed | .opening | .closed | .disputed => false

/-- A flowing observation reported to a parcel (R16, R17): the last flowing instant is set and both marks rearmed. -/
def State.reportFlow (s : State) (p : ParcelNo) : State :=
  let r := s.parcel p
  if r.state.takesFlow then s.setParcel p { r.rearm with lastFlow := some s.clock } else s

/-- The owner of a meter told of a rate at or above its threshold (R58). -/
def State.flowing (s : State) (owner : Option ParcelNo) (rate : Option Nat) : State :=
  match owner, rate with
  | some p, some v => if (s.parcel p).params.flowThreshold ≤ v then s.reportFlow p else s
  | _, _ => s

/-- The check of R46 that refuses a meter observation, given the meters named before it in the frame. -/
def State.meterObsFault (s : State) (seen : List Nat) (o : MeterObs) : Option Code :=
  if !inRange 1 8 o.meter then some .refusedRange
  else if seen.contains o.meter then some .refusedFormat
  else if 4 < o.tag then some .refusedRange
  else if !(rangeOrSentinel 0 999999999 4294967295 o.total && rangeOrSentinel (-4000) 15000 (-32768) o.temp
      && rangeOrSentinel 0 2500 65535 o.pressure) then some .refusedRange
  else if !tagMatches o.tag (s.meter o.meter).owner then some .tagMismatch
  else none

/-- One meter observation examined and stored (R46, R47). -/
def State.takeMeterObs (s : State) (seen : List Nat) (o : MeterObs) : State × ObsResult :=
  match s.meterObsFault seen o with
  | some c => (s, .refused c)
  | none =>
    let m := (s.meter o.meter).store o s.clock
    ((s.setMeter o.meter m.withRate).flowing m.owner m.newRate, .meterOk m.held m.reverse m.suspect m.newRate)

/-- The meter observations of a frame in order (R45). -/
def State.takeMeterFrame : List MeterObs → List Nat → State → State × List ObsResult
  | [], _, s => (s, [])
  | o :: rest, seen, s =>
    let one := s.takeMeterObs seen o
    let more := State.takeMeterFrame rest (o.meter :: seen) one.1
    (more.1, one.2 :: more.2)

/-- METER_READING as the Source Table answers it (R45). -/
def reqMeterReading : Body := fun _ pl s =>
  if s.store.startingUp then refuse s .refusedBusy
  else if countedForm 8 10 pl then
    let out := State.takeMeterFrame (meterObsAt pl 1 (u8 pl 0)) [] s
    (out.1, Reply.withFields .ok (eList ObsResult.bytes out.2))
  else refuse s .refusedFormat

/-- METER_READING (R45). -/
def execMeterReading (l : Link) (tag : Byte) (pl : List Byte) (s : State) : Host.Outcome State Fault Refusal :=
  .next (serve .meterReading reqMeterReading l tag pl s)

end Sys2Proof.Machine
end

