-- ==== Sys2Proof/Machine/Store.lean ====
section
/-!
DEFINITION. The Table Store (10_table_store.md): staging and commit, locks, the clear of a history, the write unit, and
verification; with the commands TABLE_BEGIN, TABLE_DATA, TABLE_COMMIT, LOCK_TABLE, UNLOCK_TABLE, CLEAR_HISTORY,
VERIFY_STORE, VERIFY_PASS_START, VERIFY_COMPLETE, WRITE_START and BLOCK_WRITE_DONE.
-/

namespace Sys2Proof.Machine

/-! ### Staging (R177, R178) -/

/-- The checks every store request shares: the store verifying, then the form (R186, R195). -/
def withStore (form : Bool) (s : State) (k : State × Reply) : State × Reply :=
  if s.store.verifying then refuse s .refusedBusy else if form then k else refuse s .refusedFormat

/-- Replace the staging buffer of a link. -/
def State.setStaging (s : State) (l : Link) (x : Option Staging) : State :=
  s.setLink l { s.link l with staging := x }

/-- TABLE_BEGIN as the Table Store answers it (R177). -/
def reqTableBegin : Body := fun l pl s =>
  withStore (formLen 3 pl) s <|
    let n := u16 pl 1
    if inRange 1 34 (u8 pl 0) && inRange 2 4096 n && decide (n % 2 = 0) then
      (s.setStaging l (some ⟨u8 pl 0, n, List.replicate n 0⟩), Reply.plain .ok)
    else refuse s .refusedRange

/-- TABLE_BEGIN (R177). -/
def execTableBegin (l : Link) (tag : Byte) (pl : List Byte) (s : State) : Host.Outcome State Fault Refusal :=
  .next (serve .tableBegin reqTableBegin l tag pl s)

/-- Bytes placed at an offset (R178). -/
def placeBytes (bytes : List Byte) (off : Nat) (run : List Byte) : List Byte :=
  bytes.take off ++ run ++ bytes.drop (off + run.length)

/-- TABLE_DATA as the Table Store answers it (R178). -/
def reqTableData : Body := fun l pl s =>
  withStore (decide (3 ≤ pl.length) && decide (pl.length = 3 + u8 pl 2)) s <|
    match (s.link l).staging with
    | none => refuse s .refusedState
    | some g =>
      let run := pl.drop 3
      if inRange 1 240 run.length && decide (u16 pl 0 + run.length ≤ g.length) then
        (s.setStaging l (some { g with bytes := placeBytes g.bytes (u16 pl 0) run }), Reply.plain .ok)
      else refuse s .refusedRange

/-- TABLE_DATA (R178). -/
def execTableData (l : Link) (tag : Byte) (pl : List Byte) (s : State) : Host.Outcome State Fault Refusal :=
  .next (serve .tableData reqTableData l tag pl s)

/-! ### Commit (R179 to R181) -/

/-- Whether a parcel holds an expansion table in use by its offers or its basis (R180). -/
def Parcel.namesTable (r : Parcel) (k : Nat) : Bool :=
  !decide (r.state = .free)
    && (decide ((r.shipOffer.bind (·.common.tableId)) = some k)
      || decide ((r.shoreOffer.bind (·.common.tableId)) = some k)
      || decide ((r.basis.bind (·.tableId)) = some k))

/-- Whether a parcel holds the history of a direction in use (R168). -/
def Parcel.holdsHistory (r : Parcel) (d : Direction) : Bool :=
  decide ((r.decl.map (·.direction)) = some d) &&
  match r.state with
  | .opening | .transferring | .suspended | .closing | .awaitingAccept => true
  | .free | .declared | .basisAgreed | .closed | .disputed => false

/-- Whether an item is in use (R180). -/
def State.inUse (s : State) (id : Nat) : Bool :=
  if id ≤ 16 then (s.tank id).owner.isSome
  else if id ≤ 24 then (s.meter (id - 16)).owner.isSome
  else if id ≤ 32 then allParcels.any (fun p => (s.parcel p).namesTable (id - 24))
  else match historyDirection id with
    | some d => allParcels.any (fun p => (s.parcel p).holdsHistory d)
    | none => false

/-- Whether the queue has no room for another link commit (R179 check 9). -/
def Store.commitsFull (st : Store) : Bool := decide (4 ≤ st.commitCount)

/-- Whether an item is WRITING (R173). -/
def Store.isWriting (st : Store) (id : Nat) : Bool := decide (st.reported id = .writing)

/-- The check of R179 from the third on that refuses a commit of a staged image, with its detail (R198): the item id
for checks 3 to 6, the offset of the first field at fault for check 8. -/
def State.commitFault (s : State) (l : Link) (g : Staging) (check : Word16) : Option Reply :=
  let item := eList e1 [g.item]
  if !mayWriteItem g.item l then some (Reply.withFields .refusedRights item)
  else if (s.store.item g.item).lock then some (Reply.withFields .refusedLocked item)
  else if s.inUse g.item then some (Reply.withFields .refusedState item)
  else if s.store.isWriting g.item then some (Reply.withFields .refusedBusy item)
  else if wordSum g.bytes + check ≠ 0xFFFF then some (Reply.plain .checkMismatch)
  else match imageFault g.item g.bytes with
    | some off => some (Reply.withFields .refusedFormat (e2 off))
    | none => if s.store.commitsFull then some (Reply.plain .refusedBusy) else none

/-- A link commit placed in the write queue, its item's write indication set (R181). -/
def State.placeCommit (s : State) (item : Nat) (l : Link) (clear : Bool) (image : List Byte) (check : Word16) : State :=
  let st := s.store.setItem item { s.store.item item with commitPending := true }
  s.setStore (st.enqueue (.commit item l clear image check))

/-- TABLE_COMMIT as the Table Store answers it (R179, R181). -/
def reqTableCommit : Body := fun l pl s =>
  withStore (formLen 2 pl) s <|
    match (s.link l).staging with
    | none => refuse s .refusedState
    | some g =>
      let check := BitVec.ofNat 16 (u16 pl 0)
      match s.commitFault l g check with
      | some reply => (if reply.code = .refusedBusy then s else s.setStaging l none, reply)
      | none => ((s.setStaging l none).placeCommit g.item l false g.bytes check, Reply.plain .accepted)

/-- TABLE_COMMIT (R179). -/
def execTableCommit (l : Link) (tag : Byte) (pl : List Byte) (s : State) : Host.Outcome State Fault Refusal :=
  .next (serve .tableCommit reqTableCommit l tag pl s)

/-! ### Locks and clear (R170, R176) -/

/-- LOCK_TABLE and UNLOCK_TABLE (R176). -/
def answerLock (b : Bool) (pl : List Byte) (s : State) : State × Reply :=
  withStore (formLen 1 pl) s <|
    let id := u8 pl 0
    if inRange 1 34 id then
      (s.setStore (s.store.setItem id { s.store.item id with lock := b }), Reply.plain .ok)
    else refuse s .refusedRange

/-- LOCK_TABLE as the Table Store answers it (R176). -/
def reqLockTable : Body := fun _ pl s => answerLock true pl s

/-- LOCK_TABLE (R176). -/
def execLockTable (l : Link) (tag : Byte) (pl : List Byte) (s : State) : Host.Outcome State Fault Refusal :=
  .next (serve .lockTable reqLockTable l tag pl s)

/-- UNLOCK_TABLE as the Table Store answers it (R176). -/
def reqUnlockTable : Body := fun _ pl s => answerLock false pl s

/-- UNLOCK_TABLE (R176). -/
def execUnlockTable (l : Link) (tag : Byte) (pl : List Byte) (s : State) : Host.Outcome State Fault Refusal :=
  .next (serve .unlockTable reqUnlockTable l tag pl s)

/-- The image of an empty history (R181). -/
def emptyHistory : List Byte := [0, 0]

/-- CLEAR_HISTORY as the Table Store answers it (R170). -/
def reqClearHistory : Body := fun _ pl s =>
  withStore (formLen 1 pl) s <|
    match directionOf (u8 pl 0) with
    | none => refuse s .refusedRange
    | some d =>
      let id := historyId d
      if (s.store.item id).lock then refuse s .refusedLocked
      else if s.inUse id then refuse s .refusedState
      else if s.store.isWriting id || s.store.commitsFull then refuse s .refusedBusy
      else (s.placeCommit id .ship true emptyHistory (checkOf (wordSum emptyHistory)), Reply.plain .accepted)

/-- CLEAR_HISTORY (R170). -/
def execClearHistory (l : Link) (tag : Byte) (pl : List Byte) (s : State) : Host.Outcome State Fault Refusal :=
  .next (serve .clearHistory reqClearHistory l tag pl s)

/-! ### The write unit: beginning a write (R183, R184) -/

/-- Replace what the write unit is making. -/
def State.setWriter (s : State) (w : Option ActiveWrite) : State := s.setStore { s.store with writer := w }

/-- A stored status put on an item. -/
def State.markItem (s : State) (id : Nat) (x : Status) : State :=
  s.setStore (s.store.setItem id { s.store.item id with status := x })

/-- A stored status put on a checkpoint item. -/
def State.markCheckpoint (s : State) (p : ParcelNo) (x : Status) : State :=
  s.setStore (s.store.setCheckpoint p { s.store.checkpoint p with status := x })

/-- The write unit at the first block of a write of an entry. -/
def ActiveWrite.begin (e : QueueEntry) (k : WriteKind) (blocks : Nat) : ActiveWrite where
  entry := e
  kind := k
  block := 1
  blocks := blocks
  paused := false
  image := []
  check := 0
  origins := []
  wordSum := 0
  recordStored := false
  historyStored := false
  appended := false

/-- The origins an imported history takes (R169). -/
def importedOrigins (item : Nat) (image : List Byte) : List Origin :=
  if (historyDirection item).isSome then (historyOf image).map (fun _ => Origin.imported) else []

/-- A record slot taken for a record (R156, R184): the oldest of eight is removed as the write begins, and the slot
holds it INVALID and being written, as the newest. -/
def takeSlot (records : List StoredRecord) (record : TransferRecord) (sum : Word16) : List StoredRecord :=
  records.drop (records.length - 7) ++ [⟨.invalid, true, record, sum, checkOf sum⟩]

/-- The write unit takes the oldest entry and begins its first write (R183, R189): the item's stored status becomes INVALID at
the start of the write, although R181 says it stays as before until the end (assumption 23); its image and check word stay.
The length and word sum of a record or checkpoint image are free values (assumption 1). -/
def State.beginEntry (s : State) (e : QueueEntry) : State :=
  match e with
  | .commit item _ _ image check =>
    (s.markItem item .invalid).setWriter (some
      { ActiveWrite.begin e .commit (blocksOf image.length) with
        image := image, check := check, origins := importedOrigins item image })
  | .checkpoint p _ =>
    { (s.markCheckpoint p .invalid).setWriter (some
        { ActiveWrite.begin e .checkpoint (freeBlocks s.freeDraws 16) with
          wordSum := Config.imageWordSum s.freeDraws }) with
      freeDraws := s.freeDraws + 1 }
  | .finalize _ record =>
    let sum := Config.imageWordSum s.freeDraws
    { (s.setStore { s.store with records := takeSlot s.store.records record sum }).setWriter (some
        { ActiveWrite.begin e .record (freeBlocks s.freeDraws 12) with wordSum := sum }) with
      freeDraws := s.freeDraws + 1 }

/-- The write unit idle, with no verification, takes the oldest entry of the queue (R183). -/
def State.startWrite (s : State) : State :=
  match s.store.verify, s.store.writer, s.store.queue with
  | .idle, none, e :: rest => (s.setStore { s.store with queue := rest }).beginEntry e
  | _, _, _ => s

/-- WRITE_START (R183). Where the write unit is at work, the queue is empty or a verification runs or waits, no entry
is taken. -/
def execWriteStart (s : State) : Host.Outcome State Fault Refusal := .next s.startWrite

/-! ### The write unit: the end of a write (R183, R184) -/

/-- A finalize begins its third write: the clear of the parcel's checkpoint item (R154), whose stored status is INVALID until
it ends (R183, R189; assumption 19). -/
def State.beginClear (s : State) (p : ParcelNo) (w : ActiveWrite) : State :=
  (s.markCheckpoint p .invalid).setWriter (some
    { w with kind := .clearCheckpoint, block := 1, blocks := 1, paused := false })

/-- A finalize's history step (R154, R165, R166): a write of the changed history where the parcel qualifies, and
otherwise none, its ending STORED. -/
def State.beginHistory (s : State) (p : ParcelNo) (record : TransferRecord) (w : ActiveWrite) : State :=
  match voyageEntry record with
  | some e =>
    let id := historyId ((record.decl.map (·.direction)).getD .load)
    let item := s.store.item id
    let image := historyImage (appendedEntries item e)
    (s.markItem id .invalid).setWriter (some
      { w with
        kind := .history
        block := 1
        blocks := blocksOf image.length
        paused := false
        image := image
        check := checkOf (wordSum image)
        origins := appendedOrigins item
        appended := true })
  | none => s.beginClear p { w with historyStored := true, appended := false }

/-- A finalize completes (R154): finalize pending returns to no and OUTCOME_STORED is posted. -/
def State.finishFinalize (s : State) (p : ParcelNo) (record : TransferRecord) (w : ActiveWrite)
    (cleared : Bool) : State :=
  ((s.setParcel p { s.parcel p with finalizePending := false }).setWriter none).postAll
    (.outcomeStored p record.seq record.cause w.appended w.recordStored w.historyStored cleared)

/-- The newest record slot as its write leaves it (R184). -/
def settleRecord (records : List StoredRecord) (good : Bool) : List StoredRecord :=
  records.map (fun r => if r.writing then { r with writing := false, status := if good then .valid else .invalid }
    else r)

/-- The next write of a finalize after the kind just ended (R154). -/
def State.nextFinalizeWrite (s : State) (p : ParcelNo) (record : TransferRecord) (w : ActiveWrite) : State :=
  match w.kind with
  | .record => s.beginHistory p record w
  | .history => s.beginClear p w
  | .commit | .checkpoint | .clearCheckpoint => s.setWriter none

/-- A finalize goes on to its next write, or waits with it while a verification waits (R187). -/
def State.continueFinalize (s : State) (p : ParcelNo) (record : TransferRecord) (w : ActiveWrite) : State :=
  match s.store.verify with
  | .idle => s.nextFinalizeWrite p record w
  | _ => s.setWriter (some { w with paused := true })

/-- The notice of a link commit's ending, to the committing link and the survey link, once when they are the same
(R184). -/
def State.postResult (s : State) (l : Link) (b : NoticeBody) : State :=
  if l = .survey then s.postTo .survey b else (s.postTo l b).postTo .survey b

/-- The item a commit or append wrote, as its write leaves it (R183): the new content where it ended well. -/
def State.settleItem (s : State) (id : Nat) (x : Status) (w : ActiveWrite) (pending : Bool) : State :=
  let i := s.store.item id
  let content := if x = .invalid then i else { i with image := w.image, check := w.check, origins := w.origins }
  s.setStore (s.store.setItem id { content with status := x, commitPending := pending })

/-- A write ends well or with WRITE_FAULT (R183), and its ending goes to its owner (R25, R184). A faulted write leaves the
content from before, and a cleared checkpoint item holds no content, word sum 0 and check word 0: the model's choices
(assumption 13). -/
def State.endWrite (s : State) (w : ActiveWrite) (good : Bool) : State :=
  match w.entry, w.kind with
  | .commit item l clear image check, _ =>
    let x : Status := if good then (if clear then .empty else .valid) else .invalid
    let ending : CommitEnding := if good then (if clear then .empty else .valid) else .writeFault w.block
    (((s.settleItem item x w false).setWriter none).computeVefOf item).postResult l
      (.tableResult item l ending image.length check)
  | .checkpoint p copy, _ =>
    let s1 := s.setWriter none
    if good then
      (s1.setStore (s1.store.setCheckpoint p ⟨.valid, some copy, w.wordSum, checkOf w.wordSum⟩)).setRestoreLost p false
    else s1
  | .finalize p record, .record =>
    (s.setStore { s.store with records := settleRecord s.store.records good }).continueFinalize p record
      { w with recordStored := good }
  | .finalize p record, .history =>
    let d := (record.decl.map (·.direction)).getD .load
    let id := historyId d
    let s1 := s.settleItem id (if good then .valid else .invalid) w (s.store.item id).commitPending
    (s1.computeVef d).continueFinalize p record { w with historyStored := good }
  | .finalize p record, _ =>
    let s1 := if good then s.setStore (s.store.setCheckpoint p CheckpointItem.delivered) else s
    s1.finishFinalize p record w good

/-- A block has been written and read back (R183): a block that does not compare equal ends the write with
WRITE_FAULT; the last equal block ends it well. The blocks become the item's image and check word when the write ends well;
until it ends these are as before (R181), for an append and a checkpoint as for a commit (assumption 13). -/
def State.blockDone (s : State) (equal : Bool) : State :=
  match s.store.writer with
  | some w =>
    if w.paused then s
    else if equal then
      if w.block < w.blocks then s.setWriter (some { w with block := w.block + 1 })
      else (s.endWrite w true).transmitAll
    else (s.endWrite w false).transmitAll
  | none => s

/-- BLOCK_WRITE_DONE (R183). Where the write unit writes no block, none is done. -/
def execBlockWriteDone (equal : Bool) (s : State) : Host.Outcome State Fault Refusal := .next (s.blockDone equal)

/-! ### Verification (R186, R187) -/

/-- Replace the verification phase. -/
def State.setVerify (s : State) (v : VerifyPhase) : State := s.setStore { s.store with verify := v }

/-- VERIFY_STORE as the Table Store answers it (R187). -/
def reqVerifyStore : Body := fun _ pl s =>
  withStore (formLen 0 pl) s (s.setVerify .waiting, Reply.plain .accepted)

/-- VERIFY_STORE (R187). -/
def execVerifyStore (l : Link) (tag : Byte) (pl : List Byte) (s : State) : Host.Outcome State Fault Refusal :=
  .next (serve .verifyStore reqVerifyStore l tag pl s)

/-- Whether no write is being made: the unit idle, or between the writes of a finalize that waits (R187). -/
def Store.writerQuiet (st : Store) : Bool :=
  match st.writer with
  | none => true
  | some w => w.paused

/-- A waiting verification begins its pass once no write is being made (R187). -/
def State.startPass (s : State) : State :=
  match s.store.verify with
  | .waiting => if s.store.writerQuiet then s.setVerify (.running s.msec) else s
  | _ => s

/-- VERIFY_PASS_START (R187). Where no verification waits, or a write is in progress, no pass starts. -/
def execVerifyPassStart (s : State) : Host.Outcome State Fault Refusal := .next s.startPass

/-- An item after the pass (R186): a VALID one that fails its check becomes INVALID. -/
def Item.verified (i : Item) : Item :=
  if i.status = .valid ∧ i.passes = false then { i with status := .invalid } else i

/-- A checkpoint item after the pass (R186). -/
def CheckpointItem.verified (c : CheckpointItem) : CheckpointItem :=
  if c.status = .valid ∧ c.passes = false then { c with status := .invalid } else c

/-- The pass over the store (R186): items and checkpoints that fail become INVALID, records that fail and records
already INVALID are dropped. -/
def Store.pass (st : Store) : Store :=
  { st with
    items := st.items.map Item.verified
    records := st.records.filter (·.passes)
    checkpoints := st.checkpoints.map CheckpointItem.verified }

/-- The item ids a pass makes INVALID. -/
def Store.itemsFailing (st : Store) : List Nat :=
  itemIds.filter (fun id => decide ((st.item id).status = .valid) && !(st.item id).passes)

/-- The sequence numbers of the records a pass drops. -/
def Store.recordsFailing (st : Store) : List Nat := (st.records.filter (fun r => !r.passes)).map (·.record.seq)

/-- A checkpoint dropped (R29, R187): its item EMPTY, with no content, word sum 0 and check word 0 by the model's choice
(assumption 13), and RESTORE_LOST set for its parcel number. -/
def State.dropCheckpoint (s : State) (p : ParcelNo) : State :=
  (s.setStore (s.store.setCheckpoint p CheckpointItem.delivered)).setRestoreLost p true

/-- The parcel numbers whose checkpoint items are INVALID. -/
def Store.invalidCheckpoints (st : Store) : List ParcelNo :=
  allParcels.filter (fun p => decide ((st.checkpoint p).status = .invalid))

/-- The direction of an INVALID history is computed again (R161). -/
def State.computeIfInvalid (s : State) (d : Direction) : State :=
  if (s.store.item (historyId d)).status = .invalid then s.computeVef d else s

/-- The remaining writes of a finalize that waited go on (R187). -/
def State.resumeWriter (s : State) : State :=
  match s.store.writer with
  | some w =>
    match w.paused, w.entry with
    | true, .finalize p record => s.nextFinalizeWrite p record w
    | _, _ => s
  | none => s

/-- A VERIFY_STORE completes (R187): the pass, the drop of INVALID checkpoints, the factor of an INVALID history, and
TABLE_RESULT VERIFIED to the survey link; the store is IDLE again. -/
def State.completeVerify (s : State) : State :=
  match s.store.verify with
  | .running _ =>
    let s1 := s.setStore s.store.pass
    let lost := s1.store.invalidCheckpoints
    let s2 := lost.foldl (fun acc p => acc.dropCheckpoint p) s1
    let s3 := (s2.computeIfInvalid .load).computeIfInvalid .discharge
    let s4 := s3.postTo .survey (.verified s.store.itemsFailing s.store.recordsFailing lost)
    (s4.setVerify .idle).resumeWriter.transmitAll
  | _ => s

/-- VERIFY_COMPLETE (R187). Where no pass of a VERIFY_STORE runs, none completes. -/
def execVerifyComplete (s : State) : Host.Outcome State Fault Refusal := .next s.completeVerify

end Sys2Proof.Machine
end

