-- ==== Sys2Proof/Machine/Reads.lean ====
section
/-!
DEFINITION. What the links read (R1, R60, R133, R157, R158, R172, R185, R200, R203): READ_PARCEL, READ_TABLE and
READ_RECORD with their pages, STATUS, SILENCE_ALARM and SET_CALENDAR. Where a rule says what a reply holds and no rule
gives its order, the order is that of assumption 7.
-/

namespace Sys2Proof.Machine

/-! ### Pages (R200) -/

/-- The bytes of a page of a reply. -/
def pageBytes (bytes : List Byte) (page : Nat) : List Byte := (bytes.drop (240 * page)).take 240

/-- The response that carries a page of a read buffer. -/
def ReadBuffer.pageReply (b : ReadBuffer) (page : Nat) : Reply :=
  ⟨.ok, false, b.truncated, e1 page ++ e1 b.pages ++ pageBytes b.bytes page⟩

/-- The read buffer a whole reply fills: its first 8,400 bytes. -/
def bufferOf (kind : ReadKind) (target : Nat) (reply : List Byte) : ReadBuffer where
  kind := kind
  target := target
  pages := max 1 (((reply.take 8400).length + 239) / 240)
  truncated := decide (8400 < reply.length)
  bytes := reply.take 8400

/-- A page request that passed the checks of its read's own rule (R200): page 0 fills the link's read buffer, a later
page is served from it. -/
def State.servePage (s : State) (l : Link) (kind : ReadKind) (target page : Nat) (reply : List Byte) : State × Reply :=
  if 34 < page then refuse s .refusedRange
  else if page = 0 then
    let b := bufferOf kind target reply
    (s.setLink l { s.link l with readBuffer := some b }, b.pageReply 0)
  else match (s.link l).readBuffer with
    | some b =>
      if b.kind = kind ∧ b.target = target then
        if page < b.pages then (s, b.pageReply page) else refuse s .refusedRange
      else refuse s .refusedState
    | none => refuse s .refusedState

/-! ### READ_PARCEL (R1, R25, R38, R60, R100, R133, R158) -/

/-- An offer as a link sees it (R38): absent 0, shown 1 with its content, present but not shown 2. -/
def eOfferShown {α : Type} (f : α → List Byte) (visible : Bool) : Option α → List Byte
  | none => [0]
  | some o => if visible then 1 :: f o else [2]

/-- Whether a link sees the content of the ship offer (R38). -/
def Parcel.showsShip (r : Parcel) (l : Link) : Bool := r.basis.isSome || decide (l ≠ .shore)

/-- Whether a link sees the content of the shore offer (R38). -/
def Parcel.showsShore (r : Parcel) (l : Link) : Bool := r.basis.isSome || decide (l ≠ .ship)

/-- A declaration as table 1.1 lists it: direction, label, witnessed, declaring link. -/
def eDeclaration (d : Declaration) : List Byte :=
  eDirection d.direction ++ eText d.label ++ eBool d.witnessed ++ eLink d.declaring

/-- The declaration of a transfer record as the table of section 8.6 lists it: grade label, direction, witnessed. -/
def eRecordDeclaration (d : Declaration) : List Byte := eText d.label ++ eDirection d.direction ++ eBool d.witnessed

/-- Opening figures (R41, R66, R80, R95). DESIGN CHOICE (assumption 7): their order, S0 and the opening calendar time first,
although table 1.1 names the per-tank and per-meter values before S0; the masses of the tanks and of their total stand last
(R82; assumption 21). -/
def eOpening (o : OpeningFigures) : List Byte :=
  eTime o.s0 ++ eOpt eTime o.calendar ++ eList eTankFigure o.tanks ++ eTotals o.totals ++ eList eMeterFigure o.meters
    ++ eList i4 o.tankMasses ++ i4 o.massGsv

/-- The running state of a meter: latched d, last aligned total, accumulator (R96), led by its number (assumption 7). -/
def eMeterRun (m : MeterRun) : List Byte := e1 m.meter ++ i2 m.d ++ eOpt e4 m.lastAligned ++ i8 m.acc

/-- A latest cycle, in the order of R118, followed by the masses of the tanks and of their total (R82; assumption 21). -/
def eLatestCycle (c : LatestCycle) : List Byte :=
  e2 c.cycle.toNat ++ eTime c.snapshot ++ i4 c.ship ++ i4 c.shore ++ i4 c.delta ++ i4 c.q ++ eOpt i4 c.band
    ++ eOpt i4 c.half ++ e1 c.grade ++ eOutcome c.outcome ++ eCauses c.causes ++ eList eTankFigure c.tanks
    ++ eList eMeterFigure c.meters ++ eTotals c.totals ++ eList i4 c.meterVolumes ++ i4 c.massShip ++ i4 c.massShore
    ++ eList i4 c.tankMasses ++ i4 c.massGsv

/-- The reconciliation fields of R133. -/
def eRecon (r : Parcel) : List Byte :=
  e1 r.recon.grade ++ e1 r.recon.indeterminate ++ eDownFlags r.recon.downFrom1 r.recon.downFrom2 ++ e1 r.lowestGrade
    ++ eAlarm r.recon.alarm ++ e1 r.recon.divergent ++ e1 r.recon.clear ++ e1 r.alarmsRaised
    ++ eOpt eLatestCycle r.recon.latest

/-- Closing figures (R137 to R141), in the order of R141: the tank and meter records, then the totals and the standard
volumes. -/
def eClosing (f : ClosingFigures) : List Byte :=
  e1 f.revision ++ eTime f.snapshot ++ eList eTankFigure f.tanks ++ eList eMeterFigure f.meters ++ eTotals f.totals
    ++ eList i4 f.meterVolumes ++ i4 f.ship ++ i4 f.lineAdjust ++ i4 f.shore ++ i4 f.delta ++ eVef f.vef
    ++ eOpt i4 f.adjShip ++ eOpt i4 f.adjDelta ++ eList i4 f.tankMasses ++ i4 f.massGsv ++ i4 f.massShip
    ++ i4 f.massShore ++ eOpt i4 f.massAdj ++ i4 f.massDelta ++ eOpt i4 f.massAdjDelta ++ i4 f.band
    ++ eJudgement f.within ++ eCauses f.conditions

/-- A figures source: REVISION, RUNNING, NONE. -/
def eFigureSource : FigureSource → List Byte
  | .revision => [1]
  | .running => [2]
  | .none => [3]

/-- A tank entry of a transfer record. -/
def eRecordTank (t : RecordTank) : List Byte :=
  e1 t.tank ++ eOpt i4 t.openGsv ++ eOpt i4 t.closeGsv ++ eWideSet t.flags.toList

/-- A meter entry of a transfer record. -/
def eRecordMeter (m : RecordMeter) : List Byte := e1 m.meter ++ eOpt i4 m.volume ++ eWideSet m.flags.toList

/-- A transfer record, in the order of the table of section 8.6. A record is built of a parcel that is not FREE and so
always holds a declaration (R3, R153). -/
def eRecord (r : TransferRecord) : List Byte :=
  e2 r.seq ++ eParcel r.parcel ++ eRecordDeclaration (r.decl.getD default) ++ eOutcomeCause r.cause ++ eOpt e1 r.revision
    ++ eFigureSource r.source ++ eOpt eBasis r.basis ++ eOpt eTime r.openS ++ eOpt eTime r.closeS
    ++ eOpt eTime r.openCalendar ++ eOpt eTime r.closeCalendar ++ eList eRecordTank r.tanks
    ++ eList eRecordMeter r.meters ++ eOpt i4 r.ship ++ i4 r.lineAdjust ++ eOpt i4 r.shore ++ eOpt i4 r.delta
    ++ eOpt i4 r.vef ++ eOpt i4 r.adjShip ++ eOpt i4 r.adjDelta ++ eOpt i4 r.massShip ++ eOpt i4 r.massShore
    ++ eOpt i4 r.massAdj ++ eOpt i4 r.band ++ eOpt eJudgement r.within ++ eCauses r.conditions
    ++ eAcceptSet r.acceptance ++ e1 r.alarmsRaised ++ e1 r.lowestGrade

/-- A tank reading. -/
def eTankReading (r : TankReading) : List Byte := eOpt e2 r.ullage ++ eOpt i2 r.temp ++ e2 r.dip ++ eTime r.arrival

/-- A meter reading. -/
def eMeterReading (r : MeterReading) : List Byte :=
  eOpt e4 r.total ++ eOpt i2 r.temp ++ eOpt e2 r.pressure ++ eTime r.arrival

/-- A tank source as R60 reports it, each indication a byte of its own (assumption 7). -/
def State.eTankSource (s : State) (staleness n : Nat) : List Byte :=
  let t := s.tank n
  e1 n ++ eOpt eTankReading t.latest ++ eFreshness (freshness (t.latest.map (·.arrival)) s.clock staleness)
    ++ eBool t.held ++ eBool false ++ e1 t.heldCount ++ eBool t.suspect ++ e1 t.depth
    ++ eList (fun e : TankEntry => eTankReading e.reading ++ eBool e.held ++ eBool false) t.ring

/-- A meter source as R60 reports it, each indication a byte of its own (assumption 7). -/
def State.eMeterSource (s : State) (staleness n : Nat) : List Byte :=
  let m := s.meter n
  e1 n ++ eOpt eMeterReading m.latest ++ eFreshness (freshness (m.latest.map (·.arrival)) s.clock staleness)
    ++ eBool m.held ++ eBool m.reverse ++ e1 m.heldCount ++ eBool m.suspect ++ e1 m.depth
    ++ eList (fun e : MeterEntry => eMeterReading e.reading ++ eBool e.held ++ eBool e.reverse) m.ring
    ++ eOpt e4 m.rate

/-- ATT as R60 reports it: its ring entries and its freshness. Its latest reading is the newest of them (R51). -/
def State.eAttSource (s : State) (staleness : Nat) : List Byte :=
  eList eAtt s.att.ring ++ eFreshness (freshness (s.att.latest.map (·.arrival)) s.clock staleness)

/-- The sources of a parcel, with the pool's free count (R60): a list of the tanks and a list of the meters, each entry led
by its own number (assumption 7). -/
def State.eSources (s : State) (p : ParcelNo) : List Byte :=
  let st := (s.parcel p).params.staleness
  eList (s.eTankSource st) (s.tanksOf p) ++ eList (s.eMeterSource st) (s.metersOf p)
    ++ (if (s.tanksOf p).isEmpty then [0] else 1 :: s.eAttSource st) ++ e1 s.poolFree

/-- Whether a job of a kind is WAITING 1, RUNNING 2 or absent 3 for a parcel (R100). -/
def State.eJob (s : State) (p : ParcelNo) (k : JobKind) : List Byte :=
  if s.engine.runs k p then [2] else if (s.engine.jobs p).has k then [1] else [3]

/-- What R158 adds to the fields of the table. R158 names the required set, the acceptance timer and the transfer record for
CLOSING to DISPUTED alone, and R1 shows the closing fields as their chapters lay down; that their bytes stand in the reply in
every state that is not FREE, the sets and the pending byte at their values and the others absent where the record holds
none, is the model's choice (assumption 7). -/
def eClosingState (r : Parcel) : List Byte :=
  eOpt e1 r.revision ++ eOpt eClosing r.closing ++ eAcceptSet r.required ++ eAcceptSet r.acceptance
    ++ eOpt eTime r.acceptTimer ++ i4 r.lineAdjust ++ eOpt eRecord r.record ++ eBool r.finalizePending

/-- The whole record of a parcel that is not FREE, as a link sees it. Such a record always holds a declaration (R3). -/
def State.eParcelRecord (s : State) (p : ParcelNo) (l : Link) : List Byte :=
  let r := s.parcel p
  eParcel p ++ eState r.state ++ eDeclaration (r.decl.getD default)
    ++ eList (fun n => e1 n ++ e1 (s.tank n).depth) (s.tanksOf p)
    ++ eList (fun n => e1 n ++ e1 (s.meter n).depth) (s.metersOf p)
    ++ r.params.values.flatMap e4
    ++ eOfferShown eShipOffer (r.showsShip l) r.shipOffer ++ eOfferShown eShoreOffer (r.showsShore l) r.shoreOffer
    ++ eOpt eBasis r.basis ++ ePartySet r.openSet ++ eSuspendSet r.suspendSet ++ ePartySet r.restartResume
    ++ ePartySet r.closeReservation ++ eOpt eClosedFrom r.closedFrom ++ eOpt eOpening r.opening
    ++ eOpt eTime r.flowRef ++ eOpt eTime r.lastFlow ++ eList eMeterRun r.run ++ e2 r.cycle.toNat ++ eRecon r
    ++ eClosingState r ++ eOpt eDispute r.disputeCause ++ ePartySet r.releaseSet ++ s.eSources p
    ++ s.eJob p .openJob ++ s.eJob p .cycle ++ s.eJob p .close ++ eBool r.overrun
    ++ eReported (s.store.reportedCheckpoint p)

/-- The whole READ_PARCEL reply (R1): of a FREE parcel its number, its state and its RESTORE_LOST indication, without the
status of its checkpoint item (assumption 17). -/
def State.parcelReply (s : State) (p : ParcelNo) (l : Link) : List Byte :=
  if (s.parcel p).state = .free then eParcel p ++ eState .free ++ eBool (s.restoreLost.get p)
  else s.eParcelRecord p l

/-- READ_PARCEL as the Parcel Table answers it (R1, R2, R200); taken while the store is verifying. -/
def reqReadParcel : Body := fun l pl s =>
  if formLen 2 pl then
    match parcelOf (u8 pl 0) with
    | some p => s.servePage l .parcel (u8 pl 0) (u8 pl 1) (s.parcelReply p l)
    | none => refuse s .refusedRange
  else refuse s .refusedFormat

/-- READ_PARCEL (R1). -/
def execReadParcel (l : Link) (tag : Byte) (pl : List Byte) (s : State) : Host.Outcome State Fault Refusal :=
  .next (serve .readParcel reqReadParcel l tag pl s)

/-! ### READ_TABLE (R172, R185) -/

/-- An entry origin: IMPORTED, RECORDED. -/
def eOrigin : Origin → List Byte
  | .imported => [1]
  | .recorded => [2]

/-- A voyage entry as R172 reports it: figures, origin, ratio, whether it qualified. -/
def eVoyage (x : (Int × Int) × Origin × Int × Bool) : List Byte :=
  i4 x.1.1 ++ i4 x.1.2 ++ eOrigin x.2.1 ++ i4 x.2.2.1 ++ eBool x.2.2.2

/-- What R172 reports of a history: the entries unless the item is INVALID, the counts and median, the factor or the
reason there is none, and the value out of range. -/
def eHistory (i : Item) (v : VefState) : List Byte :=
  eList eVoyage (i.entries.zip (i.origins.zip v.ratios)) ++ e1 v.count ++ eOpt i4 v.median ++ e1 v.qualifying
    ++ eVef v.result ++ eOpt i4 v.computed

/-- The whole READ_TABLE reply (R185): status and lock, for a VALID item its check word and content, and for a history
the values of R172. What a status governs follows without a presence byte (assumption 7). -/
def State.tableReply (s : State) (id : Nat) : List Byte :=
  let i := s.store.item id
  eReported (s.store.reported id) ++ eBool i.lock
    ++ (if i.status = .valid then e2 i.check.toNat ++ i.image else [])
    ++ (match (historyDirection id).bind s.vef with
      | some v => eHistory i v
      | none => [])

/-- READ_TABLE as the Table Store answers it (R185, R200). -/
def reqReadTable : Body := fun l pl s =>
  withStore (formLen 2 pl) s <|
    let id := u8 pl 0
    if inRange 1 34 id then
      if s.store.isWriting id then refuse s .refusedBusy
      else s.servePage l .table id (u8 pl 1) (s.tableReply id)
    else refuse s .refusedRange

/-- READ_TABLE (R185). -/
def execReadTable (l : Link) (tag : Byte) (pl : List Byte) (s : State) : Host.Outcome State Fault Refusal :=
  .next (serve .readTable reqReadTable l tag pl s)

/-! ### READ_RECORD (R157) -/

/-- The records the store holds, oldest to newest: not the one whose write is under way (R157). -/
def Store.heldRecords (st : Store) : List StoredRecord := st.records.filter (fun r => !r.writing)

/-- An entry of the list of records: number, parcel, outcome, status (R157), the status by its place in the list of R25
(assumption 7). -/
def eRecordEntry (r : StoredRecord) : List Byte :=
  e2 r.record.seq ++ eParcel r.record.parcel ++ e1 (if r.record.cause.isSome then 2 else 1) ++ eReported r.status.report

/-- The whole READ_RECORD reply for a sequence number, or 0 (R157): the record's fields with its status, or the list of
the records held; absent for a number not held. -/
def Store.recordReply (st : Store) (seq : Nat) : Option (List Byte) :=
  if seq = 0 then some (eList eRecordEntry st.heldRecords)
  else (st.heldRecords.find? (fun r => decide (r.record.seq = seq))).map
    (fun r => eRecord r.record ++ eReported r.status.report)

/-- READ_RECORD as Closing and Agreement answers it (R157, R200). -/
def reqReadRecord : Body := fun l pl s =>
  withStore (formLen 3 pl) s <|
    match s.store.recordReply (u16 pl 0) with
    | some reply => s.servePage l .record (u16 pl 0) (u8 pl 2) reply
    | none => refuse s .refusedRange

/-- READ_RECORD (R157). -/
def execReadRecord (l : Link) (tag : Byte) (pl : List Byte) (s : State) : Host.Outcome State Fault Refusal :=
  .next (serve .readRecord reqReadRecord l tag pl s)

/-! ### STATUS (R203) -/

/-- A reset cause: POWER_ON, RESET_LINE. -/
def eResetCause : ResetCause → List Byte
  | .powerOn => [1]
  | .resetLine => [2]

/-- The store state: VERIFYING, IDLE, WRITING (R182). -/
def eStoreState (st : Store) : List Byte := if st.verifying then [1] else if st.writer.isSome then [3] else [2]

/-- A strap setting: open 1, tied to the strap common 2, as R206 lists them (assumption 7). -/
def eStrap (tied : Bool) : List Byte := e1 (if tied then 2 else 1)

/-- A parcel in STATUS: its state, and its grade and alarm state when it is not FREE, without a presence byte
(assumption 7). -/
def eStatusParcel (r : Parcel) : List Byte :=
  eState r.state ++ (if r.state = .free then [] else e1 r.recon.grade ++ eAlarm r.recon.alarm)

/-- The alarm output: ASSERTED 1, DEASSERTED 2. -/
def eOutput (b : Bool) : List Byte := e1 (if b then 1 else 2)

/-- The silence latch: SET 1, CLEAR 2. -/
def eLatch (b : Bool) : List Byte := e1 (if b then 1 else 2)

/-- The fields of a STATUS response, in the order of R203. The presence byte of the calendar time is the indication that
the calendar is set (assumption 7). -/
def State.statusFields (s : State) (l : Link) : List Byte :=
  eResetCause s.resetCause ++ allParcels.flatMap (fun p => eBool (s.restoreLost.get p)) ++ eStoreState s.store
    ++ e1 s.store.queue.length ++ e1 s.poolFree ++ allParcels.flatMap (fun p => eStatusParcel (s.parcel p))
    ++ eLevel s.lines.esd.level ++ allParcels.flatMap (fun n => eLevel (s.lines.mv.get n).level)
    ++ eOutput s.lines.alarmOut ++ eLatch s.lines.silence ++ eStrap s.straps.esdPol ++ eStrap s.straps.baudShip
    ++ eStrap s.straps.baudShore ++ eStrap s.straps.baudSurvey ++ eTime s.clock
    ++ eOpt (fun c : Calendar => eTime (c.timeOf s.clock)) s.calendar ++ eBool (s.link l).lost

/-- STATUS (R203): the requesting link's NOTICE_LOST is reported and cleared. -/
def reqStatus : Body := fun l pl s =>
  if formLen 0 pl then
    (s.setLink l { s.link l with lost := false }, Reply.withFields .ok (s.statusFields l))
  else refuse s .refusedFormat

/-- STATUS (R203). -/
def execStatus (l : Link) (tag : Byte) (pl : List Byte) (s : State) : Host.Outcome State Fault Refusal :=
  .next (serve .status reqStatus l tag pl s)

/-! ### SILENCE_ALARM and SET_CALENDAR (R205, R210) -/

/-- The silence latch set while a parcel is in ALARM (R210). -/
def State.silenced (s : State) : State :=
  if s.anyAlarm then s.setLines { s.lines with silence := true, alarmOut := false } else s

/-- SILENCE_ALARM as the Discrete Line Unit answers it (R210). -/
def reqSilenceAlarm : Body := fun _ pl s =>
  if formLen 0 pl then
    (s.silenced, Reply.withFields .ok (eLatch s.silenced.lines.silence ++ eOutput s.silenced.lines.alarmOut))
  else refuse s .refusedFormat

/-- SILENCE_ALARM (R210). -/
def execSilenceAlarm (l : Link) (tag : Byte) (pl : List Byte) (s : State) : Host.Outcome State Fault Refusal :=
  .next (serve .silenceAlarm reqSilenceAlarm l tag pl s)

/-- SET_CALENDAR (R205), which R186 does not refuse during start-up verification (assumption 24). -/
def reqSetCalendar : Body := fun _ pl s =>
  if formLen 4 pl then
    ({ s with calendar := some ⟨BitVec.ofNat 32 (u32 pl 0), s.clock⟩ }, Reply.plain .ok)
  else refuse s .refusedFormat

/-- SET_CALENDAR (R205). -/
def execSetCalendar (l : Link) (tag : Byte) (pl : List Byte) (s : State) : Host.Outcome State Fault Refusal :=
  .next (serve .setCalendar reqSetCalendar l tag pl s)

end Sys2Proof.Machine
end

