-- ==== Sys2Proof/Machine/Links.lean ====
section
/-!
DEFINITION. The link controllers (11_links_and_messages.md): the receive framer, the examination of a frame by its
KIND, the transmitter and the break; the commands UNKNOWN_REQUEST, FRAME_DISCARD, INTER_BYTE_GAP,
RESPONSE_LIST_FULL_DISCARD, FRAME_SENT, LINK_BREAK, LINK_BREAK_END and BYTE_RECEIVED.
-/

namespace Sys2Proof.Machine

/-! ### The examination of a frame (R195, R196) -/

/-- What the owning block of each request answers (R196). -/
def Req.body : Req → Body
  | .declare => reqDeclare
  | .setParameter => reqSetParameter
  | .assignTank => reqAssignTank
  | .unassignTank => reqUnassignTank
  | .assignMeter => reqAssignMeter
  | .unassignMeter => reqUnassignMeter
  | .offerBasis => reqOfferBasis
  | .openParcel => reqOpen
  | .suspend => reqSuspend
  | .resume => reqResume
  | .close => reqClose
  | .cancelClose => reqCancelClose
  | .regauge => reqRegauge
  | .accept => reqAccept
  | .dispute => reqDispute
  | .setLineAdjust => reqSetLineAdjust
  | .witness => reqWitness
  | .abort => reqAbort
  | .restoreGrade => reqRestoreGrade
  | .release => reqRelease
  | .abandon => reqAbandon
  | .readParcel => reqReadParcel
  | .tankReading => reqTankReading
  | .attitudeReading => reqAttitudeReading
  | .meterReading => reqMeterReading
  | .tableBegin => reqTableBegin
  | .tableData => reqTableData
  | .tableCommit => reqTableCommit
  | .readTable => reqReadTable
  | .lockTable => reqLockTable
  | .unlockTable => reqUnlockTable
  | .verifyStore => reqVerifyStore
  | .clearHistory => reqClearHistory
  | .readRecord => reqReadRecord
  | .status => reqStatus
  | .silenceAlarm => reqSilenceAlarm
  | .setCalendar => reqSetCalendar

/-- A complete frame examined by its KIND (R195). -/
def answerFrame (kind : Byte) (l : Link) (pl : List Byte) (s : State) : State × Reply :=
  match reqOf kind with
  | some r => examine r r.body l pl s
  | none => refuse s .unknownRequest

/-- A complete frame whose KIND is not a request code (R195). -/
def State.takeUnknown (s : State) (l : Link) (kind tag : Byte) (_payload : List Byte) : State :=
  match reqOf kind with
  | none => s.takeFrame l tag (fun x => refuse x .unknownRequest)
  | some _ => s

/-- UNKNOWN_REQUEST (R195). A KIND that is a request code is no such frame. -/
def execUnknownRequest (l : Link) (kind tag : Byte) (pl : List Byte) (s : State) : Host.Outcome State Fault Refusal :=
  .next (s.takeUnknown l kind tag pl)

/-! ### The receive framer (R193) -/

/-- Whether a framer holds at least one byte of a frame. -/
def Framer.begun : Framer → Bool
  | .hunting saw => saw
  | .receiving _ => true

/-- Whether more than 20 ms have passed since the last byte of a frame in progress (R193). -/
def LinkState.gap (k : LinkState) (now : Nat) : Bool := k.framer.begun && decide (k.lastByte + 20 < now)

/-- What the framer makes of one more byte: its next state, and the bytes from LEN through CRC of a frame just
complete with a correct CRC (R192, R193). -/
def Framer.take (f : Framer) (b : Byte) : Framer × Option (List Byte) :=
  match f with
  | .hunting saw =>
    if saw && decide (b = 0x3A) then (.receiving [], none) else (.hunting (decide (b = 0xC5)), none)
  | .receiving bytes =>
    let got := bytes ++ [b]
    let len := u8 got 0
    if len < 2 ∨ 250 < len then (.hunting false, none)
    else if got.length < len + 3 then (.receiving got, none)
    else if (crc (got.take (len + 1))).toNat = u16 got (len + 1) then (.hunting false, some got)
    else (.hunting false, none)

/-- A byte that reaches a link's framer, after a gap examined as a possible first SYNC byte (R193). A frame it
completes is taken at once. -/
def State.takeByte (s : State) (l : Link) (b : Byte) : State :=
  let k := s.link l
  match k.condition with
  | .broken => s
  | .normal =>
    let f := if k.gap s.msec then Framer.hunting false else k.framer
    let out := f.take b
    let s1 := s.setLink l { k with framer := out.1, lastByte := s.msec }
    match out.2 with
    | none => s1
    | some got =>
      let kind := (got[1]?).getD 0
      let tag := (got[2]?).getD 0
      s1.takeFrame l tag (answerFrame kind l ((got.drop 3).take (u8 got 0 - 2)))

/-- BYTE_RECEIVED (R193). -/
def execByteReceived (l : Link) (b : Byte) (s : State) : Host.Outcome State Fault Refusal := .next (s.takeByte l b)

/-- A frame discarded for its LEN or its CRC (R193): the framer is HUNTING. Where it receives no frame, none is. -/
def State.discardFrame (s : State) (l : Link) : State :=
  match (s.link l).framer with
  | .receiving _ => s.hunt l
  | .hunting _ => s

/-- FRAME_DISCARD (R193). -/
def execFrameDiscard (l : Link) (s : State) : Host.Outcome State Fault Refusal := .next (s.discardFrame l)

/-- A frame discarded for a gap (R193). Where no frame is in progress, or 20 ms have not passed, none is. -/
def State.discardAtGap (s : State) (l : Link) : State := if (s.link l).gap s.msec then s.hunt l else s

/-- INTER_BYTE_GAP (R193). -/
def execInterByteGap (l : Link) (s : State) : Host.Outcome State Fault Refusal := .next (s.discardAtGap l)

/-- A complete frame discarded because 8 responses wait (R193). Where fewer wait, or in BREAK, none is. -/
def State.discardFull (s : State) (l : Link) : State :=
  if (s.link l).condition = .normal ∧ 8 ≤ (s.link l).responses.length then s.hunt l else s

/-- RESPONSE_LIST_FULL_DISCARD (R193). -/
def execResponseListFullDiscard (l : Link) (s : State) : Host.Outcome State Fault Refusal := .next (s.discardFull l)

/-! ### The transmitter (R199) and the break (R194) -/

/-- A transmitter that has sent its frame (R199): a response leaves the response list, and the next frame is chosen. -/
def LinkState.sent (k : LinkState) : LinkState :=
  match k.tx with
  | .response _ => LinkState.transmit { k with tx := .idle, responses := k.responses.drop 1 }
  | .notice _ => LinkState.transmit { k with tx := .idle }
  | .idle => k

/-- FRAME_SENT (R199). An idle transmitter finishes no frame. -/
def execFrameSent (l : Link) (s : State) : Host.Outcome State Fault Refusal := .next (s.setLink l (s.link l).sent)

/-- A controller that enters BREAK (R194). -/
def LinkState.break_ (k : LinkState) : LinkState :=
  { k with
    condition := .broken
    framer := .hunting false
    responses := []
    notices := []
    lost := false
    staging := none
    readBuffer := none
    tx := .idle }

/-- LINK_BREAK (R194). -/
def execLinkBreak (l : Link) (s : State) : Host.Outcome State Fault Refusal := .next (s.setLink l (s.link l).break_)

/-- A controller whose receive pair leaves the spacing level (R194). -/
def LinkState.breakEnd (k : LinkState) : LinkState :=
  match k.condition with
  | .broken => { k with condition := .normal, framer := .hunting false }
  | .normal => k

/-- LINK_BREAK_END (R194). A link in NORMAL leaves no break. -/
def execLinkBreakEnd (l : Link) (s : State) : Host.Outcome State Fault Refusal :=
  .next (s.setLink l (s.link l).breakEnd)

end Sys2Proof.Machine
end

