-- ==== Sys2Proof/Machine/Reset.lean ====
section
/-!
DEFINITION. Resets and restart recovery (R27 to R29, R109, R134, R173, R186, R189, R190, R204): the commands POWER_ON,
RESET_LINE and STARTUP_VERIFICATION_COMPLETE.
-/

namespace Sys2Proof.Machine

/-! ### Reset (R204) -/

/-- The store after a reset (R173, R186, R189): statuses, images, check words, locks and records are kept, the write
indications, the queue and the write unit are not, and start-up verification begins. -/
def Store.afterReset (st : Store) : Store where
  items := st.items.map (fun i => { i with commitPending := false })
  records := st.records.map (fun r => { r with writing := false })
  checkpoints := st.checkpoints
  queue := []
  writer := none
  verify := .startup 0
  nextSeq := 1

/-- The discrete lines after a reset (R207, R209, R211): the loops carry what they carried. -/
def Lines.afterReset (l : Lines) : Lines :=
  { Lines.reset with
    esd := InputState.reset l.esd.microamps
    mv := l.mv.map (fun x => InputState.reset x.microamps)
    spare := InputState.reset l.spare.microamps }

/-- The part after a power-on or reset-line reset with its straps as they read then (R204, R206). What stays is the
store's non-volatile content, the currents of the loops, the commands that wait and the model's count of free
values. -/
def State.afterReset (s : State) (cause : ResetCause) (straps : Straps) : State :=
  { State.reset with
    resetCause := cause
    straps := straps
    store := s.store.afterReset
    lines := s.lines.afterReset
    ship := LinkState.reset straps.baudShip
    shore := LinkState.reset straps.baudShore
    survey := LinkState.reset straps.baudSurvey
    freeDraws := s.freeDraws
    pending := s.pending }

/-- POWER_ON (R204). -/
def execPowerOn (straps : Straps) (s : State) : Host.Outcome State Fault Refusal :=
  .next (s.afterReset .powerOn straps)

/-- RESET_LINE (R204). -/
def execResetLine (straps : Straps) (s : State) : Host.Outcome State Fault Refusal :=
  .next (s.afterReset .resetLine straps)

/-! ### Restart recovery (R27 to R29, R56, R134, R186) -/

/-- The next sequence number from the records that remain (R134). -/
def Store.sequenceAfter (st : Store) : Nat :=
  match st.records.getLast? with
  | some r => seqAfter r.record.seq
  | none => 1

/-- The record a checkpoint restores (R28). -/
def Parcel.restored (c : Checkpoint) (esd : Bool) (now : Instant) : Parcel :=
  { Parcel.cleared with
    state := .suspended
    decl := c.decl
    params := c.params
    shipOffer := c.shipOffer
    shoreOffer := c.shoreOffer
    basis := c.basis
    suspendSet := ⟨false, false, esd, true⟩
    opening := c.opening
    flowRef := some now
    settleArmed := true
    restoreArmed := true
    run := c.run
    cycle := c.cycle
    recon := Recon.initial
    alarmsRaised := c.alarmsRaised
    lowestGrade := c.lowestGrade }

/-- The pool draws of a restored checkpoint: tanks, then meters, in ascending order (R56). -/
def State.drawRestored (s : State) (p : ParcelNo) (c : Checkpoint) : State :=
  let s1 := c.tanks.foldl (fun acc x => acc.drawTank x.1 p x.2) s
  c.meters.foldl (fun acc x => acc.drawMeter x.1 p x.2) s1

/-- A checkpoint restored (R28). -/
def State.restore (s : State) (p : ParcelNo) (c : Checkpoint) : State :=
  ((s.drawRestored p c).changeParcel p (Parcel.restored c s.lines.esd.level s.clock) .restart).requestCheckpoint p

/-- What the Parcel Table does with one checkpoint item when start-up verification completes (R27). -/
def State.recover (p : ParcelNo) (s : State) : State :=
  let item := s.store.checkpoint p
  match item.status, item.content with
  | .valid, some c => s.restore p c
  | .invalid, _ => s.dropCheckpoint p
  | _, _ => s

/-- Start-up verification completes (R186): the pass, then the sequence number, the restores, and both factors. -/
def State.completeStartup (s : State) : State :=
  if s.store.startingUp then
    let st := s.store.pass
    let s1 := s.setStore { st with verify := .idle, nextSeq := st.sequenceAfter }
    (((s1.forParcels State.recover).computeVef .load).computeVef .discharge).transmitAll
  else s

/-- STARTUP_VERIFICATION_COMPLETE (R186). Where start-up verification does not run, it does not complete. -/
def execStartupVerificationComplete (s : State) : Host.Outcome State Fault Refusal := .next s.completeStartup

end Sys2Proof.Machine
end

