-- ==== Sys2Proof/Machine/Clock.lean ====
section
/-!
DEFINITION. What the part does of itself when no command waits (assumption 2): an event that is due is put in the
queue, and when none is due one millisecond passes. The ends of a frame on the line and of a block write are the
environment's (assumption 9).
-/

namespace Sys2Proof.Machine

/-- One millisecond passes; the part clock advances with every hundredth (R204). -/
def State.tick (s : State) : State :=
  { s with msec := s.msec + 1, clock := if (s.msec + 1) % 100 = 0 then s.clock + 1 else s.clock }

/-- An event if a condition holds. -/
def dueIf (b : Bool) (c : Instr) : List Instr := if b then [c] else []

/-- Whether an idle write unit has an entry to take (R183). -/
def Store.writeDue (st : Store) : Bool :=
  match st.verify, st.writer, st.queue with
  | .idle, none, _ :: _ => true
  | _, _, _ => false

/-- Whether a waiting pass may start (R187). -/
def Store.passDue (st : Store) : Bool :=
  match st.verify with
  | .waiting => st.writerQuiet
  | _ => false

/-- The events of the inputs that are due (R207): the candidate of a loop that stands at the other level, and the
change of one that has stood for 50 ms. -/
def State.inputsDue (s : State) : List Instr :=
  allInputs.flatMap (fun i =>
    let x := s.lines.input i
    dueIf (x.candidate.isNone && decide (x.reads s.straps i x.microamps ≠ x.level)) (.loopLevelChange i x.microamps)
      ++ dueIf (x.due s.msec) (.inputChange i))

/-- The timer and lamp events of a parcel that are due (R17, R110, R144, R212). -/
def State.parcelDue (s : State) (p : ParcelNo) : List Instr :=
  let r := s.parcel p
  dueIf (r.inTransfer && r.settleArmed && r.noFlowReached s.clock r.params.settleTime) (.settledByTime p)
    ++ dueIf (r.inTransfer && r.restoreArmed && r.noFlowReached s.clock r.params.restoreTime) (.restoredByTime p)
    ++ dueIf (r.cycleDue s.clock) (.cycleTimerExpiry p)
    ++ dueIf (r.acceptDue s.clock) (.acceptTimeout p)
    ++ dueIf (((s.lines.lamp p).pulseUntil.map (fun e => decide (e ≤ s.msec))).getD false) (.pulseEnd p)

/-- The completion a job runs to, by its kind and its copy. -/
def RunningJob.completion (j : RunningJob) : Instr :=
  match j.kind with
  | .openJob => if j.copy.openCauses = [] then .openDone else .openFailed
  | .cycle => .cycleComplete
  | .close => if j.copy.closeFaults = [] then .closeDone else .closeFailed

/-- The completion of the running job, due at its bound (R104). -/
def State.jobDue (s : State) : List Instr :=
  match s.engine.running with
  | some j => dueIf (decide (j.startMs + j.bound ≤ s.msec)) j.completion
  | none => []

/-- The completion of a verification, due 1.5 s after its pass began (R186, R187). -/
def State.verifyDue (s : State) : List Instr :=
  match s.store.verify with
  | .startup t => dueIf (decide (t + 1500 ≤ s.msec)) .startupVerificationComplete
  | .running t => dueIf (decide (t + 1500 ≤ s.msec)) .verifyComplete
  | .idle => []
  | .waiting => []

/-- The events that are due, in the order the model takes them. -/
def State.due (s : State) : List Instr :=
  dueIf (s.engine.running.isNone && s.engine.choose.isSome) .jobStart
    ++ dueIf s.store.writeDue .writeStart
    ++ dueIf s.store.passDue .verifyPassStart
    ++ s.inputsDue
    ++ allParcels.flatMap s.parcelDue
    ++ allLinks.flatMap (fun l => dueIf ((s.link l).gap s.msec) (.interByteGap l))
    ++ s.jobDue
    ++ s.verifyDue

/-- The part with no command waiting (assumption 2). -/
def State.idle (s : State) : State :=
  match s.due with
  | c :: _ => { s with pending := [c] }
  | [] => s.tick

end Sys2Proof.Machine
end

