-- ==== Sys2Proof/Machine/Dispatch.lean ====
section
/-! DEFINITION. The meaning of every command: one arm per constructor of Instr, in the order of the opcode table. -/

namespace Sys2Proof.Machine

/-- The effect of a command on everything but the queue of commands that wait. -/
def exec (i : Instr) (s : State) : Host.Outcome State Fault Refusal :=
  match i with
  | .powerOn straps => Sys2Proof.Machine.execPowerOn straps s
  | .resetLine straps => Sys2Proof.Machine.execResetLine straps s
  | .startupVerificationComplete => Sys2Proof.Machine.execStartupVerificationComplete s
  | .declare l tag pl => Sys2Proof.Machine.execDeclare l tag pl s
  | .setParameter l tag pl => Sys2Proof.Machine.execSetParameter l tag pl s
  | .assignTank l tag pl => Sys2Proof.Machine.execAssignTank l tag pl s
  | .unassignTank l tag pl => Sys2Proof.Machine.execUnassignTank l tag pl s
  | .assignMeter l tag pl => Sys2Proof.Machine.execAssignMeter l tag pl s
  | .unassignMeter l tag pl => Sys2Proof.Machine.execUnassignMeter l tag pl s
  | .offerBasis l tag pl => Sys2Proof.Machine.execOfferBasis l tag pl s
  | .openParcel l tag pl => Sys2Proof.Machine.execOpen l tag pl s
  | .jobStart => Sys2Proof.Machine.execJobStart s
  | .openDone => Sys2Proof.Machine.execOpenDone s
  | .openFailed => Sys2Proof.Machine.execOpenFailed s
  | .suspend l tag pl => Sys2Proof.Machine.execSuspend l tag pl s
  | .resume l tag pl => Sys2Proof.Machine.execResume l tag pl s
  | .close l tag pl => Sys2Proof.Machine.execClose l tag pl s
  | .cancelClose l tag pl => Sys2Proof.Machine.execCancelClose l tag pl s
  | .settledByTime p => Sys2Proof.Machine.execSettledByTime p s
  | .restoredByTime p => Sys2Proof.Machine.execRestoredByTime p s
  | .cycleTimerExpiry p => Sys2Proof.Machine.execCycleTimerExpiry p s
  | .cycleComplete => Sys2Proof.Machine.execCycleComplete s
  | .pulseEnd p => Sys2Proof.Machine.execPulseEnd p s
  | .closeDone => Sys2Proof.Machine.execCloseDone s
  | .closeFailed => Sys2Proof.Machine.execCloseFailed s
  | .regauge l tag pl => Sys2Proof.Machine.execRegauge l tag pl s
  | .setLineAdjust l tag pl => Sys2Proof.Machine.execSetLineAdjust l tag pl s
  | .accept l tag pl => Sys2Proof.Machine.execAccept l tag pl s
  | .witness l tag pl => Sys2Proof.Machine.execWitness l tag pl s
  | .dispute l tag pl => Sys2Proof.Machine.execDispute l tag pl s
  | .acceptTimeout p => Sys2Proof.Machine.execAcceptTimeout p s
  | .abort l tag pl => Sys2Proof.Machine.execAbort l tag pl s
  | .restoreGrade l tag pl => Sys2Proof.Machine.execRestoreGrade l tag pl s
  | .release l tag pl => Sys2Proof.Machine.execRelease l tag pl s
  | .abandon l tag pl => Sys2Proof.Machine.execAbandon l tag pl s
  | .readParcel l tag pl => Sys2Proof.Machine.execReadParcel l tag pl s
  | .tankReading l tag pl => Sys2Proof.Machine.execTankReading l tag pl s
  | .attitudeReading l tag pl => Sys2Proof.Machine.execAttitudeReading l tag pl s
  | .meterReading l tag pl => Sys2Proof.Machine.execMeterReading l tag pl s
  | .tableBegin l tag pl => Sys2Proof.Machine.execTableBegin l tag pl s
  | .tableData l tag pl => Sys2Proof.Machine.execTableData l tag pl s
  | .tableCommit l tag pl => Sys2Proof.Machine.execTableCommit l tag pl s
  | .readTable l tag pl => Sys2Proof.Machine.execReadTable l tag pl s
  | .lockTable l tag pl => Sys2Proof.Machine.execLockTable l tag pl s
  | .unlockTable l tag pl => Sys2Proof.Machine.execUnlockTable l tag pl s
  | .verifyStore l tag pl => Sys2Proof.Machine.execVerifyStore l tag pl s
  | .verifyPassStart => Sys2Proof.Machine.execVerifyPassStart s
  | .verifyComplete => Sys2Proof.Machine.execVerifyComplete s
  | .clearHistory l tag pl => Sys2Proof.Machine.execClearHistory l tag pl s
  | .readRecord l tag pl => Sys2Proof.Machine.execReadRecord l tag pl s
  | .status l tag pl => Sys2Proof.Machine.execStatus l tag pl s
  | .silenceAlarm l tag pl => Sys2Proof.Machine.execSilenceAlarm l tag pl s
  | .setCalendar l tag pl => Sys2Proof.Machine.execSetCalendar l tag pl s
  | .unknownRequest l kind tag pl => Sys2Proof.Machine.execUnknownRequest l kind tag pl s
  | .frameDiscard l => Sys2Proof.Machine.execFrameDiscard l s
  | .interByteGap l => Sys2Proof.Machine.execInterByteGap l s
  | .responseListFullDiscard l => Sys2Proof.Machine.execResponseListFullDiscard l s
  | .frameSent l => Sys2Proof.Machine.execFrameSent l s
  | .linkBreak l => Sys2Proof.Machine.execLinkBreak l s
  | .linkBreakEnd l => Sys2Proof.Machine.execLinkBreakEnd l s
  | .loopLevelChange n ma => Sys2Proof.Machine.execLoopLevelChange n ma s
  | .inputChange n => Sys2Proof.Machine.execInputChange n s
  | .writeStart => Sys2Proof.Machine.execWriteStart s
  | .blockWriteDone eq => Sys2Proof.Machine.execBlockWriteDone eq s
  | .byteReceived l b => Sys2Proof.Machine.execByteReceived l b s

end Sys2Proof.Machine
end

