-- ==== Sys2Proof/Safety.lean ====
section
/-!
DEFINITION. The terms statements about the part are made in: when a link takes a request, what a request leaves behind
on the links, what a command leaves as it was, the bytes of replies and notices by the tables of the rules, the events that
are due of themselves, and the limits the manual gives the part's lists and outputs.
-/

namespace Sys2Proof.Machine

/-! ### A request on its way -/

/-- A link takes a frame (R193): it is in NORMAL and fewer than 8 responses wait. -/
def State.takes (s : State) (l : Link) : Prop :=
  (s.link l).condition = .normal ∧ (s.link l).responses.length < 8

/-- A request reaches its owning block (R195), which is not refusing for a verification (R2, R186). -/
def State.serves (s : State) (l : Link) (r : Req) : Prop :=
  s.takes l ∧ mayRequest r l = true ∧ s.store.verifying = false

/-- A payload of `n` bytes whose first field names a parcel (R2, R195). -/
def Names (pl : List Byte) (n : Nat) (p : ParcelNo) : Prop := pl.length = n ∧ parcelOf (u8 pl 0) = some p

/-- A link controller once notices `bs`, posted at the instant `now`, are placed on it in turn (R201, R202). -/
def LinkState.placeAll (k : LinkState) (now : Instant) (bs : List NoticeBody) : LinkState :=
  bs.foldl (fun acc b => acc.place ⟨now, b⟩) k

/-- What a request leaves of the links, when its owning block leaves `k` of its own link, posts `bs` and answers `r`
(R193, R195, R199, R201): the framer hunts, the one response stands at the end of its own link's list, every link has
taken the notices, and idle transmitters have chosen. That they choose only once every frame of the command is placed is the
model's reading (assumption 9). -/
def RepliedFrom (s t : State) (l : Link) (k : LinkState) (tag : Byte) (r : Reply) (bs : List NoticeBody) : Prop :=
  (∃ k1, k1 = LinkState.placeAll { k with framer := .hunting false } s.clock bs
    ∧ t.link l = LinkState.transmit
      { k1 with responses := k1.responses ++ [⟨tag, r.code, r.clamped, r.truncated, r.fields⟩] })
    ∧ ∀ m, m ≠ l → t.link m = ((s.link m).placeAll s.clock bs).transmit

/-- As `RepliedFrom`, of a request that leaves its own link's buffers alone. -/
def Replied (s t : State) (l : Link) (tag : Byte) (r : Reply) (bs : List NoticeBody) : Prop :=
  RepliedFrom s t l (s.link l) tag r bs

/-- The response to an accepted parcel request (R2): a code, the fields of the parcel as it then stands, more fields. -/
def RepliedFor (s t : State) (l : Link) (tag : Byte) (p : ParcelNo) (c : Code) (more : List Byte)
    (bs : List NoticeBody) : Prop :=
  Replied s t l tag (Reply.withFields c (t.parcelFields p ++ more)) bs

/-- What an event leaves of the links when it posts `bs` to all three (R199, R201): no response, and the notices. That an
idle transmitter chooses only once every notice of the event is placed is the model's reading (assumption 9). -/
def Posted (s t : State) (bs : List NoticeBody) : Prop :=
  ∀ m, t.link m = ((s.link m).placeAll s.clock bs).transmit

/-- The notices a change of the record of `p` calls for (R4): one PARCEL_STATE when the state or one of the five sets
changed, and otherwise none. -/
def stateNotices (p : ParcelNo) (old new : Parcel) (cause : Cause) : List NoticeBody :=
  if old.state ≠ new.state ∨ old.openSet ≠ new.openSet ∨ old.suspendSet ≠ new.suspendSet
      ∨ old.restartResume ≠ new.restartResume ∨ old.closeReservation ≠ new.closeReservation
      ∨ old.releaseSet ≠ new.releaseSet then
    [.parcelState p old.state new.state cause new.openSet new.suspendSet new.restartResume new.closeReservation
      new.releaseSet (if new.state = .disputed then new.disputeCause else none)]
  else []

/-! ### What stays as it was -/

/-- Nothing but the links differs. -/
def OnlyLinks (s t : State) : Prop := t = { s with ship := t.ship, shore := t.shore, survey := t.survey }

/-- No parcel record but that of `p` differs. -/
def OtherParcels (p : ParcelNo) (s t : State) : Prop := ∀ q, q ≠ p → t.parcel q = s.parcel q

/-- Of the discrete lines, only the lamp of `p` and the alarm output with its latch may differ. -/
def OnlyLamp (p : ParcelNo) (s t : State) : Prop :=
  t.lines = { s.lines with lamps := t.lines.lamps, silence := t.lines.silence, alarmOut := t.lines.alarmOut }
    ∧ ∀ q, q ≠ p → t.lines.lamp q = s.lines.lamp q

/-- The lamp of `p` shows the base pattern its record now calls for; a pattern that was not showing begins now (R211). -/
def LampFollows (p : ParcelNo) (s t : State) : Prop :=
  t.lines.lamp p = if (s.lines.lamp p).pattern = (t.parcel p).pattern then s.lines.lamp p
    else { s.lines.lamp p with pattern := (t.parcel p).pattern, since := s.msec }

/-- Nothing but the links, the record of `p`, its lamp, the alarm output, the engine and the store differs: the sources,
the clocks, the calendar, the straps, the factors, RESTORE_LOST and the commands that wait are as they were. -/
def Within (p : ParcelNo) (s t : State) : Prop :=
  t = { s with
    parcels := t.parcels
    lines := t.lines
    engine := t.engine
    store := t.store
    ship := t.ship
    shore := t.shore
    survey := t.survey }
    ∧ OtherParcels p s t ∧ OnlyLamp p s t

/-- The alarm output and the silence latch are as they were. -/
def AlarmKept (s t : State) : Prop := t.lines.silence = s.lines.silence ∧ t.lines.alarmOut = s.lines.alarmOut

/-- As `Within`, of a change that touches neither the engine, the store nor the alarm output: the record of `p`, its lamp
and the links. -/
def OnlyParcel (p : ParcelNo) (s t : State) : Prop :=
  Within p s t ∧ t.engine = s.engine ∧ t.store = s.store ∧ AlarmKept s t

/-- The alarm output after parcels left ALARM, where `was` says that one was in it (R129, R209): with none left in ALARM
the latch is CLEAR and the output deasserted. -/
def AlarmEnded (was : Bool) (s t : State) : Prop :=
  if was = true ∧ t.anyAlarm = false then t.lines.silence = false ∧ t.lines.alarmOut = false else AlarmKept s t

/-- A checkpoint write of `p` is requested (R25): its entry still queued takes the copy in its place, and otherwise one
entry is placed; nothing else of the store differs. -/
def CheckpointRequested (p : ParcelNo) (s t : State) : Prop :=
  t.store = { s.store with
    queue :=
      if s.store.queue.any (QueueEntry.isCheckpointOf p) then
        s.store.queue.map (fun e => if e.isCheckpointOf p then .checkpoint p (t.checkpointCopy p) else e)
      else s.store.queue ++ [.checkpoint p (t.checkpointCopy p)] }

/-- A queue entry once checkpoint writes of the parcels `asked` are requested with the contents `copy` (R25): an entry that
still waits takes its parcel's new content; every other entry is as it was. -/
def QueueEntry.withCopy (asked : ParcelNo → Bool) (copy : ParcelNo → Checkpoint) : QueueEntry → QueueEntry
  | .commit item l clear image check => .commit item l clear image check
  | .checkpoint p old => .checkpoint p (if asked p then copy p else old)
  | .finalize p record => .finalize p record

/-- The write queue once checkpoint writes of the parcels `asked`, in ascending order, are requested at one moment with the
contents `copy` (R25): every entry keeps its place, and a parcel without an entry has one placed at the end. -/
def CheckpointsPlaced (asked : ParcelNo → Bool) (copy : ParcelNo → Checkpoint) (a b : List QueueEntry) : Prop :=
  b = a.map (QueueEntry.withCopy asked copy)
    ++ (allParcels.filter (fun p => asked p && !a.any (QueueEntry.isCheckpointOf p))).map
      (fun p => QueueEntry.checkpoint p (copy p))

/-- The engine once the CYCLE jobs of a parcel that left TRANSFERRING are withdrawn or VOID (R106). -/
def CycleVoided (p : ParcelNo) (a b : Engine) : Prop :=
  b.jobs p = { a.jobs p with cycle := false } ∧ (∀ q, q ≠ p → b.jobs q = a.jobs q) ∧ b.mark = a.mark
    ∧ b.running = a.running.map (fun j =>
      if j.kind = .cycle ∧ j.parcel = p then { j with voided := true } else j)

/-- A job placed in the engine's waiting set, unless one of its kind and parcel is there or runs (R101). -/
def JobPlaced (k : JobKind) (p : ParcelNo) (a b : Engine) : Prop :=
  b.running = a.running ∧ b.mark = a.mark ∧ (∀ q, q ≠ p → b.jobs q = a.jobs q)
    ∧ b.jobs p = if a.runs k p then a.jobs p else (a.jobs p).put k true

/-- The engine once its running job has handed over (R105): IDLE, with nothing else changed. -/
def EngineIdle (a b : Engine) : Prop := b = { a with running := none }

/-- Every stored item but `id` is as it was. -/
def OtherItems (id : Nat) (a b : Store) : Prop := ∀ k, k ≠ id → b.item k = a.item k

/-! ### What several commands do alike -/

/-- A request is turned away with a code and nothing else, and no block changes anything (R2, R195, R198). -/
def TurnedAway (s t : State) (l : Link) (tag : Byte) (c : Code) : Prop :=
  Replied s t l tag (Reply.plain c) [] ∧ OnlyLinks s t

/-- The settle condition of a parcel (R18): the manifold valve it names is recognized active, or its no-flow time (R16)
is equal to or greater than its SETTLE_TIME. -/
def Settled (s : State) (p : ParcelNo) : Prop :=
  (∃ n : ParcelNo, (s.parcel p).params.valveInput = n.val + 1 ∧ (s.lines.mv.get n).level = true)
    ∨ ∃ x, (s.parcel p).noFlow s.clock = some x ∧ (s.parcel p).params.settleTime ≤ x

/-- The record a declaration change leaves of `r`, but for its parameters (R6). -/
def Parcel.afterChange (r : Parcel) (x : Params) : Parcel :=
  { r with
    state := .declared
    params := x
    openSet := ⟨false, false⟩
    shipOffer := none
    shoreOffer := none
    basis := none }

/-- The record of a parcel whose close executes (R20, R129). -/
def Parcel.closingRecord (r : Parcel) : Parcel :=
  { r with
    state := .closing
    closedFrom := some (if r.state = .transferring then .transferring else .suspended)
    closeReservation := ⟨false, false⟩
    cycleTimer := none
    recon := { r.recon with alarm := false, divergent := 0, clear := 0 } }

/-- A close of `p`, whose record was `r`, executes (R20): its record; a CLOSE job placed, and, from TRANSFERRING, its
CYCLE withdrawn or VOID (R106); the alarm output after its alarm state is NORMAL (R129, R209); and nothing else of the
part but the links. -/
def CloseExecuted (p : ParcelNo) (r : Parcel) (s t : State) : Prop :=
  t.parcel p = r.closingRecord
    ∧ t.engine.mark = s.engine.mark ∧ (∀ q, q ≠ p → t.engine.jobs q = s.engine.jobs q)
    ∧ (t.engine.jobs p).openJob = (s.engine.jobs p).openJob
    ∧ (t.engine.jobs p).cycle = ((s.engine.jobs p).cycle && !decide (r.state = .transferring))
    ∧ (t.engine.jobs p).close = ((s.engine.jobs p).close || !s.engine.runs .close p)
    ∧ t.engine.running = s.engine.running.map (fun j =>
      if r.state = .transferring ∧ j.kind = .cycle ∧ j.parcel = p then { j with voided := true } else j)
    ∧ AlarmEnded r.recon.alarm s t ∧ t.store = s.store ∧ LampFollows p s t ∧ Within p s t

/-- `x` is the first of `xs` that carries the number `n`. -/
def FirstNumbered {α : Type} (number : α → Nat) (xs : List α) (n : Nat) (x : α) : Prop :=
  ∃ before after, xs = before ++ x :: after ∧ number x = n ∧ ∀ y ∈ before, number y ≠ n

/-- The closing fields of a tank entry are those of the tank's figure record (R151, R152). -/
def RecordTank.closedBy (e : RecordTank) (fs : List TankFigure) : Prop :=
  (∀ g, FirstNumbered (·.tank) fs e.tank g → e.closeGsv = some g.gsv ∧ e.flags = g.flags)
    ∧ ((∀ g ∈ fs, g.tank ≠ e.tank) → e.closeGsv = none)

/-- The fields of a meter entry are the standard volume and the flags of the meter's figure record (R151, R152). -/
def RecordMeter.closedBy (e : RecordMeter) (fs : List MeterFigure) : Prop :=
  (∀ g, FirstNumbered (·.meter) fs e.meter g → e.volume = some (roundDiv g.accAfter 1000) ∧ e.flags = g.flags)
    ∧ ((∀ g ∈ fs, g.meter ≠ e.meter) → e.volume = none)

/-- The opening GSV of a tank entry is that of the opening figures, absent where there are none (R151, R152). -/
def RecordTank.openedBy (e : RecordTank) (o : Option OpeningFigures) : Prop :=
  (∀ f g, o = some f → FirstNumbered (·.tank) f.tanks e.tank g → e.openGsv = some g.gsv)
    ∧ ((∀ f, o = some f → ∀ g ∈ f.tanks, g.tank ≠ e.tank) → e.openGsv = none)

/-- A transfer record holds the figures of a revision (R151, R152). -/
def TransferRecord.ofRevision (x : TransferRecord) (f : ClosingFigures) : Prop :=
  x.source = .revision ∧ x.revision = some f.revision ∧ x.closeS = some f.snapshot ∧ x.ship = some f.ship
    ∧ x.shore = some f.shore ∧ x.delta = some f.delta ∧ x.adjShip = f.adjShip ∧ x.adjDelta = f.adjDelta
    ∧ (∀ v, x.vef = some v ↔ f.vef = .available v) ∧ x.massShip = some f.massShip ∧ x.massShore = some f.massShore
    ∧ x.massAdj = f.massAdj ∧ x.band = some f.band ∧ x.within = some f.within ∧ x.conditions = f.conditions
    ∧ (∀ e ∈ x.tanks, e.closedBy f.tanks) ∧ ∀ e ∈ x.meters, e.closedBy f.meters

/-- A transfer record holds the figures of a latest cycle (R152, RUNNING). -/
def TransferRecord.ofCycle (x : TransferRecord) (f : LatestCycle) : Prop :=
  x.source = .running ∧ x.revision = none ∧ x.closeS = some f.snapshot ∧ x.ship = some f.ship
    ∧ x.shore = some f.shore ∧ x.delta = some f.delta ∧ x.adjShip = none ∧ x.adjDelta = none ∧ x.vef = none
    ∧ x.massShip = some f.massShip ∧ x.massShore = some f.massShore ∧ x.massAdj = none ∧ x.band = none
    ∧ x.within = none ∧ x.conditions = f.causes
    ∧ (∀ e ∈ x.tanks, e.closedBy f.tanks) ∧ ∀ e ∈ x.meters, e.closedBy f.meters

/-- A transfer record holds no figures (R152, NONE). -/
def TransferRecord.ofNothing (x : TransferRecord) : Prop :=
  x.source = .none ∧ x.revision = none ∧ x.closeS = none ∧ x.ship = none ∧ x.shore = none ∧ x.delta = none
    ∧ x.adjShip = none ∧ x.adjDelta = none ∧ x.vef = none ∧ x.massShip = none ∧ x.massShore = none
    ∧ x.massAdj = none ∧ x.band = none ∧ x.within = none
    ∧ (∀ e ∈ x.tanks, e.closeGsv = none) ∧ ∀ e ∈ x.meters, e.volume = none

/-- The transfer record built of the record `r` of parcel `p` (R151 to R153): its closing calendar time is that of its
closing S where the calendar is set as it is built (R205). -/
def RecordBuilt (s : State) (p : ParcelNo) (r : Parcel) (cause : Option DisputeCause) (x : TransferRecord) : Prop :=
  x.seq = s.store.nextSeq ∧ x.parcel = p ∧ x.decl = r.decl ∧ x.cause = cause ∧ x.basis = r.basis
    ∧ x.openS = r.opening.map (·.s0) ∧ x.openCalendar = r.opening.bind (·.calendar)
    ∧ x.closeCalendar = (match s.calendar, x.closeS with
      | some c, some at0 => some (c.value + BitVec.ofInt 32 (roundDiv (at0 - c.setAt).toInt 10))
      | _, _ => none)
    ∧ (∀ e ∈ x.tanks, e.openedBy r.opening)
    ∧ x.lineAdjust = r.lineAdjust ∧ x.acceptance = r.acceptance ∧ x.alarmsRaised = r.alarmsRaised
    ∧ x.lowestGrade = r.lowestGrade ∧ x.tanks.map (·.tank) = s.tanksOf p ∧ x.meters.map (·.meter) = s.metersOf p
    ∧ match r.closing, r.recon.latest with
      | some f, _ => x.ofRevision f
      | none, some c => x.ofCycle c
      | none, none => x.ofNothing

/-- The parcel `p`, whose record is `r`, enters CLOSED (no cause) or DISPUTED (R23, R153): its record with its transfer
record, one finalize queued, the next sequence number advanced; the engine and the alarm output are not spoken of. -/
def OutcomeEntered (p : ParcelNo) (r : Parcel) (cause : Option DisputeCause) (s t : State) : Prop :=
  ∃ x, RecordBuilt s p r cause x
    ∧ t.parcel p = { r with
      state := if cause = none then .closed else .disputed
      disputeCause := cause
      cycleTimer := none
      acceptTimer := none
      closeReservation := ⟨false, false⟩
      releaseSet := ⟨false, false⟩
      record := some x
      finalizePending := true }
    ∧ t.store = { s.store with
      queue := s.store.queue ++ [.finalize p x]
      nextSeq := if s.store.nextSeq < 65535 then s.store.nextSeq + 1 else 1 }
    ∧ LampFollows p s t ∧ Within p s t

/-- A parcel returns to FREE (R24): its record is cleared, each of its sources is returned with its ring, every other
source is as it was, and nothing else of the part differs but the links and the parcel's lamp. -/
def Freed (p : ParcelNo) (s t : State) : Prop :=
  t.parcel p = Parcel.cleared
    ∧ (∀ n, t.tank n = if (s.tank n).owner = some p then { s.tank n with owner := none, depth := 0, ring := [] }
      else s.tank n)
    ∧ (∀ n, t.meter n = if (s.meter n).owner = some p then
        { s.meter n with owner := none, depth := 0, ring := [], rate := none }
      else s.meter n)
    ∧ LampFollows p s t ∧ OnlyParcel p { s with tanks := t.tanks, meters := t.meters } t

/-- A page of a read is answered (R200), where the whole reply now would be `reply`: page 0 fills the link's read buffer;
a later page is served from a buffer of the same read and target, or refused. -/
def PageServed (s t : State) (l : Link) (tag : Byte) (kind : ReadKind) (target page : Nat) (reply : List Byte) : Prop :=
  OnlyLinks s t ∧
  if 34 < page then Replied s t l tag (Reply.plain .refusedRange) []
  else if page = 0 then
    ∃ b : ReadBuffer, b.kind = kind ∧ b.target = target ∧ b.bytes = reply.take 8400
      ∧ (b.truncated = true ↔ 8400 < reply.length)
      ∧ 240 * (b.pages - 1) < max 1 b.bytes.length ∧ b.bytes.length ≤ 240 * b.pages
      ∧ RepliedFrom s t l { s.link l with readBuffer := some b } tag
        ⟨.ok, false, b.truncated, e1 0 ++ e1 b.pages ++ b.bytes.take 240⟩ []
  else match (s.link l).readBuffer with
    | none => Replied s t l tag (Reply.plain .refusedState) []
    | some b =>
      if b.kind = kind ∧ b.target = target then
        if page < b.pages then
          Replied s t l tag
            ⟨.ok, false, b.truncated, e1 page ++ e1 b.pages ++ (b.bytes.drop (240 * page)).take 240⟩ []
        else Replied s t l tag (Reply.plain .refusedRange) []
      else Replied s t l tag (Reply.plain .refusedState) []

/-- The fields of `n` rows of `size` bytes at `off`, each with whether R174 allows it: a key within its bounds and above
the key before it, and a value within its bounds and, where `falling`, not above the value before it. -/
def rowFields (img : List Byte) (off size n : Nat) (key value : List Byte → Nat → Int) (keys values : Int × Int)
    (falling : Bool) : List (Nat × Bool) :=
  (List.range n).flatMap (fun i =>
    let at0 := off + size * i
    [(at0, decide (keys.1 ≤ key img at0 ∧ key img at0 ≤ keys.2 ∧ (0 < i → key img (at0 - size) < key img at0))),
     (at0 + 2, decide (values.1 ≤ value img (at0 + 2) ∧ value img (at0 + 2) ≤ values.2
       ∧ (0 < i → falling = true → value img (at0 + 2) ≤ value img (at0 + 2 - size))))])

/-- The fields of an item's image in their order (section 10.2), each by its offset, with whether R174 allows it. Where the
length stands among them, and which field it names, is the model's choice (assumption 11). -/
def imageFields (id : Nat) (img : List Byte) : List (Nat × Bool) :=
  let two (i : Nat) : Int := u16 img i
  if id ≤ 16 then
    let nc := u16 img 2
    let nt := u16 img 4
    let nl := u16 img 6
    [(0, decide (1 ≤ two 0 ∧ two 0 ≤ 40000)), (2, decide (2 ≤ nc ∧ nc ≤ 200)), (4, decide (2 ≤ nt ∧ nt ≤ 16)),
      (6, decide (2 ≤ nl ∧ nl ≤ 16)), (2, decide (img.length = 8 + 6 * nc + 4 * nt + 4 * nl))]
      ++ rowFields img 8 6 nc (fun x i => u16 x i) (fun x i => u32 x i) (0, 40000) (0, 999999999) true
      ++ rowFields img (8 + 6 * nc) 4 nt s16 s16 (-5000, 5000) (-2000, 2000) false
      ++ rowFields img (8 + 6 * nc + 4 * nt) 4 nl s16 s16 (-500, 500) (-2000, 2000) false
  else if id ≤ 24 then
    [(0, decide (img.length = 10)), (0, (img.take 8).all (fun b => decide (0x20 ≤ b.toNat ∧ b.toNat ≤ 0x7E))),
      (8, decide (-5000 ≤ s16 img 8 ∧ s16 img 8 ≤ 5000))]
  else if id ≤ 32 then
    let n := u16 img 0
    [(0, decide (2 ≤ n ∧ n ≤ 64)), (0, decide (img.length = 2 + 6 * n))]
      ++ rowFields img 2 6 n s16 (fun x i => u32 x i) (-4000, 15000) (700000, 1300000) false
  else
    let n := u16 img 0
    [(0, decide (n ≤ 10)), (0, decide (img.length = 2 + 8 * n))]
      ++ (List.range (2 * n)).map (fun i =>
        (2 + 4 * i, decide (100000 ≤ u32 img (2 + 4 * i) ∧ u32 img (2 + 4 * i) ≤ 999999999)))

/-- A link commit of item `id` is queued (R181): the entry is the newest of the queue, the item's write indication is
set and nothing else of the item, and nothing else of the store differs. -/
def CommitPlaced (id : Nat) (l : Link) (clear : Bool) (image : List Byte) (check : Word16) (a b : Store) : Prop :=
  b = { a with items := b.items, queue := a.queue ++ [.commit id l clear image check] }
    ∧ b.item id = { a.item id with commitPending := true } ∧ OtherItems id a b

/-- The checkpoint that start-up verification restores for `p`: that of a VALID item that passes its check (R27, R186). -/
def Store.restorable (st : Store) (p : ParcelNo) : Option Checkpoint :=
  if (st.checkpoint p).passes then (st.checkpoint p).content else none

/-- A checkpoint item that a pass drops: INVALID, or VALID and failing its check (R186, R187). -/
def Store.dropped (st : Store) (p : ParcelNo) : Prop :=
  (st.checkpoint p).status = .invalid ∨ ((st.checkpoint p).status = .valid ∧ (st.checkpoint p).passes = false)

/-- What a verification pass makes of the items and the record slots (R186). -/
def PassMade (a b : Store) : Prop :=
  (∀ id, b.item id =
    if (a.item id).status = .valid ∧ wordSum (a.item id).image + (a.item id).check ≠ 0xFFFF then
      { a.item id with status := .invalid }
    else a.item id)
    ∧ b.records = a.records.filter StoredRecord.passes

/-! ### What the table of section 1.2 takes -/

/-- A request's payload has the form its rule gives it on a link (R195, R197): the length of the fields present, a count
within its range, and in an offer a presence byte 0 or 1 before the table id (section 2.1; assumption 7). -/
def Req.formed (r : Req) (l : Link) (pl : List Byte) : Prop :=
  match r with
  | .declare => pl.length = 4 + u8 pl 2
  | .setParameter => pl.length = 6
  | .offerBasis => u8 pl 2 ≤ 1 ∧ pl.length = (if l = .ship then 11 else 13) + u8 pl 2
  | .assignTank | .assignMeter | .tableBegin | .readRecord => pl.length = 3
  | .unassignTank | .unassignMeter | .accept | .witness | .readParcel | .readTable | .tableCommit => pl.length = 2
  | .openParcel | .suspend | .resume | .close | .cancelClose | .regauge | .dispute | .abort | .restoreGrade
  | .release | .abandon | .lockTable | .unlockTable | .clearHistory => pl.length = 1
  | .setLineAdjust => pl.length = 5
  | .tankReading => 1 ≤ u8 pl 0 ∧ u8 pl 0 ≤ 16 ∧ pl.length = 1 + 8 * u8 pl 0
  | .meterReading => 1 ≤ u8 pl 0 ∧ u8 pl 0 ≤ 8 ∧ pl.length = 1 + 10 * u8 pl 0
  | .attitudeReading | .setCalendar => pl.length = 4
  | .tableData => pl.length = 3 + u8 pl 2
  | .verifyStore | .status | .silenceAlarm => pl.length = 0

/-- The requests whose first field is a parcel number 1..4. -/
def Req.namesParcel (r : Req) : Bool :=
  match r with
  | .setParameter | .assignTank | .assignMeter | .unassignTank | .unassignMeter | .offerBasis | .openParcel | .suspend
  | .resume | .close | .cancelClose | .regauge | .accept | .dispute | .setLineAdjust | .witness | .abort
  | .restoreGrade | .release | .abandon | .readParcel => true
  | .declare | .tankReading | .attitudeReading | .meterReading | .tableBegin | .tableData | .tableCommit | .readTable
  | .lockTable | .unlockTable | .verifyStore | .clearHistory | .readRecord | .status | .silenceAlarm
  | .setCalendar => false

/-- A link takes a request that its link may make and that no verification turns away (R2, R46, R186, R195). -/
def State.attends (s : State) (l : Link) (r : Req) : Prop :=
  s.takes l ∧ mayRequest r l = true
    ∧ (s.store.verifying = false ∨ r ∈ [.readParcel, .status, .silenceAlarm, .setCalendar]
      ∨ (s.store.startingUp = false ∧ r ∈ [.tankReading, .attitudeReading, .meterReading]))

/-- The states in which the table of section 1.2 takes a parcel request. -/
def Req.takenIn (r : Req) (x : ParcelState) : Bool :=
  match r with
  | .setParameter | .assignTank | .unassignTank | .assignMeter | .unassignMeter | .offerBasis | .abandon =>
    decide (x = .declared ∨ x = .basisAgreed)
  | .openParcel => decide (x = .basisAgreed)
  | .suspend | .resume | .close | .cancelClose | .restoreGrade => decide (x = .transferring ∨ x = .suspended)
  | .setLineAdjust => decide (x = .transferring ∨ x = .suspended ∨ x = .awaitingAccept)
  | .accept | .witness | .dispute | .regauge => decide (x = .awaitingAccept)
  | .abort => decide (x = .opening ∨ x = .transferring ∨ x = .suspended ∨ x = .closing ∨ x = .awaitingAccept)
  | .release => decide (x = .closed ∨ x = .disputed)
  | .declare => decide (x = .free)
  | .readParcel | .tankReading | .attitudeReading | .meterReading | .tableBegin | .tableData | .tableCommit
  | .readTable | .lockTable | .unlockTable | .verifyStore | .clearHistory | .readRecord | .status | .silenceAlarm
  | .setCalendar => true

/-- The states in which that table marks a parcel request as busy. -/
def Req.busyIn (r : Req) (x : ParcelState) : Bool :=
  match r with
  | .regauge | .dispute | .setLineAdjust => decide (x = .closing)
  | _ => false

/-! ### What goes on a link, spelled out (R197)

The bytes of the replies and notices by the tables of the rules, beside the encoders of Machine/Wire.lean and
Machine/Reads.lean. Where a rule fixes no order or encoding, both follow assumption 7. -/

/-- A number in `n` bytes, most significant first, in two's complement where it is negative. -/
def shownInt (n : Nat) (v : Int) : List Byte := (List.range n).map (fun i => BitVec.ofInt 8 (v / 256 ^ (n - 1 - i)))

/-- A natural number in `n` bytes. -/
def shownNat (n v : Nat) : List Byte := shownInt n v

/-- A part-clock instant or a calendar time, in four bytes. -/
def shownTime (t : BitVec 32) : List Byte := shownInt 4 t.toNat

/-- A member of a list of names by its position from 1. -/
def shownIn {α : Type} [DecidableEq α] (names : List α) (x : α) : List Byte := shownInt 1 (names.idxOf x + 1)

/-- One of two names: the first where `b` holds, else the second. -/
def shownFirst (b : Bool) : List Byte := if b then [1] else [2]

/-- A lone indication: 1 set, 0 clear. -/
def shownIf (b : Bool) : List Byte := if b then [1] else [0]

/-- A set in `n` bytes, the first-listed member least significant. -/
def shownSet (n : Nat) (members : List Bool) : List Byte :=
  shownInt n ((members.zipIdx.map (fun x => if x.1 then 2 ^ x.2 else 0)).sum : Nat)

/-- An optional field: a presence byte, then the field where it is present. -/
def shownOpt {α : Type} (f : α → List Byte) : Option α → List Byte
  | none => [0]
  | some x => 1 :: f x

/-- A list: the count, then the entries. -/
def shownList {α : Type} (f : α → List Byte) (xs : List α) : List Byte := shownInt 1 xs.length ++ xs.flatMap f

/-- A text: the character count, then the characters. -/
def shownText (t : List Byte) : List Byte := shownInt 1 t.length ++ t

/-- The ten states in the order of section 1.2. -/
def shownState : ParcelState → List Byte :=
  shownIn [.free, .declared, .basisAgreed, .opening, .transferring, .suspended, .closing, .awaitingAccept, .closed,
    .disputed]

/-- A parcel number, 1..4. -/
def shownParcel (p : ParcelNo) : List Byte := shownInt 1 (p.val + 1)

/-- A link. -/
def shownLink : Link → List Byte := shownIn [.ship, .shore, .survey]

/-- A direction. -/
def shownDirection : Direction → List Byte := shownIn [.load, .discharge]

/-- A set of parties. -/
def shownParties (x : PartySet) : List Byte := shownSet 1 [x.ship, x.shore]

/-- A suspend set. -/
def shownSuspend (x : SuspendSet) : List Byte := shownSet 1 [x.ship, x.shore, x.esd, x.restart]

/-- An acceptance set. -/
def shownAccept (x : AcceptSet) : List Byte := shownSet 1 [x.ship, x.shore, x.survey]

/-- A dispute cause. -/
def shownDispute : DisputeCause → List Byte := shownIn [.partyShip, .partyShore, .timeout, .aborted]

/-- A source by its place among the 25 (section 3.1). -/
def shownSource : SourceName → List Byte
  | .tank n => shownInt 1 n
  | .att => [17]
  | .meter n => shownInt 1 (17 + n)

/-- A resolved basis (R35). -/
def Basis.shown (b : Basis) : List Byte :=
  shownIn [.tab, .quad, .lin] b.method ++ shownOpt (shownNat 1) b.tableId
    ++ shownOpt (shownNat 2) b.alpha ++ shownInt 2 b.refTemp ++ shownInt 2 b.density
    ++ shownIn [.vac, .air] b.massBasis ++ shownIn [.measured, .none] b.freeWater ++ shownIn [.on, .off] b.pressure
    ++ shownInt 2 b.compress ++ shownIf b.tabFallback

/-- A tank figure record (R66). -/
def TankFigure.shown (f : TankFigure) : List Byte :=
  shownInt 1 f.tank ++ shownOpt shownTime f.instant ++ shownOpt (shownNat 2) f.ullage
    ++ shownOpt (shownInt 2) f.temp ++ shownOpt (shownNat 2) f.dip
    ++ shownOpt (fun a => shownInt 2 a.trim ++ shownInt 2 a.list ++ shownTime a.arrival) f.att
    ++ shownOpt (shownInt 2) f.ct ++ shownOpt (shownInt 2) f.cl ++ shownOpt (shownInt 2) f.uc
    ++ shownInt 4 f.tov ++ shownInt 4 f.fwv ++ shownInt 4 f.gov ++ shownInt 4 f.vcf ++ shownInt 4 f.gsv
    ++ shownSet 2 [f.flags.trimLimit, f.flags.listLimit, f.flags.clamped, f.flags.waterLimit, f.flags.fwCapped,
      f.flags.expLimit, f.flags.vcfLimit, f.flags.noReading, f.flags.noUllage, f.flags.noTemp, f.flags.noAttitude,
      f.flags.table]

/-- A meter figure record (R85). -/
def MeterFigure.shown (f : MeterFigure) : List Byte :=
  let entry (x : Instant × Nat) : List Byte := shownTime x.1 ++ shownInt 4 x.2
  shownInt 1 f.meter ++ shownTime f.snapshot ++ shownOpt entry f.entryA ++ shownOpt entry f.entryB
    ++ shownOpt (shownNat 4) f.aligned ++ shownOpt (shownNat 4) f.lastBefore
    ++ shownInt 4 f.iv ++ shownInt 2 f.d ++ shownInt 4 f.gv ++ shownInt 2 f.temp ++ shownInt 2 f.pressure
    ++ shownInt 4 f.vcf ++ shownInt 4 f.pcf ++ shownInt 8 f.dmL ++ shownInt 8 f.accAfter
    ++ shownOpt (shownNat 4) f.lastAfter
    ++ shownSet 2 [f.flags.unbracketed, f.flags.stepReverse, f.flags.noTotal, f.flags.noBase, f.flags.noTemp,
      f.flags.noPressure, f.flags.expLimit, f.flags.vcfLimit, f.flags.table, f.flags.noShipInstant]

/-- Tank totals (R80). -/
def TankTotals.shown (t : TankTotals) : List Byte :=
  shownInt 4 t.tov ++ shownInt 4 t.fwv ++ shownInt 4 t.gov ++ shownInt 4 t.gsv

/-- Causes (R116), each with its sources or items. -/
def Causes.shown (c : Causes) : List Byte :=
  shownList shownSource c.stale ++ shownList shownSource c.suspect ++ shownList (shownNat 1) c.unbracketed
    ++ shownList (shownNat 1) c.clamped ++ shownList (shownNat 1) c.table

/-- An outcome with its NOT_JUDGED reason and its cleanness (section 7.3, R117). -/
def CycleOutcome.shown : CycleOutcome → List Byte
  | .notJudgedGrade3 => [1] ++ [1, 1] ++ [0]
  | .notJudgedBelowMinimum => [1] ++ [1, 2] ++ [0]
  | .indeterminate => [2] ++ [0] ++ [0]
  | .within clean => [3] ++ [0] ++ shownIf clean
  | .divergent => [4] ++ [0] ++ [0]

/-- A factor, or the reason there is none (R142, R161). -/
def VefResult.shown : VefResult → List Byte
  | .available f => 1 :: shownInt 4 f
  | .unavailable why => 0 :: shownIn [.historyInvalid, .fewEntries, .outOfRange] why

/-- Opening figures (R41, R66, R80, R82, R95), in the order the model chose: S0 and the opening calendar time first
(assumption 7), the masses last (assumption 21). -/
def OpeningFigures.shown (o : OpeningFigures) : List Byte :=
  shownTime o.s0 ++ shownOpt shownTime o.calendar ++ shownList TankFigure.shown o.tanks ++ o.totals.shown
    ++ shownList MeterFigure.shown o.meters ++ shownList (shownInt 4) o.tankMasses ++ shownInt 4 o.massGsv

/-- A latest cycle (R118, R82). -/
def LatestCycle.shown (c : LatestCycle) : List Byte :=
  shownInt 2 c.cycle.toNat ++ shownTime c.snapshot ++ shownInt 4 c.ship ++ shownInt 4 c.shore ++ shownInt 4 c.delta
    ++ shownInt 4 c.q ++ shownOpt (shownInt 4) c.band ++ shownOpt (shownInt 4) c.half ++ shownInt 1 c.grade
    ++ c.outcome.shown ++ c.causes.shown ++ shownList TankFigure.shown c.tanks ++ shownList MeterFigure.shown c.meters
    ++ c.totals.shown ++ shownList (shownInt 4) c.meterVolumes ++ shownInt 4 c.massShip ++ shownInt 4 c.massShore
    ++ shownList (shownInt 4) c.tankMasses ++ shownInt 4 c.massGsv

/-- Closing figures (R141). -/
def ClosingFigures.shown (f : ClosingFigures) : List Byte :=
  shownInt 1 f.revision ++ shownTime f.snapshot ++ shownList TankFigure.shown f.tanks
    ++ shownList MeterFigure.shown f.meters ++ f.totals.shown ++ shownList (shownInt 4) f.meterVolumes
    ++ shownInt 4 f.ship ++ shownInt 4 f.lineAdjust ++ shownInt 4 f.shore ++ shownInt 4 f.delta ++ f.vef.shown
    ++ shownOpt (shownInt 4) f.adjShip ++ shownOpt (shownInt 4) f.adjDelta ++ shownList (shownInt 4) f.tankMasses
    ++ shownInt 4 f.massGsv ++ shownInt 4 f.massShip ++ shownInt 4 f.massShore ++ shownOpt (shownInt 4) f.massAdj
    ++ shownInt 4 f.massDelta ++ shownOpt (shownInt 4) f.massAdjDelta ++ shownInt 4 f.band ++ shownFirst f.within
    ++ f.conditions.shown

/-- A transfer record, by the table of section 8.6. -/
def TransferRecord.shown (r : TransferRecord) : List Byte :=
  let d := r.decl.getD default
  shownInt 2 r.seq ++ shownParcel r.parcel ++ shownText d.label ++ shownDirection d.direction ++ shownIf d.witnessed
    ++ shownFirst r.cause.isNone ++ shownOpt shownDispute r.cause ++ shownOpt (shownNat 1) r.revision
    ++ shownIn [.revision, .running, .none] r.source ++ shownOpt Basis.shown r.basis ++ shownOpt shownTime r.openS
    ++ shownOpt shownTime r.closeS ++ shownOpt shownTime r.openCalendar ++ shownOpt shownTime r.closeCalendar
    ++ shownList (fun e => shownInt 1 e.tank ++ shownOpt (shownInt 4) e.openGsv ++ shownOpt (shownInt 4) e.closeGsv
      ++ shownSet 2 e.flags.toList) r.tanks
    ++ shownList (fun e => shownInt 1 e.meter ++ shownOpt (shownInt 4) e.volume ++ shownSet 2 e.flags.toList) r.meters
    ++ shownOpt (shownInt 4) r.ship ++ shownInt 4 r.lineAdjust ++ shownOpt (shownInt 4) r.shore
    ++ shownOpt (shownInt 4) r.delta ++ shownOpt (shownInt 4) r.vef ++ shownOpt (shownInt 4) r.adjShip
    ++ shownOpt (shownInt 4) r.adjDelta ++ shownOpt (shownInt 4) r.massShip ++ shownOpt (shownInt 4) r.massShore
    ++ shownOpt (shownInt 4) r.massAdj ++ shownOpt (shownInt 4) r.band ++ shownOpt shownFirst r.within
    ++ r.conditions.shown ++ shownAccept r.acceptance ++ shownInt 1 r.alarmsRaised ++ shownInt 1 r.lowestGrade

/-- The freshness of a source against a STALENESS now (R52, R60). -/
def State.freshnessShown (s : State) (staleness : Nat) : Option Instant → List Byte
  | none => [1]
  | some t => if (s.clock - t).toNat ≤ staleness then [2] else [3]

/-- A tank channel as R60 reports it. -/
def State.tankShown (s : State) (staleness n : Nat) : List Byte :=
  let t := s.tank n
  let reading (r : TankReading) : List Byte := shownOpt (shownNat 2) r.ullage ++ shownOpt (shownInt 2) r.temp
    ++ shownInt 2 r.dip ++ shownTime r.arrival
  shownInt 1 n ++ shownOpt reading t.latest ++ s.freshnessShown staleness (t.latest.map (·.arrival)) ++ shownIf t.held
    ++ [0] ++ shownInt 1 t.heldCount ++ shownIf t.suspect ++ shownInt 1 t.depth
    ++ shownList (fun e => reading e.reading ++ shownIf e.held ++ [0]) t.ring

/-- A meter run as R60 reports it. -/
def State.meterShown (s : State) (staleness n : Nat) : List Byte :=
  let m := s.meter n
  let reading (r : MeterReading) : List Byte := shownOpt (shownNat 4) r.total ++ shownOpt (shownInt 2) r.temp
    ++ shownOpt (shownNat 2) r.pressure ++ shownTime r.arrival
  shownInt 1 n ++ shownOpt reading m.latest ++ s.freshnessShown staleness (m.latest.map (·.arrival)) ++ shownIf m.held
    ++ shownIf m.reverse ++ shownInt 1 m.heldCount ++ shownIf m.suspect ++ shownInt 1 m.depth
    ++ shownList (fun e => reading e.reading ++ shownIf e.held ++ shownIf e.reverse) m.ring
    ++ shownOpt (shownNat 4) m.rate

/-- An offer as a link sees it (R38): absent, shown with its content, or there and not shown. -/
def shownOffer {α : Type} (f : α → List Byte) (visible : Prop) [Decidable visible] : Option α → List Byte
  | none => [0]
  | some o => if visible then 1 :: f o else [2]

/-- The reply to READ_PARCEL of a parcel that is not FREE, as a link sees it: the fields of section 1.1, the sources (R60),
the jobs (R100), the reconciliation (R133), the closing (R158), the checkpoint's status (R25). The offers' content is that
of `eShipOffer` and `eShoreOffer`, which ReadsAreServedInPages ties to the offers as they were sent. -/
def State.parcelShown (s : State) (p : ParcelNo) (l : Link) : List Byte :=
  let r := s.parcel p
  let d := r.decl.getD default
  let tanks := (List.range' 1 16).filter (fun n => (s.tank n).owner = some p)
  let meters := (List.range' 1 8).filter (fun n => (s.meter n).owner = some p)
  let depths := ((List.range' 1 16).map (fun n => if (s.tank n).owner = none then 0 else (s.tank n).depth)).sum
    + ((List.range' 1 8).map (fun n => if (s.meter n).owner = none then 0 else (s.meter n).depth)).sum
  let job (k : JobKind) (waits : Bool) : List Byte :=
    if ∃ j ∈ s.engine.running, j.kind = k ∧ j.parcel = p then [2] else if waits then [1] else [3]
  let checkpointWritten : Bool := match s.store.writer with
    | none => false
    | some w => !w.paused && match w.entry with
      | .checkpoint q _ => decide (w.kind = .checkpoint ∧ q = p)
      | .finalize q _ => decide (w.kind = .clearCheckpoint ∧ q = p)
      | .commit .. => false
  shownParcel p ++ shownState r.state
    ++ (shownDirection d.direction ++ shownText d.label ++ shownIf d.witnessed ++ shownLink d.declaring)
    ++ shownList (fun n : Nat => shownInt 1 n ++ shownInt 1 (s.tank n).depth) tanks
    ++ shownList (fun n : Nat => shownInt 1 n ++ shownInt 1 (s.meter n).depth) meters
    ++ r.params.values.flatMap (shownNat 4)
    ++ shownOffer eShipOffer (r.basis ≠ none ∨ l ≠ .shore) r.shipOffer
    ++ shownOffer eShoreOffer (r.basis ≠ none ∨ l ≠ .ship) r.shoreOffer ++ shownOpt Basis.shown r.basis
    ++ shownParties r.openSet ++ shownSuspend r.suspendSet ++ shownParties r.restartResume
    ++ shownParties r.closeReservation ++ shownOpt (shownIn [ClosedFrom.transferring, .suspended]) r.closedFrom
    ++ shownOpt OpeningFigures.shown r.opening ++ shownOpt shownTime r.flowRef ++ shownOpt shownTime r.lastFlow
    ++ shownList (fun m => shownInt 1 m.meter ++ shownInt 2 m.d ++ shownOpt (shownNat 4) m.lastAligned
      ++ shownInt 8 m.acc) r.run
    ++ shownInt 2 r.cycle.toNat
    ++ (shownInt 1 r.recon.grade ++ shownInt 1 r.recon.indeterminate
      ++ shownSet 1 [r.recon.downFrom1, r.recon.downFrom2] ++ shownInt 1 r.lowestGrade ++ shownFirst (!r.recon.alarm)
      ++ shownInt 1 r.recon.divergent ++ shownInt 1 r.recon.clear ++ shownInt 1 r.alarmsRaised
      ++ shownOpt LatestCycle.shown r.recon.latest)
    ++ (shownOpt (shownNat 1) r.revision ++ shownOpt ClosingFigures.shown r.closing
      ++ shownSet 1 [true, true, decide (∃ x ∈ r.decl, x.witnessed = true)] ++ shownAccept r.acceptance
      ++ shownOpt shownTime r.acceptTimer ++ shownInt 4 r.lineAdjust ++ shownOpt TransferRecord.shown r.record
      ++ shownIf r.finalizePending)
    ++ shownOpt shownDispute r.disputeCause ++ shownParties r.releaseSet
    ++ (shownList (s.tankShown r.params.staleness) tanks ++ shownList (s.meterShown r.params.staleness) meters
      ++ (if tanks = [] then [0]
        else 1 :: shownList (fun a => shownInt 2 a.trim ++ shownInt 2 a.list ++ shownTime a.arrival) s.att.ring
          ++ s.freshnessShown r.params.staleness (s.att.latest.map (·.arrival)))
      ++ shownInt 1 (96 - depths : Nat))
    ++ job .openJob (s.engine.jobs p).openJob ++ job .cycle (s.engine.jobs p).cycle
    ++ job .close (s.engine.jobs p).close ++ shownIf r.overrun
    ++ (if checkpointWritten then [4] else shownIn [Status.empty, .valid, .invalid] (s.store.checkpoint p).status)

/-- What READ_TABLE reports of a history besides what it reports of every item (R172): the entries, of a VALID item those
of its image, each with its figures, origin, ratio and mark; then the counts, the lower median, the factor or the reason
there is none, and the value out of range. -/
def Item.historyShown (i : Item) (v : VefState) : List Byte :=
  let entries : List (Nat × Nat) := if i.status = .valid then
    (List.range (u16 i.image 0)).map (fun k => (u32 i.image (2 + 8 * k), u32 i.image (6 + 8 * k))) else []
  shownList (fun x : (Nat × Nat) × Origin × Int × Bool => shownInt 4 x.1.1 ++ shownInt 4 x.1.2
      ++ shownIn [.imported, .recorded] x.2.1 ++ shownInt 4 x.2.2.1 ++ shownIf x.2.2.2)
    (entries.zip (i.origins.zip v.ratios))
  ++ shownInt 1 v.count ++ shownOpt (shownInt 4) v.median ++ shownInt 1 v.qualifying ++ v.result.shown
  ++ shownOpt (shownInt 4) v.computed

/-- The cause of a PARCEL_STATE (R4). -/
def Cause.shown : Cause → List Byte
  | .request r l => 1 :: shownInt 1 r.code ++ shownLink l
  | .esdActive => [2]
  | .esdInactive => [3]
  | .settleValve => [4]
  | .settledByTime => [5]
  | .openDone => [6]
  | .openFailed => [7]
  | .closeDone => [8]
  | .closeFailed => [9]
  | .acceptTimeout => [10]
  | .restart => [11]

/-- A cause of a failed OPEN (R40, R42). -/
def OpenCause.shown : OpenCause → List Byte
  | .noReading x => 1 :: shownSource x
  | .tableInvalid item => 2 :: shownInt 1 item

/-- The ending of a commit with its failed block (R184). -/
def CommitEnding.shown : CommitEnding → Nat × Option Nat
  | .valid => (1, none)
  | .empty => (2, none)
  | .writeFault block => (3, some block)

/-- The kind of a notice, by the table of R201. -/
def NoticeBody.kindShown : NoticeBody → Byte
  | .parcelState .. => 0x01
  | .basisResolved .. => 0x02
  | .basisFailed .. => 0x02
  | .openFailed .. => 0x03
  | .cycleResult .. => 0x04
  | .alarmChange .. => 0x05
  | .gradeChange .. => 0x06
  | .figures .. => 0x07
  | .closeFailed .. => 0x08
  | .outcomeStored .. => 0x09
  | .tableResult .. => 0x0A
  | .verified .. => 0x0A
  | .inputChange .. => 0x0B

/-- The fields of a notice (R201), in the order of the rule that posts it. -/
def NoticeBody.shown : NoticeBody → List Byte
  | .parcelState p before after cause os ss rr cr rs dispute =>
    shownParcel p ++ shownState before ++ shownState after
      ++ cause.shown ++ shownParties os ++ shownSuspend ss ++ shownParties rr ++ shownParties cr ++ shownParties rs
      ++ shownOpt shownDispute dispute
  | .basisResolved p b so ho => shownParcel p ++ [1] ++ b.shown ++ eShipOffer so ++ eShoreOffer ho
  | .basisFailed p cause => shownParcel p ++ [2]
      ++ shownIn [.refMismatch, .densityMismatch, .massBasis, .noCommonMethod, .tableInvalid] cause
  | .openFailed p causes => shownParcel p ++ shownList OpenCause.shown causes
  | .cycleResult p c grade ind d1 d2 alarm dv cl ov =>
    shownParcel p ++ shownInt 2 c.cycle.toNat ++ shownTime c.snapshot ++ shownInt 4 c.ship
      ++ shownInt 4 c.shore ++ shownInt 4 c.delta ++ shownInt 4 c.q ++ shownOpt (shownInt 4) c.band
      ++ shownOpt (shownInt 4) c.half ++ c.outcome.shown ++ c.causes.shown ++ shownInt 1 c.grade ++ shownInt 1 grade
      ++ shownInt 1 ind ++ shownSet 1 [d1, d2] ++ shownFirst (!alarm) ++ shownInt 1 dv ++ shownInt 1 cl ++ shownIf ov
  | .alarmChange p alarm cycle delta band grade raised =>
    shownParcel p ++ shownFirst (!alarm) ++ shownFirst alarm ++ shownInt 2 cycle.toNat ++ shownInt 4 delta
      ++ shownInt 4 band ++ shownInt 1 grade ++ shownInt 1 raised
  | .gradeChange p before after cause cycle d1 d2 lowest =>
    shownParcel p ++ shownInt 1 before ++ shownInt 1 after
      ++ shownIn [.downshift, .restoredByTime, .restoreGrade] cause ++ shownOpt (fun c => shownInt 2 c.toNat) cycle
      ++ shownSet 1 [d1, d2] ++ shownInt 1 lowest
  | .figures p f req expiry =>
    shownParcel p ++ shownInt 1 f.revision ++ shownTime f.snapshot ++ shownInt 4 f.ship
      ++ shownInt 4 f.lineAdjust ++ shownInt 4 f.shore ++ shownInt 4 f.delta ++ f.vef.shown
      ++ shownOpt (shownInt 4) f.adjShip ++ shownOpt (shownInt 4) f.adjDelta ++ shownInt 4 f.massShip
      ++ shownInt 4 f.massShore ++ shownOpt (shownInt 4) f.massAdj ++ shownInt 4 f.band ++ shownFirst f.within
      ++ f.conditions.shown ++ shownAccept req ++ shownTime expiry
  | .closeFailed p returned items =>
    shownParcel p ++ shownState returned ++ shownList (shownNat 1) items
  | .outcomeStored p seq cause appended r h c =>
    shownParcel p ++ shownInt 2 seq ++ shownFirst cause.isNone ++ shownOpt shownDispute cause
      ++ shownIf appended ++ shownFirst r ++ shownFirst h ++ shownFirst c
  | .tableResult item link ending length check =>
    shownInt 1 item ++ shownLink link
      ++ shownInt 1 ending.shown.1 ++ shownInt 2 length ++ shownInt 2 check.toNat
      ++ shownOpt (shownNat 1) ending.shown.2
  | .verified items records checkpoints =>
    [4] ++ shownList (shownNat 1) items ++ shownList (shownNat 2) records
      ++ shownList shownParcel checkpoints
  | .inputChange input level levels =>
    shownIn [.esd, .mv 0, .mv 1, .mv 2, .mv 3, .spare] input ++ shownFirst level
      ++ levels.flatMap shownFirst

/-- A frame (R192): SYNC, LEN, KIND, TAG, PAYLOAD and the CRC over LEN through PAYLOAD. -/
def frameShown (kind tag : Byte) (payload : List Byte) : List Byte :=
  let body := shownInt 1 (payload.length + 2) ++ [kind, tag] ++ payload
  [0xC5, 0x3A] ++ body ++ shownInt 2 (crc body).toNat

/-- The response codes of R198. -/
def codesShown : List (Code × Byte) :=
  [(.ok, 0x00), (.accepted, 0x01), (.reserved, 0x02), (.refusedRights, 0x10), (.refusedState, 0x11),
    (.refusedRange, 0x12), (.refusedBusy, 0x13), (.refusedFull, 0x14), (.refusedLocked, 0x15), (.staleRevision, 0x16),
    (.tagMismatch, 0x17), (.checkMismatch, 0x18), (.unknownRequest, 0x19), (.refusedFormat, 0x1A)]

/-! ### What the part does of itself -/

/-- The running job is of a kind, its copy is as said, and its bound of R104 has passed since its start. -/
def State.jobReached (s : State) (k : JobKind) (copied : JobCopy → Prop) : Prop :=
  ∃ j, s.engine.running = some j ∧ j.kind = k ∧ copied j.copy
    ∧ j.startMs + (if k = .cycle then 5 + 2 * j.copy.tanks.length + 2 * j.copy.meters.length
      else 10 + 3 * j.copy.tanks.length + 3 * j.copy.meters.length) ≤ s.msec

/-- A mark of a parcel's no-flow timer, which runs in TRANSFERRING and SUSPENDED, is armed and reached (R16, R17). -/
def State.markReached (s : State) (p : ParcelNo) (armed : Bool) (mark : Nat) : Prop :=
  let r := s.parcel p
  (r.state = .transferring ∨ r.state = .suspended) ∧ armed = true
    ∧ ∃ t, (r.lastFlow = some t ∨ (r.lastFlow = none ∧ r.flowRef = some t)) ∧ mark ≤ (s.clock - t).toNat

/-- The events that are due, each with the rule whose condition it meets: a job may start (R102), a write or a pass begin
(R183, R187); a loop stands at the other level, or has for 50 ms (R207; assumption 14); a mark or a timer is reached
(R17, R110, R144); a PULSE has had its 100 ms (R212); more than 20 ms have passed in a frame (R193); the running job and a
verification have had the whole of their bounds (R104, R186, R187; assumption 2). Nothing else is due of itself. -/
def State.eventDue (s : State) : Instr → Prop
  | .jobStart => s.engine.running = none ∧ ∃ p, s.engine.jobs p ≠ ⟨false, false, false⟩
  | .writeStart => s.store.verify = .idle ∧ s.store.writer = none ∧ s.store.queue ≠ []
  | .verifyPassStart => s.store.verify = .waiting ∧ ∀ w, s.store.writer = some w → w.paused = true
  | .startupVerificationComplete => ∃ began, s.store.verify = .startup began ∧ began + 1500 ≤ s.msec
  | .verifyComplete => ∃ began, s.store.verify = .running began ∧ began + 1500 ≤ s.msec
  | .loopLevelChange i c =>
    let x := s.lines.input i
    let level (current : Bool) : Bool := if i = .esd ∧ s.straps.esdPol = false then !current else current
    x.candidate = none ∧ c = x.microamps
      ∧ ((4000 ≤ c ∧ level true ≠ x.level) ∨ (c ≤ 1000 ∧ level false ≠ x.level)
        ∨ (1000 < c ∧ c < 4000 ∧ x.lastRead = some (!x.level)))
  | .inputChange i => ∃ since, (s.lines.input i).candidate = some since ∧ since + 50 ≤ s.msec
  | .settledByTime p => s.markReached p (s.parcel p).settleArmed (s.parcel p).params.settleTime
  | .restoredByTime p => s.markReached p (s.parcel p).restoreArmed (s.parcel p).params.restoreTime
  | .cycleTimerExpiry p => (s.parcel p).state = .transferring
      ∧ ∃ e, (s.parcel p).cycleTimer = some e ∧ 0 ≤ (s.clock - e).toInt
  | .acceptTimeout p => (s.parcel p).state = .awaitingAccept
      ∧ ∃ e, (s.parcel p).acceptTimer = some e ∧ 0 ≤ (s.clock - e).toInt
  | .pulseEnd p => ∃ e, (s.lines.lamp p).pulseUntil = some e ∧ e ≤ s.msec
  | .interByteGap l => (s.link l).framer ≠ .hunting false ∧ (s.link l).lastByte + 20 < s.msec
  | .openDone => s.jobReached .openJob (fun c => c.openCauses = [])
  | .openFailed => s.jobReached .openJob (fun c => c.openCauses ≠ [])
  | .cycleComplete => s.jobReached .cycle (fun _ => True)
  | .closeDone => s.jobReached .close (fun c => c.closeFaults = [])
  | .closeFailed => s.jobReached .close (fun c => c.closeFaults ≠ [])
  | _ => False

/-- A record that holds its state alone: every other field is absent, empty or zero (R1). -/
def Parcel.isBlank (r : Parcel) : Prop :=
  r.state = .free ∧ r.decl = none ∧ (∀ v ∈ r.params.values, v = 0) ∧ r.shipOffer = none ∧ r.shoreOffer = none
    ∧ r.basis = none ∧ r.openSet = ⟨false, false⟩ ∧ r.suspendSet = ⟨false, false, false, false⟩
    ∧ r.restartResume = ⟨false, false⟩ ∧ r.closeReservation = ⟨false, false⟩ ∧ r.closedFrom = none ∧ r.opening = none
    ∧ r.flowRef = none ∧ r.lastFlow = none ∧ r.settleArmed = false ∧ r.restoreArmed = false ∧ r.run = [] ∧ r.cycle = 0
    ∧ r.cycleTimer = none ∧ r.overrun = false ∧ r.recon = ⟨0, 0, false, false, false, 0, 0, none⟩ ∧ r.lineAdjust = 0
    ∧ r.revision = none ∧ r.closing = none ∧ r.acceptance = ⟨false, false, false⟩ ∧ r.acceptTimer = none
    ∧ r.record = none ∧ r.alarmsRaised = 0 ∧ r.lowestGrade = 0 ∧ r.disputeCause = none ∧ r.finalizePending = false
    ∧ r.releaseSet = ⟨false, false⟩

/-! ### Limits and laws of the part -/

/-- The lists of a link controller are within R190: 8 responses, 16 notices. -/
def LinkState.bounded (k : LinkState) : Prop := k.responses.length ≤ 8 ∧ k.notices.length ≤ 16

/-- Every list is within its limit: the links' (R190) and the record store's (R156). -/
def State.bounded (s : State) : Prop :=
  s.ship.bounded ∧ s.shore.bounded ∧ s.survey.bounded ∧ s.store.records.length ≤ 8

/-- The rings are within their depths and the depths within the pool: the depths of all assigned sources sum to at most 96
(R55), no ring of a tank or meter holds more entries than the depth its source draws, none for an unassigned one (R53,
R54), and ATT's holds at most 2 (R51). -/
def State.ringsFit (s : State) : Prop :=
  s.depthSum ≤ 96
    ∧ (∀ n, (s.tank n).ring.length ≤ heldDepth (s.tank n).owner (s.tank n).depth)
    ∧ (∀ n, (s.meter n).ring.length ≤ heldDepth (s.meter n).owner (s.meter n).depth)
    ∧ s.att.ring.length ≤ 2

/-- The sources of a checkpoint, each with its depth (R26). -/
def Checkpoint.sources (c : Checkpoint) : List (Nat × Nat) := c.tanks ++ c.meters

/-- The checkpoints a restore would take fit in the pool (R28, R56): each of their depths is a slot or more, and with the
depths already held they sum to at most 96. -/
def State.restoreFits (s : State) : Prop :=
  (∀ p c n d, s.store.restorable p = some c → (n, d) ∈ c.sources → 1 ≤ d)
    ∧ s.depthSum + (allParcels.map (fun p =>
      (((s.store.restorable p).toList.flatMap Checkpoint.sources).map (·.2)).sum)).sum ≤ 96

/-- Whether a queue entry is the finalize of a parcel. -/
def QueueEntry.isFinalizeOf (p : ParcelNo) : QueueEntry → Bool
  | .finalize q _ => decide (q = p)
  | _ => false

/-- The write queue is within R182: at most 4 link commits, and of each parcel at most one checkpoint, and a finalize only
while finalize pending stands, one in all with the one the write unit is making (R154). Finalize pending stands only in
CLOSED and DISPUTED. -/
def State.queueFits (s : State) : Prop :=
  s.store.commitCount ≤ 4
    ∧ ∀ p, s.store.queue.countP (QueueEntry.isCheckpointOf p) ≤ 1
      ∧ s.store.queue.countP (QueueEntry.isFinalizeOf p)
          + (s.store.writer.toList.map (·.entry)).countP (QueueEntry.isFinalizeOf p)
        ≤ (if (s.parcel p).finalizePending then 1 else 0)
      ∧ ((s.parcel p).finalizePending = true → (s.parcel p).state = .closed ∨ (s.parcel p).state = .disputed)

/-- A closing revision is at most 3, and one of 3 stands only in AWAITING_ACCEPT or after it, so that no further one is
under way (R149). -/
def State.revisionFits (s : State) : Prop :=
  ∀ p n, (s.parcel p).revision = some n →
    n ≤ 3 ∧ (n = 3 → (s.parcel p).state = .awaitingAccept ∨ (s.parcel p).state = .closed
      ∨ (s.parcel p).state = .disputed)

/-- A FREE record holds its number and its state alone (R1). -/
def State.freeCleared (s : State) : Prop := ∀ p, (s.parcel p).state = .free → s.parcel p = Parcel.cleared

/-- While start-up verification runs, all four records are FREE (R27). -/
def State.startupFree (s : State) : Prop := s.store.startingUp = true → ∀ p, (s.parcel p).state = .free

/-- A parcel holds ALARM only in TRANSFERRING or SUSPENDED (R129). -/
def State.alarmInTransfer (s : State) : Prop :=
  ∀ p, (s.parcel p).recon.alarm = true → (s.parcel p).inTransfer = true

/-- The alarm output is asserted exactly when a parcel is in ALARM and the silence latch is CLEAR (R209). -/
def State.alarmLaw (s : State) : Prop := s.lines.alarmOut = (s.anyAlarm && !s.lines.silence)

/-- The part clock counts the tenths of a second since the reset, modulo 2^32 (R204). -/
def State.clockLaw (s : State) : Prop := s.clock = BitVec.ofNat 32 (s.msec / 100)

/-- Every lamp shows the base pattern its parcel calls for (R211). -/
def State.lampLaw (s : State) : Prop := ∀ p, (s.lines.lamp p).pattern = (s.parcel p).pattern

/-- The laws of the parcel records, the alarm output and the lamps together. -/
def State.lawful (s : State) : Prop :=
  s.freeCleared ∧ s.startupFree ∧ s.alarmInTransfer ∧ s.alarmLaw ∧ s.lampLaw

/-! ### Commands in a row -/

/-- The command that a request frame stands for. -/
def Req.command (r : Req) (l : Link) (tag : Byte) (pl : List Byte) : Instr :=
  match r with
  | .declare => .declare l tag pl
  | .setParameter => .setParameter l tag pl
  | .assignTank => .assignTank l tag pl
  | .unassignTank => .unassignTank l tag pl
  | .assignMeter => .assignMeter l tag pl
  | .unassignMeter => .unassignMeter l tag pl
  | .offerBasis => .offerBasis l tag pl
  | .openParcel => .openParcel l tag pl
  | .suspend => .suspend l tag pl
  | .resume => .resume l tag pl
  | .close => .close l tag pl
  | .cancelClose => .cancelClose l tag pl
  | .regauge => .regauge l tag pl
  | .accept => .accept l tag pl
  | .dispute => .dispute l tag pl
  | .setLineAdjust => .setLineAdjust l tag pl
  | .witness => .witness l tag pl
  | .abort => .abort l tag pl
  | .restoreGrade => .restoreGrade l tag pl
  | .release => .release l tag pl
  | .abandon => .abandon l tag pl
  | .readParcel => .readParcel l tag pl
  | .tankReading => .tankReading l tag pl
  | .attitudeReading => .attitudeReading l tag pl
  | .meterReading => .meterReading l tag pl
  | .tableBegin => .tableBegin l tag pl
  | .tableData => .tableData l tag pl
  | .tableCommit => .tableCommit l tag pl
  | .readTable => .readTable l tag pl
  | .lockTable => .lockTable l tag pl
  | .unlockTable => .unlockTable l tag pl
  | .verifyStore => .verifyStore l tag pl
  | .clearHistory => .clearHistory l tag pl
  | .readRecord => .readRecord l tag pl
  | .status => .status l tag pl
  | .silenceAlarm => .silenceAlarm l tag pl
  | .setCalendar => .setCalendar l tag pl

/-- The state after commands taken in turn; a command that stopped would leave it. -/
def State.after (s : State) : List Instr → State
  | [] => s
  | c :: rest =>
    match exec c s with
    | .next t => t.after rest
    | .fault _ => s
    | .refused _ => s

end Sys2Proof.Machine
end

