-- ==== Sys2Proof/Certificates/Slice0/Obligations.lean ====
section
/-!
DEFINITION. What is to be proved about the model: one `def Obligations.<Name> : Prop` for each entry of
OBLIGATIONS.json. A statement about a command concludes that `exec` answers a next state and says what that state
holds and what it leaves as it was; the terms it uses are those of Safety.lean.
-/

open Sys2Proof Sys2Proof.Machine

/-! ### The step and the laws every step keeps -/

/-- One step takes the command at the front of the queue and runs it with the queue's rest. -/
def Obligations.StepTakesTheFrontCommand : Prop :=
  ∀ (c : Instr) (rest : List Instr) (s : State),
    step { s with pending := c :: rest } = exec c { s with pending := rest }

/-- No command stops the part: `exec` answers a next state for every command in every state, and leaves the queue of waiting
commands alone. The manual gives each command its effect where its condition holds. That an event command outside its
condition completes and changes nothing is the model's reading (assumption 3), and so are that a request command acts in
every state of its link (assumption 8) and that the queue is kept also by POWER_ON and RESET_LINE (assumption 12). -/
def Obligations.EveryCommandCompletes : Prop :=
  ∀ (c : Instr) (s : State), ∃ t, exec c s = .next t ∧ t.pending = s.pending

/-- The model's choice for an empty queue (assumption 2): the first event that is due is queued; when none is due one
millisecond passes, and the part clock advances with each hundredth (R204), nothing else changing. Due are exactly the
events of `State.eventDue`: a job that may start (R102), a write or a pass that may begin (R183, R187), a loop that stands
at the other level and a candidate of 50 ms (R207), a mark or a timer reached (R17, R110, R144), the end of a PULSE (R212),
a gap of 20 ms (R193), and, at the end of their bounds, the completion of the running job (R104) and of a verification
(R186). The model's own too are that a job and a verification take the whole of their bounds (assumption 2), and that an
instant is reached by signed difference and a loop that has returned after its 50 ms keeps its candidate (assumption 14). -/
def Obligations.IdlePartLetsTimePass : Prop :=
  ∀ s : State, (∀ c, c ∈ s.due ↔ s.eventDue c) ∧ (s.pending = [] →
    (∀ c rest, s.due = c :: rest → step s = .next { s with pending := [c] })
    ∧ (s.due = [] → ∃ t, step s = .next t ∧ t = { s with msec := t.msec, clock := t.clock }
      ∧ t.msec = s.msec + 1 ∧ t.clock = if (s.msec + 1) % 100 = 0 then s.clock + 1 else s.clock))

/-- The state after reset has its lists (R156, R190), rings (R55), queue (R182) and revisions (R149) within their
limits and meets the laws of the records (R1, R27), of the alarm (R129, R209), of the lamps (R211) and of the clock (R204).
A cleared record is FREE with every other field absent, empty or zero (R1). That no command waits after it is the model's
choice (assumption 12). -/
def Obligations.ResetMeetsTheLaws : Prop :=
  Parcel.cleared.isBlank ∧
  State.reset.bounded ∧ State.reset.ringsFit ∧ State.reset.queueFits ∧ State.reset.revisionFits ∧ State.reset.lawful
    ∧ State.reset.clockLaw ∧ State.reset.pending = []

/-- Every step keeps the limits of the whole part: every response list within 8 and notice queue within 16 (R190) and the
record store within 8 (R156); the depths within the pool's 96 and each ring within its depth (R51, R53 to R55); the write
queue within 4 link commits and, for each parcel, one checkpoint and one finalize, so within 16 entries (R182, R154); the
revision within 3 (R149). A restore draws without asking the pool (R28, R56), so for the step that completes start-up the
checkpoints to be restored are taken to fit; that those the part has stored always do is left out of this statement. -/
def Obligations.EveryStepKeepsTheLimits : Prop :=
  (∀ s t : State, step s = .next t →
    (s.bounded → t.bounded)
    ∧ (s.ringsFit → (∀ rest, s.pending = .startupVerificationComplete :: rest → s.restoreFits) → t.ringsFit)
    ∧ (s.lawful → s.queueFits → t.queueFits)
    ∧ (s.revisionFits → t.revisionFits))
  ∧ ∀ s : State, s.queueFits → s.store.commitCount ≤ 4 ∧ s.store.queue.length ≤ 16

/-- Every step keeps the laws of the whole part: a FREE record is cleared (R1); while start-up verification runs every
record is FREE (R27); ALARM is held only in TRANSFERRING or SUSPENDED (R129); the alarm output is asserted exactly when a
parcel is in ALARM and the latch is CLEAR (R209); every lamp shows the pattern its parcel calls for (R211). -/
def Obligations.EveryStepKeepsTheLaws : Prop :=
  ∀ s t : State, s.lawful → step s = .next t → t.lawful

/-- Every step keeps the part clock at the tenths of a second since the reset, modulo 2^32 (R204). -/
def Obligations.EveryStepKeepsTheClock : Prop :=
  ∀ s t : State, s.clockLaw → step s = .next t → t.clockLaw

/-! ### Resets and start-up -/

/-- POWER_ON and RESET_LINE (R204): the cause and the straps as read (R206); every volatile field at its value after a reset:
the sources (R44), the records and RESTORE_LOST (R27), the engine (R100, R109), the factors (R160), the inputs (R207), the
latch and the alarm output (R209), the lamps (R211) and the links (R190); the store's statuses, images, check words, locks,
records and checkpoints kept, its write indications, queue and write unit not, and start-up verification begun (R173, R186,
R189). Six clauses are the model's own: the millisecond count msec, a field of the model's, returns to 0 (assumption 2), a
meter holds no backward step, stepHold none (assumption 18), the entry origins stay with their items (assumption 6), the loop
currents stay (assumption 4), the count of free values stays (assumption 1) and the waiting commands stay (assumption 12). -/
def Obligations.ResetCommandsSetTheState : Prop :=
  ∀ (s : State) (straps : Straps) (c : Instr) (cause : ResetCause),
    (c = .powerOn straps ∧ cause = .powerOn) ∨ (c = .resetLine straps ∧ cause = .resetLine) →
    ∃ t, exec c s = .next t ∧ t.resetCause = cause ∧ t.straps = straps ∧ t.clock = 0 ∧ t.msec = 0
      ∧ t.calendar = none
      ∧ (∀ n, t.tank n = ⟨none, 0, none, false, 0, false, []⟩) ∧ t.att = ⟨none, []⟩
      ∧ (∀ n, t.meter n = ⟨none, 0, none, false, false, 0, false, [], none, .none⟩)
      ∧ (∀ p, t.parcel p = Parcel.cleared ∧ (t.parcel p).state = .free ∧ t.restoreLost.get p = false)
      ∧ (∀ p, t.engine.jobs p = ⟨false, false, false⟩) ∧ t.engine.running = none ∧ t.engine.mark = 3
      ∧ (∀ id, t.store.item id = { s.store.item id with commitPending := false })
      ∧ t.store.records = s.store.records.map (fun r => { r with writing := false })
      ∧ (∀ p, t.store.checkpoint p = s.store.checkpoint p)
      ∧ t.store.queue = [] ∧ t.store.writer = none ∧ t.store.startingUp = true
      ∧ t.vefLoad = none ∧ t.vefDischarge = none
      ∧ (∀ i, t.lines.input i = ⟨(s.lines.input i).microamps, none, false, none⟩)
      ∧ t.lines.silence = false ∧ t.lines.alarmOut = false ∧ (∀ p, t.lines.lamp p = ⟨.off, 0, none⟩)
      ∧ t.ship = ⟨straps.baudShip, .normal, .hunting false, 0, [], [], false, none, none, .idle⟩
      ∧ t.shore = ⟨straps.baudShore, .normal, .hunting false, 0, [], [], false, none, none, .idle⟩
      ∧ t.survey = ⟨straps.baudSurvey, .normal, .hunting false, 0, [], [], false, none, none, .idle⟩
      ∧ t.freeDraws = s.freeDraws ∧ t.pending = s.pending

/-- STARTUP_VERIFICATION_COMPLETE (R186, R27 to R29, R134, R160): the pass; the next sequence number from the records
that remain; a checkpoint that is VALID and passes is restored, an INVALID one dropped with RESTORE_LOST, and an EMPTY
one leaves its parcel as it was; a checkpoint write is requested for each restored parcel, its entry in place of one that
waits or at the end, every other entry staying in its place (R25); both factors are computed; one PARCEL_STATE for each
restored parcel, ascending. The model's own are how a meter's backward hold stands after its restore (assumption 18) and
that a dropped checkpoint item holds no content, word sum 0 and check word 0 (assumption 13). -/
def Obligations.StartupVerificationRestoresTheParcels : Prop :=
  ∀ s : State, s.store.startingUp = true →
    ∃ t, exec .startupVerificationComplete s = .next t ∧ t.store.verify = .idle ∧ PassMade s.store t.store
      ∧ t.store.writer = s.store.writer
      ∧ (t.store.records = [] → t.store.nextSeq = 1)
      ∧ (∀ older r, t.store.records = older ++ [r] →
        t.store.nextSeq = if r.record.seq < 65535 then r.record.seq + 1 else 1)
      ∧ (∀ p k, s.store.restorable p = some k →
        t.parcel p = { Parcel.cleared with
          state := .suspended
          decl := k.decl
          params := k.params
          shipOffer := k.shipOffer
          shoreOffer := k.shoreOffer
          basis := k.basis
          suspendSet := ⟨false, false, s.lines.esd.level, true⟩
          opening := k.opening
          flowRef := some s.clock
          settleArmed := true
          restoreArmed := true
          run := k.run
          cycle := k.cycle
          recon := ⟨1, 0, false, false, false, 0, 0, none⟩
          alarmsRaised := k.alarmsRaised
          lowestGrade := k.lowestGrade }
        ∧ t.restoreLost.get p = s.restoreLost.get p ∧ t.store.checkpoint p = s.store.checkpoint p
        ∧ LampFollows p s t)
      ∧ (∃ copy : ParcelNo → Checkpoint,
        CheckpointsPlaced (fun p => (s.store.restorable p).isSome) copy s.store.queue t.store.queue
        ∧ ∀ p k, s.store.restorable p = some k →
          copy p = { t.checkpointCopy p with tanks := (copy p).tanks, meters := (copy p).meters }
          ∧ ((∀ q c n d, q ≠ p → s.store.restorable q = some c → (n, d) ∈ c.tanks →
              (s.tank n).owner ≠ some p ∧ ∀ e, (n, e) ∉ k.tanks) →
            (copy p).tanks = (t.checkpointCopy p).tanks)
          ∧ ((∀ q c n d, q ≠ p → s.store.restorable q = some c → (n, d) ∈ c.meters →
              (s.meter n).owner ≠ some p ∧ ∀ e, (n, e) ∉ k.meters) →
            (copy p).meters = (t.checkpointCopy p).meters))
      ∧ (∀ p, s.store.dropped p →
        t.parcel p = s.parcel p ∧ t.restoreLost.get p = true ∧ t.store.checkpoint p = ⟨.empty, none, 0, 0⟩
        ∧ t.lines.lamp p = s.lines.lamp p)
      ∧ (∀ p, (s.store.checkpoint p).status = .empty →
        t.parcel p = s.parcel p ∧ t.restoreLost.get p = s.restoreLost.get p
        ∧ t.store.checkpoint p = s.store.checkpoint p ∧ t.lines.lamp p = s.lines.lamp p)
      ∧ (∀ p k n d, s.store.restorable p = some k → (n, d) ∈ k.tanks → 1 ≤ n → n ≤ 16 →
        (∀ q c e, s.store.restorable q = some c → (n, e) ∈ c.tanks → q = p ∧ e = d) →
        t.tank n = { s.tank n with
          owner := some p
          depth := d
          ring := ((s.tank n).latest.map (fun r => TankEntry.mk r (s.tank n).held)).toList })
      ∧ (∀ p k n d, s.store.restorable p = some k → (n, d) ∈ k.meters → 1 ≤ n → n ≤ 8 →
        (∀ q c e, s.store.restorable q = some c → (n, e) ∈ c.meters → q = p ∧ e = d) →
        t.meter n = { s.meter n with
          owner := some p
          depth := d
          ring := ((s.meter n).latest.map
            (fun r => MeterEntry.mk r (s.meter n).held (s.meter n).reverse)).toList
          stepHold := if (s.meter n).stepHold = .none then .none else .ended })
      ∧ (∀ n, (∀ p k d, s.store.restorable p = some k → (n, d) ∉ k.tanks) → t.tank n = s.tank n)
      ∧ (∀ n, (∀ p k d, s.store.restorable p = some k → (n, d) ∉ k.meters) → t.meter n = s.meter n)
      ∧ t.vefLoad = some (vefOfItem (t.store.item 33)) ∧ t.vefDischarge = some (vefOfItem (t.store.item 34))
      ∧ Posted s t (allParcels.flatMap (fun p =>
        if (s.store.restorable p).isSome then stateNotices p (s.parcel p) (t.parcel p) .restart else []))
      ∧ t = { s with
        parcels := t.parcels
        tanks := t.tanks
        meters := t.meters
        restoreLost := t.restoreLost
        store := t.store
        vefLoad := t.vefLoad
        vefDischarge := t.vefDischarge
        lines := t.lines
        ship := t.ship
        shore := t.shore
        survey := t.survey }
      ∧ t.lines = { s.lines with lamps := t.lines.lamps }

/-! ### Declaration, sources and basis -/

/-- DECLARE of a named FREE parcel, or of the lowest FREE one for number 0, with fields in range sets the record up at
its first values (R3, R112) and clears the parcel number's RESTORE_LOST. A direction that is neither, and a label that is
empty, longer than 8 characters or not printable, is REFUSED_RANGE and changes nothing (R3). That the direction is a byte 1
or 2, and witnessed a byte 0 or 1 with any other refused likewise, is the model's reading (assumption 7), and so is that the
parcel number taken stands in the response once, where R2 puts it (assumption 7). -/
def Obligations.DeclareSetsUpARecord : Prop :=
  (∀ (s : State) (l : Link) (tag : Byte) (pl : List Byte) (p : ParcelNo),
    s.serves l .declare → pl.length = 4 + u8 pl 2 → (s.parcel p).state = .free →
    (u8 pl 0 = p.val + 1 ∨ (u8 pl 0 = 0 ∧ ∀ q < p, (s.parcel q).state ≠ .free)) →
    (u8 pl 1 ≠ 1 ∧ u8 pl 1 ≠ 2) ∨ u8 pl 2 = 0 ∨ 8 < u8 pl 2
      ∨ (∃ b ∈ (pl.drop 3).take (u8 pl 2), b.toNat < 0x20 ∨ 0x7E < b.toNat) ∨ 1 < u8 pl (3 + u8 pl 2) →
    ∃ t, exec (.declare l tag pl) s = .next t ∧ TurnedAway s t l tag .refusedRange)
  ∧ ∀ (s : State) (l : Link) (tag : Byte) (pl : List Byte) (p : ParcelNo) (dir : Direction),
    s.serves l .declare → pl.length = 4 + u8 pl 2 → (s.parcel p).state = .free →
    (u8 pl 0 = p.val + 1 ∨ (u8 pl 0 = 0 ∧ ∀ q < p, (s.parcel q).state ≠ .free)) →
    ((u8 pl 1 = 1 ∧ dir = .load) ∨ (u8 pl 1 = 2 ∧ dir = .discharge)) → 1 ≤ u8 pl 2 → u8 pl 2 ≤ 8 →
    (∀ b ∈ (pl.drop 3).take (u8 pl 2), 0x20 ≤ b.toNat ∧ b.toNat ≤ 0x7E) → u8 pl (3 + u8 pl 2) ≤ 1 →
    ∃ t, exec (.declare l tag pl) s = .next t
      ∧ t.parcel p = { Parcel.cleared with
        state := .declared
        decl := some ⟨dir, (pl.drop 3).take (u8 pl 2), decide (u8 pl (3 + u8 pl 2) = 1), l⟩
        params := ⟨3000, 2000, 600, 900, 3, 3, 4, 3000, 600, 200, 18000, 10, 0⟩
        recon := ⟨1, 0, false, false, false, 0, 0, none⟩
        lowestGrade := 1 }
      ∧ t.restoreLost.get p = false ∧ (∀ q, q ≠ p → t.restoreLost.get q = s.restoreLost.get q)
      ∧ RepliedFor s t l tag p .ok [] (stateNotices p (s.parcel p) (t.parcel p) (.request .declare l))
      ∧ LampFollows p s t ∧ OnlyParcel p { s with restoreLost := t.restoreLost } t

/-- SET_PARAMETER in DECLARED or BASIS_AGREED stores the value brought into the parameter's range, in the unit it is held in,
with VALUE_CLAMPED where it was moved, as a declaration change (R5, R6); a name outside 1..13 is REFUSED_RANGE. The ranges,
defaults and units are those of the table of section 1.3. -/
def Obligations.SetParameterStoresTheClampedValue : Prop :=
  ∀ (s : State) (l : Link) (tag : Byte) (pl : List Byte) (p : ParcelNo),
    s.serves l .setParameter → Names pl 6 p → ((s.parcel p).state = .declared ∨ (s.parcel p).state = .basisAgreed) →
    let table : List (Nat × Nat × Nat × Nat) :=
      [(500, 20000, 3000, 1), (0, 100000, 2000, 1), (10, 600, 60, 10), (5, 600, 90, 10), (1, 10, 3, 1), (1, 10, 3, 1),
        (1, 15, 4, 1), (30, 3600, 300, 10), (10, 600, 60, 10), (10, 100000, 200, 1), (60, 7200, 1800, 10), (1, 60, 10, 1),
        (0, 4, 0, 1)]
    paramTable = table ∧ Params.defaults.values = table.map (fun row => row.2.2.1 * row.2.2.2)
    ∧ (∀ lo hi standard unit, 1 ≤ u8 pl 1 → table[u8 pl 1 - 1]? = some (lo, hi, standard, unit) →
      let stored : Nat := if s32 pl 2 < lo then lo else if (hi : Int) < s32 pl 2 then hi else (s32 pl 2).toNat
      ∃ t, exec (.setParameter l tag pl) s = .next t
        ∧ t.parcel p = (s.parcel p).afterChange (t.parcel p).params
        ∧ (t.parcel p).params.values = (s.parcel p).params.values.set (u8 pl 1 - 1) (stored * unit)
        ∧ Replied s t l tag ⟨.ok, decide ((stored : Int) ≠ s32 pl 2), false, t.parcelFields p⟩
          (stateNotices p (s.parcel p) (t.parcel p) (.request .setParameter l))
        ∧ LampFollows p s t ∧ OnlyParcel p s t)
    ∧ (u8 pl 1 = 0 ∨ 13 < u8 pl 1 →
      ∃ t, exec (.setParameter l tag pl) s = .next t ∧ TurnedAway s t l tag .refusedRange)

/-- ASSIGN_TANK and ASSIGN_METER in DECLARED or BASIS_AGREED (R7, R53, R55): a free source joins with the depth named, 0
standing for 4 and others brought into 2..8, where the pool can supply it, and its ring starts with its latest reading; a
source of this parcel is answered OK and nothing changes; another parcel's is REFUSED_STATE; too small a pool is
REFUSED_FULL; a number out of range is REFUSED_RANGE. R50 ends a meter's hold on a backward step here; that the meter then
keeps its latest total and takes the next one as given is the model's reading (assumption 18). -/
def Obligations.AssignmentsDrawARing : Prop :=
  (∀ (s : State) (l : Link) (tag : Byte) (pl : List Byte) (p : ParcelNo),
    s.serves l .assignTank → Names pl 3 p → ((s.parcel p).state = .declared ∨ (s.parcel p).state = .basisAgreed) →
    let n := u8 pl 1
    let depth := if u8 pl 2 = 0 then 4 else max 2 (min 8 (u8 pl 2))
    let clamped := decide (u8 pl 2 ≠ 0 ∧ u8 pl 2 ≠ depth)
    (¬(1 ≤ n ∧ n ≤ 16) → ∃ t, exec (.assignTank l tag pl) s = .next t ∧ TurnedAway s t l tag .refusedRange)
    ∧ (1 ≤ n → n ≤ 16 →
      ((s.tank n).owner = none → depth ≤ s.poolFree →
        ∃ t, exec (.assignTank l tag pl) s = .next t
          ∧ t.tank n = { s.tank n with
            owner := some p
            depth := depth
            ring := ((s.tank n).latest.map (fun r => TankEntry.mk r (s.tank n).held)).toList }
          ∧ (∀ m, m ≠ n → t.tank m = s.tank m) ∧ t.depthSum = s.depthSum + depth
          ∧ t.parcel p = (s.parcel p).afterChange (s.parcel p).params
          ∧ Replied s t l tag ⟨.ok, clamped, false, t.parcelFields p⟩
            (stateNotices p (s.parcel p) (t.parcel p) (.request .assignTank l))
          ∧ LampFollows p s t ∧ OnlyParcel p { s with tanks := t.tanks } t)
      ∧ ((s.tank n).owner = some p →
        ∃ t, exec (.assignTank l tag pl) s = .next t
          ∧ Replied s t l tag ⟨.ok, clamped, false, s.parcelFields p⟩ [] ∧ OnlyLinks s t)
      ∧ (∀ q, (s.tank n).owner = some q → q ≠ p →
        ∃ t, exec (.assignTank l tag pl) s = .next t ∧ TurnedAway s t l tag .refusedState)
      ∧ ((s.tank n).owner = none → s.poolFree < depth →
        ∃ t, exec (.assignTank l tag pl) s = .next t ∧ TurnedAway s t l tag .refusedFull)))
  ∧ ∀ (s : State) (l : Link) (tag : Byte) (pl : List Byte) (p : ParcelNo),
    s.serves l .assignMeter → Names pl 3 p → ((s.parcel p).state = .declared ∨ (s.parcel p).state = .basisAgreed) →
    let n := u8 pl 1
    let depth := if u8 pl 2 = 0 then 4 else max 2 (min 8 (u8 pl 2))
    let clamped := decide (u8 pl 2 ≠ 0 ∧ u8 pl 2 ≠ depth)
    (¬(1 ≤ n ∧ n ≤ 8) → ∃ t, exec (.assignMeter l tag pl) s = .next t ∧ TurnedAway s t l tag .refusedRange)
    ∧ (1 ≤ n → n ≤ 8 →
      ((s.meter n).owner = none → depth ≤ s.poolFree →
        ∃ t, exec (.assignMeter l tag pl) s = .next t
          ∧ t.meter n = { s.meter n with
            owner := some p
            depth := depth
            ring := ((s.meter n).latest.map
              (fun r => MeterEntry.mk r (s.meter n).held (s.meter n).reverse)).toList
            stepHold := if (s.meter n).stepHold = .none then .none else .ended }
          ∧ (∀ m, m ≠ n → t.meter m = s.meter m) ∧ t.depthSum = s.depthSum + depth
          ∧ t.parcel p = (s.parcel p).afterChange (s.parcel p).params
          ∧ Replied s t l tag ⟨.ok, clamped, false, t.parcelFields p⟩
            (stateNotices p (s.parcel p) (t.parcel p) (.request .assignMeter l))
          ∧ LampFollows p s t ∧ OnlyParcel p { s with meters := t.meters } t)
      ∧ ((s.meter n).owner = some p →
        ∃ t, exec (.assignMeter l tag pl) s = .next t
          ∧ Replied s t l tag ⟨.ok, clamped, false, s.parcelFields p⟩ [] ∧ OnlyLinks s t)
      ∧ (∀ q, (s.meter n).owner = some q → q ≠ p →
        ∃ t, exec (.assignMeter l tag pl) s = .next t ∧ TurnedAway s t l tag .refusedState)
      ∧ ((s.meter n).owner = none → s.poolFree < depth →
        ∃ t, exec (.assignMeter l tag pl) s = .next t ∧ TurnedAway s t l tag .refusedFull))

/-- UNASSIGN_TANK and UNASSIGN_METER of a source of the parcel return its ring and its slots to the pool, leave its latest
reading, held count and SUSPECT, drop a meter's rate, and change the declaration (R8, R53, R56); a source that is not the
parcel's is REFUSED_STATE. -/
def Obligations.UnassignmentsReturnTheRing : Prop :=
  (∀ (s : State) (l : Link) (tag : Byte) (pl : List Byte) (p : ParcelNo),
    s.serves l .unassignTank → Names pl 2 p →
    ((s.parcel p).state = .declared ∨ (s.parcel p).state = .basisAgreed) →
    let n := u8 pl 1
    (¬(1 ≤ n ∧ n ≤ 16) → ∃ t, exec (.unassignTank l tag pl) s = .next t ∧ TurnedAway s t l tag .refusedRange)
    ∧ (1 ≤ n → n ≤ 16 → (s.tank n).owner = some p →
      ∃ t, exec (.unassignTank l tag pl) s = .next t
        ∧ t.tank n = { s.tank n with owner := none, depth := 0, ring := [] }
        ∧ (∀ m, m ≠ n → t.tank m = s.tank m) ∧ t.depthSum + (s.tank n).depth = s.depthSum
        ∧ t.parcel p = (s.parcel p).afterChange (s.parcel p).params
        ∧ RepliedFor s t l tag p .ok [] (stateNotices p (s.parcel p) (t.parcel p) (.request .unassignTank l))
        ∧ LampFollows p s t ∧ OnlyParcel p { s with tanks := t.tanks } t)
    ∧ (1 ≤ n → n ≤ 16 → (s.tank n).owner ≠ some p →
      ∃ t, exec (.unassignTank l tag pl) s = .next t ∧ TurnedAway s t l tag .refusedState))
  ∧ ∀ (s : State) (l : Link) (tag : Byte) (pl : List Byte) (p : ParcelNo),
    s.serves l .unassignMeter → Names pl 2 p →
    ((s.parcel p).state = .declared ∨ (s.parcel p).state = .basisAgreed) →
    let n := u8 pl 1
    (¬(1 ≤ n ∧ n ≤ 8) → ∃ t, exec (.unassignMeter l tag pl) s = .next t ∧ TurnedAway s t l tag .refusedRange)
    ∧ (1 ≤ n → n ≤ 8 → (s.meter n).owner = some p →
      ∃ t, exec (.unassignMeter l tag pl) s = .next t
        ∧ t.meter n = { s.meter n with owner := none, depth := 0, ring := [], rate := none }
        ∧ (∀ m, m ≠ n → t.meter m = s.meter m) ∧ t.depthSum + (s.meter n).depth = s.depthSum
        ∧ t.parcel p = (s.parcel p).afterChange (s.parcel p).params
        ∧ RepliedFor s t l tag p .ok [] (stateNotices p (s.parcel p) (t.parcel p) (.request .unassignMeter l))
        ∧ LampFollows p s t ∧ OnlyParcel p { s with meters := t.meters } t)
    ∧ (1 ≤ n → n ≤ 8 → (s.meter n).owner ≠ some p →
      ∃ t, exec (.unassignMeter l tag pl) s = .next t ∧ TurnedAway s t l tag .refusedState)

/-- An OFFER_BASIS whose fields are in range is stored (R30, R31). With the other party's offer absent the parcel stands in
DECLARED and the outcome is PENDING; with it present resolution runs: a success holds the basis in BASIS_AGREED, a failure
clears both offers (R36), and one BASIS_RESULT follows the PARCEL_STATE (R37). An offer is taken exactly when its fields
are in range, and then holds them; otherwise it is REFUSED_RANGE. The outcome codes 1, 2 and 3, the mode values, the order
of the bits of a set, the presence byte before the table id and the refusal of TAB without a table id are the model's
reading (assumption 7). The table that resolution looks at is that of the ship offer, item 24 + id, at that moment (R34):
`offeredTableValid` holds exactly where its reported status (R173) is VALID. -/
def Obligations.OffersAreExaminedStoredAndResolved : Prop :=
  (∀ (s : State) (so : ShipOffer), s.offeredTableValid so = true ↔
    ∃ k, so.common.tableId = some k ∧ s.store.reported (24 + k) = .valid)
  ∧ (∀ (s : State) (l : Link) (tag : Byte) (pl : List Byte) (p : ParcelNo) (r : Parcel),
    s.serves l .offerBasis → ((s.parcel p).state = .declared ∨ (s.parcel p).state = .basisAgreed) →
    Req.formed .offerBasis l pl → parcelOf (u8 pl 0) = some p →
    ((l = .ship ∧ ∃ o, shipOfferOf pl = some o ∧ r = { s.parcel p with shipOffer := some o })
      ∨ (l = .shore ∧ ∃ o, shoreOfferOf pl = some o ∧ r = { s.parcel p with shoreOffer := some o })) →
    ∃ t, exec (.offerBasis l tag pl) s = .next t ∧ LampFollows p s t ∧ OnlyParcel p s t
      ∧ (r.shipOffer = none ∨ r.shoreOffer = none →
        t.parcel p = { r with state := .declared, openSet := ⟨false, false⟩, basis := none }
        ∧ RepliedFor s t l tag p .ok [1] (stateNotices p (s.parcel p) (t.parcel p) (.request .offerBasis l)))
      ∧ (∀ so ho b, r.shipOffer = some so → r.shoreOffer = some ho →
        resolve so ho (s.offeredTableValid so) = .ok b →
        t.parcel p = { r with state := .basisAgreed, openSet := ⟨false, false⟩, basis := some b }
        ∧ RepliedFor s t l tag p .ok [2]
          (stateNotices p (s.parcel p) (t.parcel p) (.request .offerBasis l) ++ [.basisResolved p b so ho]))
      ∧ (∀ so ho e, r.shipOffer = some so → r.shoreOffer = some ho →
        resolve so ho (s.offeredTableValid so) = .error e →
        t.parcel p = { r with
          state := .declared
          openSet := ⟨false, false⟩
          basis := none
          shipOffer := none
          shoreOffer := none }
        ∧ RepliedFor s t l tag p .ok (3 :: eResolveFailure e)
          (stateNotices p (s.parcel p) (t.parcel p) (.request .offerBasis l) ++ [.basisFailed p e])))
  ∧ ∀ (s : State) (l : Link) (tag : Byte) (pl : List Byte) (p : ParcelNo),
    s.serves l .offerBasis → ((s.parcel p).state = .declared ∨ (s.parcel p).state = .basisAgreed) →
    Req.formed .offerBasis l pl → parcelOf (u8 pl 0) = some p →
    let k := 3 + u8 pl 2
    let common : Prop := 1 ≤ u8 pl 1 ∧ u8 pl 1 ≤ 7 ∧ (u8 pl 1 % 2 = 1 → u8 pl 2 = 1 ∧ 1 ≤ u8 pl 3 ∧ u8 pl 3 ≤ 8)
      ∧ 100 ≤ u16 pl k ∧ u16 pl k ≤ 2000 ∧ (s16 pl (k + 2) = 1500 ∨ s16 pl (k + 2) = 2000)
      ∧ 1 ≤ u8 pl (k + 4) ∧ u8 pl (k + 4) ≤ 3 ∧ 6000 ≤ u16 pl (k + 5) ∧ u16 pl (k + 5) ≤ 11000
    let c : CommonOffer :=
      { tab := decide (u8 pl 1 % 2 = 1)
        quad := decide (u8 pl 1 / 2 % 2 = 1)
        lin := decide (u8 pl 1 / 4 % 2 = 1)
        tableId := if u8 pl 1 % 2 = 1 then some (u8 pl 3) else none
        alpha := u16 pl k
        refTemp := s16 pl (k + 2)
        vac := decide (u8 pl (k + 4) % 2 = 1)
        air := decide (u8 pl (k + 4) / 2 % 2 = 1)
        density := u16 pl (k + 5) }
    (l = .ship →
      (common ∧ u8 pl (k + 7) = 1 → shipOfferOf pl = some ⟨c, .measured⟩)
      ∧ (common ∧ u8 pl (k + 7) = 2 → shipOfferOf pl = some ⟨c, .none⟩)
      ∧ (¬(common ∧ (u8 pl (k + 7) = 1 ∨ u8 pl (k + 7) = 2)) →
        ∃ t, exec (.offerBasis l tag pl) s = .next t ∧ TurnedAway s t l tag .refusedRange))
    ∧ (l = .shore →
      (common ∧ u8 pl (k + 7) = 1 ∧ u16 pl (k + 8) ≤ 500 → shoreOfferOf pl = some ⟨c, .on, u16 pl (k + 8)⟩)
      ∧ (common ∧ u8 pl (k + 7) = 2 ∧ u16 pl (k + 8) ≤ 500 → shoreOfferOf pl = some ⟨c, .off, u16 pl (k + 8)⟩)
      ∧ (¬(common ∧ (u8 pl (k + 7) = 1 ∨ u8 pl (k + 7) = 2) ∧ u16 pl (k + 8) ≤ 500) →
        ∃ t, exec (.offerBasis l tag pl) s = .next t ∧ TurnedAway s t l tag .refusedRange))

/-- Resolution takes its steps in order and its failure is that of the first to fail (R32 to R35): reference temperature,
density, mass basis, method. TAB stands only while its table is VALID (`valid`, which OFFER_BASIS takes from
`offeredTableValid`, the subject of OffersAreExaminedStoredAndResolved); otherwise the next common method stands with
TAB_FALLBACK and the passed-over table id. -/
def Obligations.ResolutionFollowsItsSteps : Prop :=
  ∀ (so : ShipOffer) (ho : ShoreOffer) (valid : Bool),
    let a := so.common
    let b := ho.common
    let far : Prop := a.density + 5 < b.density ∨ b.density + 5 < a.density
    let noMass : Prop := (a.vac && b.vac) = false ∧ (a.air && b.air) = false
    let tab : Prop := a.tab = true ∧ b.tab = true ∧ a.tableId = b.tableId
    let quad : Prop := a.quad = true ∧ b.quad = true ∧ a.alpha = b.alpha
    let lin : Prop := a.lin = true ∧ b.lin = true ∧ a.alpha = b.alpha
    let basis (m : Method) (table : Option Nat) (alpha : Option Nat) (fallback : Bool) : Basis :=
      { method := m
        tableId := table
        alpha := alpha
        refTemp := a.refTemp
        density := (a.density + b.density + 1) / 2
        massBasis := if a.vac = true ∧ b.vac = true then .vac else .air
        freeWater := so.freeWater
        pressure := ho.pressure
        compress := ho.compress
        tabFallback := fallback }
    (a.refTemp ≠ b.refTemp → resolve so ho valid = .error .refMismatch)
    ∧ (a.refTemp = b.refTemp → far → resolve so ho valid = .error .densityMismatch)
    ∧ (a.refTemp = b.refTemp → ¬far → noMass → resolve so ho valid = .error .massBasis)
    ∧ (a.refTemp = b.refTemp → ¬far → ¬noMass →
      (tab → valid = true → resolve so ho valid = .ok (basis .tab a.tableId none false))
      ∧ (¬tab → quad → resolve so ho valid = .ok (basis .quad none (some a.alpha) false))
      ∧ (¬tab → ¬quad → lin → resolve so ho valid = .ok (basis .lin none (some a.alpha) false))
      ∧ (¬tab → ¬quad → ¬lin → resolve so ho valid = .error .noCommonMethod)
      ∧ (tab → valid = false → quad → resolve so ho valid = .ok (basis .quad a.tableId (some a.alpha) true))
      ∧ (tab → valid = false → ¬quad → lin → resolve so ho valid = .ok (basis .lin a.tableId (some a.alpha) true))
      ∧ (tab → valid = false → ¬quad → ¬lin → resolve so ho valid = .error .tableInvalid))

/-- OPEN in BASIS_AGREED (R9, R39): refused REFUSED_STATE without a tank or without a meter; a party already in the open
set changes nothing; the first party joins; the second takes the parcel into OPENING with an OPEN job placed. -/
def Obligations.OpenJoinsTheOpenSet : Prop :=
  ∀ (s : State) (l : Link) (tag : Byte) (pl : List Byte) (p : ParcelNo),
    s.serves l .openParcel → Names pl 1 p → (s.parcel p).state = .basisAgreed →
    (s.tanksOf p = [] ∨ s.metersOf p = [] →
      ∃ t, exec (.openParcel l tag pl) s = .next t ∧ TurnedAway s t l tag .refusedState)
    ∧ (s.tanksOf p ≠ [] → s.metersOf p ≠ [] → (s.parcel p).openSet.has l = true →
      ∃ t, exec (.openParcel l tag pl) s = .next t
        ∧ Replied s t l tag (Reply.withFields .ok (s.parcelFields p)) [] ∧ OnlyLinks s t)
    ∧ (s.tanksOf p ≠ [] → s.metersOf p ≠ [] → (s.parcel p).openSet = ⟨false, false⟩ →
      ∃ t, exec (.openParcel l tag pl) s = .next t
        ∧ t.parcel p = { s.parcel p with openSet := ⟨decide (l = .ship), decide (l = .shore)⟩ }
        ∧ RepliedFor s t l tag p .ok [] (stateNotices p (s.parcel p) (t.parcel p) (.request .openParcel l))
        ∧ LampFollows p s t ∧ OnlyParcel p s t)
    ∧ (s.tanksOf p ≠ [] → s.metersOf p ≠ [] → (s.parcel p).openSet = ⟨decide (l ≠ .ship), decide (l ≠ .shore)⟩ →
      ∃ t, exec (.openParcel l tag pl) s = .next t
        ∧ t.parcel p = { s.parcel p with openSet := ⟨true, true⟩, state := .opening }
        ∧ JobPlaced .openJob p s.engine t.engine
        ∧ RepliedFor s t l tag p .accepted [] (stateNotices p (s.parcel p) (t.parcel p) (.request .openParcel l))
        ∧ LampFollows p s t ∧ Within p s t ∧ t.store = s.store ∧ AlarmKept s t)

/-! ### The engine's jobs -/

/-- JOB_START on an IDLE engine (R102): the CLOSE of the lowest-numbered parcel; else the OPEN of the lowest; else the
CYCLE first in round-robin order after the mark, which then sets the mark. The job leaves the waiting set with its start
instant, not VOID, and its copy: each tank with its latest reading, freshness (R52), attitude in force (R51), ring and
table content; each meter with its readings, its definition (R41) or its running state (R84); ATT, the expansion table,
the basis, the direction and the figures of the parcel (R59, R103). Nothing else changes. Three clauses are the model's
reading: a tank without a latest reading has no attitude in its copy (assumption 10), the attitude in force is chosen by age
at the job's start (assumption 14), and the start is kept in milliseconds as well, startMs, for its bound (assumption 2). -/
def Obligations.JobStartFollowsTheArbiter : Prop :=
  ∀ (s : State) (k : JobKind) (p : ParcelNo), s.engine.running = none →
    (k = .close ∧ (s.engine.jobs p).close = true ∧ (∀ q < p, (s.engine.jobs q).close = false)
      ∨ k = .openJob ∧ (∀ q, (s.engine.jobs q).close = false) ∧ (s.engine.jobs p).openJob = true
        ∧ (∀ q < p, (s.engine.jobs q).openJob = false)
      ∨ k = .cycle ∧ (∀ q, (s.engine.jobs q).close = false ∧ (s.engine.jobs q).openJob = false)
        ∧ (s.engine.jobs p).cycle = true
        ∧ ∀ q, (s.engine.jobs q).cycle = true → (p - (s.engine.mark + 1)).val ≤ (q - (s.engine.mark + 1)).val) →
    ∃ t, exec .jobStart s = .next t ∧ t = { s with engine := t.engine }
      ∧ t.engine.jobs p = (s.engine.jobs p).put k false ∧ (∀ q, q ≠ p → t.engine.jobs q = s.engine.jobs q)
      ∧ t.engine.mark = (if k = .cycle then p else s.engine.mark)
      ∧ ∃ j, t.engine.running = some j ∧ j.kind = k ∧ j.parcel = p ∧ j.start = s.clock ∧ j.startMs = s.msec
        ∧ j.voided = false ∧
        let r := s.parcel p
        let fresh (arrival : Option Instant) : Freshness := match arrival with
          | none => .never
          | some t => if (s.clock - t).toNat ≤ r.params.staleness then .fresh else .stale
        j.copy.tanks = (s.tanksOf p).map (s.copyTank r.params.staleness)
        ∧ (∀ c ∈ j.copy.tanks, ∃ n ∈ s.tanksOf p, c =
          { number := n
            latest := (s.tank n).latest
            fresh := fresh ((s.tank n).latest.map (·.arrival))
            held := (s.tank n).held
            heldCount := (s.tank n).heldCount
            suspect := (s.tank n).suspect
            ring := (s.tank n).ring
            att := c.att
            tableValid := s.store.isValid n
            table := if s.store.isValid n = true then tankTableOf (s.store.item n).image else c.table }
          ∧ (c.latest = none → c.att = none)
          ∧ (s.att.ring = [] → c.att = none)
          ∧ ∀ x, c.latest = some x →
            (∀ a, s.att.ring = [a] → c.att = some a)
            ∧ ∀ a b, s.att.ring = [a, b] →
              c.att = some (if (s.clock - x.arrival).toNat ≤ (s.clock - b.arrival).toNat then b else a))
        ∧ j.copy.meters = (s.metersOf p).map (s.copyMeter k r)
        ∧ (∀ c ∈ j.copy.meters, ∃ n ∈ s.metersOf p, c =
          { number := n
            latest := (s.meter n).latest
            fresh := fresh ((s.meter n).latest.map (·.arrival))
            held := (s.meter n).held
            reverse := (s.meter n).reverse
            heldCount := (s.meter n).heldCount
            suspect := (s.meter n).suspect
            ring := (s.meter n).ring
            lastAligned := c.lastAligned
            acc := c.acc
            d := c.d
            defValid := s.store.isValid (16 + n) }
          ∧ (k = .openJob → s.store.isValid (16 + n) = true → c.d = s16 (s.store.item (16 + n)).image 8)
          ∧ ∀ before m after, r.run = before ++ m :: after → m.meter = n → (∀ x ∈ before, x.meter ≠ n) →
            c.lastAligned = m.lastAligned ∧ c.acc = m.acc ∧ (k ≠ .openJob → c.d = m.d))
        ∧ j.copy.att = s.att.latest ∧ j.copy.attRing = s.att.ring
        ∧ j.copy.attFresh = fresh (s.att.latest.map (·.arrival))
        ∧ (∀ b id, r.basis = some b → b.method = .tab → b.tableId = some id →
          j.copy.expansionValid = s.store.isValid (24 + id)
          ∧ (s.store.isValid (24 + id) = true → j.copy.expansion = expansionOf (s.store.item (24 + id)).image))
        ∧ ((∀ b, r.basis = some b → b.method ≠ .tab ∨ b.tableId = none) →
          j.copy.expansionValid = false ∧ j.copy.expansion = [])
        ∧ j.copy.basis = r.basis ∧ j.copy.direction = r.direction ∧ j.copy.opening = r.opening
        ∧ j.copy.cycle = r.cycle ∧ j.copy.lineAdjust = r.lineAdjust ∧ j.copy.vef = s.vefResult r.direction

/-- OPEN_DONE (R10, R41, R95): a running OPEN job without a cause of R40, its parcel in OPENING, stores the opening figures
of its copy, sets cycle number 0 and the flow reference, empties the open set, and enters SUSPENDED with {ESD} while ESD is
recognized active, else TRANSFERRING with a full cycle period; a checkpoint write is requested and the engine is IDLE. The
totals are the sums of the tank records (R80); while the calendar is set, the opening calendar time is that of S0 (R151,
R205); each tank GSV and the GSV total have their masses (R82), which the opening figures holding them is the model's
reading (assumption 21). -/
def Obligations.OpenDoneEntersTransfer : Prop :=
  ∀ (s : State) (j : RunningJob), s.engine.running = some j → j.kind = .openJob → j.copy.openCauses = [] →
    (s.parcel j.parcel).state = .opening →
    ∃ t, exec .openDone s = .next t ∧ EngineIdle s.engine t.engine ∧ CheckpointRequested j.parcel s t
      ∧ LampFollows j.parcel s t ∧ Within j.parcel s t ∧ AlarmKept s t
      ∧ Posted s t (stateNotices j.parcel (s.parcel j.parcel) (t.parcel j.parcel) .openDone)
      ∧ ∃ o : OpeningFigures, o.s0 = j.copy.snapshot j.start
        ∧ o.tanks = j.copy.tankFigures (j.copy.basis.getD default)
        ∧ o.totals = ⟨(o.tanks.map (·.tov)).sum, (o.tanks.map (·.fwv)).sum, (o.tanks.map (·.gov)).sum,
          (o.tanks.map (·.gsv)).sum⟩
        ∧ o.tankMasses = o.tanks.map (fun f => mass (j.copy.basis.getD default) f.gsv)
        ∧ o.massGsv = mass (j.copy.basis.getD default) (o.tanks.map (·.gsv)).sum
        ∧ o.meters = j.copy.meterFigures .openJob (j.copy.basis.getD default) j.start
        ∧ (∀ f ∈ o.meters, f.iv = 0 ∧ f.gv = 0 ∧ f.dmL = 0 ∧ f.accAfter = 0)
        ∧ (s.calendar = none → o.calendar = none)
        ∧ (∀ c, s.calendar = some c →
          o.calendar = some (c.value + BitVec.ofInt 32 (roundDiv (o.s0 - c.setAt).toInt 10)))
        ∧ t.parcel j.parcel = { s.parcel j.parcel with
          state := if s.lines.esd.level then .suspended else .transferring
          opening := some o
          run := o.meters.map (fun f => ⟨f.meter, f.d, f.lastAfter, f.accAfter⟩)
          cycle := 0
          flowRef := some s.clock
          lastFlow := none
          settleArmed := true
          restoreArmed := true
          openSet := ⟨false, false⟩
          suspendSet := ⟨false, false, s.lines.esd.level, false⟩
          cycleTimer := if s.lines.esd.level then none
            else some (s.clock + tenths (s.parcel j.parcel).params.cyclePeriod) }

/-- OPEN_FAILED (R10, R40, R42): a running OPEN job with causes of R40, its parcel in OPENING, returns the parcel to
BASIS_AGREED with its basis and offers kept and its open set empty, and posts OPEN_FAILED with every cause after the
PARCEL_STATE; the store is untouched and the engine is IDLE. The causes are every NEVER source, and every item the job needs
that is not VALID: a tank table, a meter definition, and under TAB the expansion table (R40). -/
def Obligations.OpenFailedReturnsToBasisAgreed : Prop :=
  ∀ (s : State) (j : RunningJob), s.engine.running = some j → j.kind = .openJob → j.copy.openCauses ≠ [] →
    (s.parcel j.parcel).state = .opening →
    ∃ t, exec .openFailed s = .next t ∧ EngineIdle s.engine t.engine ∧ t.store = s.store
      ∧ LampFollows j.parcel s t ∧ Within j.parcel s t ∧ AlarmKept s t
      ∧ t.parcel j.parcel = { s.parcel j.parcel with state := .basisAgreed, openSet := ⟨false, false⟩ }
      ∧ Posted s t (stateNotices j.parcel (s.parcel j.parcel) (t.parcel j.parcel) .openFailed
        ++ [.openFailed j.parcel j.copy.openCauses])
      ∧ (∀ n, OpenCause.noReading (.tank n) ∈ j.copy.openCauses ↔ ∃ c ∈ j.copy.tanks, c.number = n ∧ c.latest = none)
      ∧ (∀ n, OpenCause.noReading (.meter n) ∈ j.copy.openCauses ↔ ∃ c ∈ j.copy.meters, c.number = n ∧ c.latest = none)
      ∧ (OpenCause.noReading .att ∈ j.copy.openCauses ↔ j.copy.att = none)
      ∧ ∀ id, OpenCause.tableInvalid id ∈ j.copy.openCauses ↔
        (∃ c ∈ j.copy.tanks, c.number = id ∧ c.tableValid = false)
        ∨ (∃ c ∈ j.copy.meters, 16 + c.number = id ∧ c.defValid = false)
        ∨ ∃ b k, j.copy.basis = some b ∧ b.method = .tab ∧ b.tableId = some k ∧ id = 24 + k
          ∧ j.copy.expansionValid = false

/-- CYCLE_COMPLETE of a CYCLE that is not VOID with its parcel in TRANSFERRING (R106, R113 to R118, R128, R130 to R132,
R209, R212): cycle number and running state; grade and alarm by the outcome; alarms raised and lowest grade; the latest
cycle with all its fields, the totals being sums of the tank records (R80), each meter's standard volume its accumulator
over 1000, and the masses those of the ship and shore figures (R118, R82); the checkpoint where due; the notices in their
order; a PULSE on the lamp; the engine IDLE. That the latest cycle also holds the masses of the tanks and of their total is
the model's reading (assumption 21). -/
def Obligations.AppliedCycleIsJudged : Prop :=
  ∀ (s : State) (j : RunningJob), s.engine.running = some j → j.kind = .cycle → j.voided = false →
    (s.parcel j.parcel).state = .transferring →
    ∃ t, exec .cycleComplete s = .next t ∧
      let p := j.parcel
      let r := s.parcel p
      let basis := j.copy.basis.getD default
      ∃ lc : LatestCycle, ∃ g : Recon,
        lc.cycle = r.cycle + 1 ∧ lc.snapshot = j.copy.snapshot j.start ∧ lc.grade = r.recon.grade
        ∧ lc.tanks = j.copy.tankFigures basis ∧ lc.meters = j.copy.meterFigures .cycle basis j.start
        ∧ lc.ship = shipFigure j.copy.direction ((j.copy.opening.map (·.totals.gsv)).getD 0)
          (sumInt (lc.tanks.map (·.gsv)))
        ∧ lc.shore = roundDiv (sumInt (lc.meters.map (·.accAfter))) 1000
        ∧ lc.delta = lc.ship - lc.shore ∧ lc.q = max (lc.ship.natAbs : Int) (lc.shore.natAbs : Int)
        ∧ lc.band = cycleBand r.recon.grade r.params lc.q ∧ lc.half = lc.band.map halfBand
        ∧ lc.causes = j.copy.causes basis lc.tanks lc.meters
        ∧ lc.outcome = outcomeOf r.params lc.band lc.q lc.delta lc.causes.any
        ∧ lc.totals = ⟨(lc.tanks.map (·.tov)).sum, (lc.tanks.map (·.fwv)).sum, (lc.tanks.map (·.gov)).sum,
          (lc.tanks.map (·.gsv)).sum⟩
        ∧ lc.meterVolumes = lc.meters.map (fun f => roundDiv f.accAfter 1000)
        ∧ lc.massShip = mass basis lc.ship ∧ lc.massShore = mass basis lc.shore
        ∧ lc.tankMasses = lc.tanks.map (fun f => mass basis f.gsv)
        ∧ lc.massGsv = mass basis (lc.tanks.map (·.gsv)).sum
        ∧ g = alarmAfter r.params lc.outcome (gradeAfter r.params lc.outcome r.recon)
        ∧ t.parcel p = { r with
          cycle := r.cycle + 1
          run := lc.meters.map (fun f => ⟨f.meter, f.d, f.lastAfter, f.accAfter⟩)
          recon := { g with latest := some lc }
          alarmsRaised := if g.alarm = true ∧ r.recon.alarm = false then min 255 (r.alarmsRaised + 1)
            else r.alarmsRaised
          lowestGrade := max r.lowestGrade g.grade
          overrun := false }
        ∧ Posted s t
          ([.cycleResult p lc g.grade g.indeterminate g.downFrom1 g.downFrom2 g.alarm g.divergent g.clear r.overrun]
          ++ (if r.recon.grade = g.grade then []
            else [.gradeChange p r.recon.grade g.grade .downshift (some lc.cycle) g.downFrom1 g.downFrom2
              (max r.lowestGrade g.grade)])
          ++ (if r.recon.alarm = g.alarm then []
            else [.alarmChange p g.alarm lc.cycle lc.delta (lc.band.getD 0) lc.grade (t.parcel p).alarmsRaised]))
        ∧ (r.recon.alarm ≠ g.alarm → lc.band.isSome = true)
        ∧ (if (t.parcel p).cycle.toNat % r.params.checkpointInterval = 0 then CheckpointRequested p s t
          else t.store = s.store)
        ∧ (if g.alarm = true ∧ r.recon.alarm = false then t.lines.silence = false ∧ t.lines.alarmOut = true
          else AlarmEnded (r.recon.alarm && !g.alarm) s t)
        ∧ (t.lines.lamp p).pattern = (t.parcel p).pattern ∧ (t.lines.lamp p).pulseUntil = some (s.msec + 100)
        ∧ (t.lines.lamp p).since
          = (if (s.lines.lamp p).pattern = (t.parcel p).pattern then (s.lines.lamp p).since else s.msec)
        ∧ EngineIdle s.engine t.engine ∧ Within p s t

/-- CYCLE_COMPLETE of a CYCLE that is VOID, or whose parcel has left TRANSFERRING, discards the whole result (R96, R106):
the engine is IDLE and nothing else of the part changes. -/
def Obligations.DiscardedCycleChangesNothing : Prop :=
  ∀ (s : State) (j : RunningJob), s.engine.running = some j → j.kind = .cycle →
    (j.voided = true ∨ (s.parcel j.parcel).state ≠ .transferring) →
    exec .cycleComplete s = .next { s with engine := { s.engine with running := none } }

/-- CLOSE_DONE (R107, R138 to R142): a running CLOSE job whose items are VALID, its parcel in CLOSING, publishes the next
revision: figures from its copy, the totals being sums of the tank records (R80) and each meter's standard volume its
accumulator over 1000, the VEF applied where it holds one, a mass of every figure (R139, R82), the judgement on the grade-1
band; running state, empty acceptance set, acceptance timer, AWAITING_ACCEPT; PARCEL_STATE and then FIGURES; the engine IDLE.
-/
def Obligations.CloseDonePublishesARevision : Prop :=
  ∀ (s : State) (j : RunningJob), s.engine.running = some j → j.kind = .close → j.copy.closeFaults = [] →
    (s.parcel j.parcel).state = .closing →
    ∃ t, exec .closeDone s = .next t ∧
      let p := j.parcel
      let r := s.parcel p
      let basis := j.copy.basis.getD default
      let expiry := s.clock + tenths r.params.acceptWindow
      ∃ f : ClosingFigures,
        f.revision = (match r.revision with
          | none => 0
          | some n => n + 1)
        ∧ f.snapshot = j.copy.snapshot j.start ∧ f.tanks = j.copy.tankFigures basis
        ∧ f.meters = j.copy.meterFigures .close basis j.start
        ∧ f.ship = shipFigure j.copy.direction ((j.copy.opening.map (·.totals.gsv)).getD 0)
          (sumInt (f.tanks.map (·.gsv)))
        ∧ f.lineAdjust = j.copy.lineAdjust
        ∧ f.shore = roundDiv (sumInt (f.meters.map (·.accAfter))) 1000 + j.copy.lineAdjust
        ∧ f.delta = f.ship - f.shore ∧ f.vef = j.copy.vef
        ∧ (∀ v, j.copy.vef = .available v →
          f.adjShip = some (roundDiv (f.ship * 100000) v)
          ∧ f.adjDelta = some (roundDiv (f.ship * 100000) v - f.shore))
        ∧ (∀ why, j.copy.vef = .unavailable why → f.adjShip = none ∧ f.adjDelta = none)
        ∧ f.massShip = mass basis f.ship ∧ f.massShore = mass basis f.shore ∧ f.massDelta = mass basis f.delta
        ∧ f.massAdj = f.adjShip.map (mass basis) ∧ f.massAdjDelta = f.adjDelta.map (mass basis)
        ∧ f.totals = ⟨(f.tanks.map (·.tov)).sum, (f.tanks.map (·.fwv)).sum, (f.tanks.map (·.gov)).sum,
          (f.tanks.map (·.gsv)).sum⟩
        ∧ f.meterVolumes = f.meters.map (fun m => roundDiv m.accAfter 1000)
        ∧ f.tankMasses = f.tanks.map (fun x => mass basis x.gsv)
        ∧ f.massGsv = mass basis (f.tanks.map (·.gsv)).sum
        ∧ f.band = max (r.params.floor : Int)
          (roundDiv (max ((f.adjShip.getD f.ship).natAbs : Int) (f.shore.natAbs : Int) * r.params.tolerance) 1000000)
        ∧ (f.within = true ↔ ((f.adjDelta.getD f.delta).natAbs : Int) ≤ f.band)
        ∧ f.conditions = j.copy.causes basis f.tanks f.meters
        ∧ t.parcel p = { r with
          state := .awaitingAccept
          revision := some f.revision
          closing := some f
          run := f.meters.map (fun m => ⟨m.meter, m.d, m.lastAfter, m.accAfter⟩)
          acceptance := ⟨false, false, false⟩
          acceptTimer := some expiry }
        ∧ Posted s t (stateNotices p r (t.parcel p) .closeDone ++ [.figures p f ⟨true, true, r.witnessed⟩ expiry])
        ∧ EngineIdle s.engine t.engine ∧ t.store = s.store ∧ LampFollows p s t ∧ Within p s t ∧ AlarmKept s t

/-- CLOSE_FAILED (R15, R136, R143): a running CLOSE job with items not VALID, its parcel in CLOSING, returns the parcel to
its closed-from state with both no-flow marks rearmed: SUSPENDED while ESD is recognized active or from SUSPENDED with a
member left, with a checkpoint requested, else TRANSFERRING; PARCEL_STATE and then CLOSE_FAILED; the engine IDLE. The items
it carries are exactly the tank tables, and under TAB the expansion table, that are not VALID (R136). -/
def Obligations.CloseFailedReturnsTheParcel : Prop :=
  ∀ (s : State) (j : RunningJob), s.engine.running = some j → j.kind = .close → j.copy.closeFaults ≠ [] →
    (s.parcel j.parcel).state = .closing →
    ∃ t, exec .closeFailed s = .next t ∧
      let p := j.parcel
      let r := s.parcel p
      let esd := s.lines.esd.level
      let held := esd || (decide (r.closedFrom ≠ some .transferring) && !decide (r.suspendSet = ⟨false, false, false, false⟩))
      t.parcel p = { r with
        state := if held then .suspended else .transferring
        suspendSet := { r.suspendSet with esd := r.suspendSet.esd || esd }
        closedFrom := none
        settleArmed := true
        restoreArmed := true
        cycleTimer := if held then none else some (s.clock + tenths r.params.cyclePeriod) }
      ∧ Posted s t (stateNotices p r (t.parcel p) .closeFailed
        ++ [.closeFailed p (if held then .suspended else .transferring) j.copy.closeFaults])
      ∧ (if held then CheckpointRequested p s t else t.store = s.store)
      ∧ (∀ id, id ∈ j.copy.closeFaults ↔ (∃ c ∈ j.copy.tanks, c.number = id ∧ c.tableValid = false)
        ∨ ∃ b k, j.copy.basis = some b ∧ b.method = .tab ∧ b.tableId = some k ∧ id = 24 + k
          ∧ j.copy.expansionValid = false)
      ∧ EngineIdle s.engine t.engine ∧ LampFollows p s t ∧ Within p s t ∧ AlarmKept s t

/-! ### Transfer -/

/-- SUSPEND in TRANSFERRING or SUSPENDED adds the sender to the suspend set (R11); from TRANSFERRING the parcel enters
SUSPENDED, its cycle timer stops, its CYCLE is withdrawn or VOID, and a checkpoint write is requested (R14, R106). RESUME
removes the sender. While RESTART is there the sender joins the restart-resume set, and the second party removes RESTART
and empties that set (R13). A SUSPENDED parcel with no member left enters TRANSFERRING with a full cycle period (R14). -/
def Obligations.SuspendAndResumeMoveTheParty : Prop :=
  (∀ (s : State) (l : Link) (tag : Byte) (pl : List Byte) (p : ParcelNo),
    s.serves l .suspend → Names pl 1 p →
    let r := s.parcel p
    let x : SuspendSet := { r.suspendSet with
      ship := r.suspendSet.ship || decide (l = .ship)
      shore := r.suspendSet.shore || decide (l = .shore) }
    (r.state = .transferring →
      ∃ t, exec (.suspend l tag pl) s = .next t
        ∧ t.parcel p = { r with state := .suspended, suspendSet := x, cycleTimer := none }
        ∧ CycleVoided p s.engine t.engine ∧ CheckpointRequested p s t
        ∧ RepliedFor s t l tag p .ok [] (stateNotices p r (t.parcel p) (.request .suspend l))
        ∧ LampFollows p s t ∧ Within p s t ∧ AlarmKept s t)
    ∧ (r.state = .suspended →
      ∃ t, exec (.suspend l tag pl) s = .next t ∧ t.parcel p = { r with suspendSet := x }
        ∧ RepliedFor s t l tag p .ok [] (stateNotices p r (t.parcel p) (.request .suspend l))
        ∧ LampFollows p s t ∧ OnlyParcel p s t))
  ∧ ∀ (s : State) (l : Link) (tag : Byte) (pl : List Byte) (p : ParcelNo),
    s.serves l .resume → Names pl 1 p →
    ((s.parcel p).state = .transferring ∨ (s.parcel p).state = .suspended) →
    let r := s.parcel p
    let joined : PartySet :=
      ⟨r.restartResume.ship || decide (l = .ship), r.restartResume.shore || decide (l = .shore)⟩
    let confirmed := r.suspendSet.restart && joined.ship && joined.shore
    let x : SuspendSet :=
      ⟨r.suspendSet.ship && decide (l ≠ .ship), r.suspendSet.shore && decide (l ≠ .shore), r.suspendSet.esd,
        r.suspendSet.restart && !confirmed⟩
    let back : Bool := decide (r.state = .suspended) && decide (x = ⟨false, false, false, false⟩)
    ∃ t, exec (.resume l tag pl) s = .next t
      ∧ t.parcel p = { r with
        state := if back then .transferring else r.state
        cycleTimer := if back then some (s.clock + tenths r.params.cyclePeriod) else r.cycleTimer
        suspendSet := x
        restartResume := if confirmed then ⟨false, false⟩ else if r.suspendSet.restart then joined
          else r.restartResume }
      ∧ RepliedFor s t l tag p .ok [] (stateNotices p r (t.parcel p) (.request .resume l))
      ∧ LampFollows p s t ∧ OnlyParcel p s t

/-- CLOSE in TRANSFERRING or SUSPENDED (R18, R20): with the settle condition it executes and is ACCEPTED; without it the
sender joins the close reservation and is answered RESERVED. CANCEL_CLOSE removes a party from the reservation (R19); a
party that is not in it is REFUSED_STATE. -/
def Obligations.CloseExecutesOrIsReserved : Prop :=
  (∀ (s : State) (l : Link) (tag : Byte) (pl : List Byte) (p : ParcelNo),
    s.serves l .close → Names pl 1 p →
    ((s.parcel p).state = .transferring ∨ (s.parcel p).state = .suspended) →
    (Settled s p →
      ∃ t, exec (.close l tag pl) s = .next t ∧ CloseExecuted p (s.parcel p) s t
        ∧ RepliedFor s t l tag p .accepted [] (stateNotices p (s.parcel p) (t.parcel p) (.request .close l)))
    ∧ (¬Settled s p →
      ∃ t, exec (.close l tag pl) s = .next t
        ∧ t.parcel p = { s.parcel p with
          closeReservation := ⟨(s.parcel p).closeReservation.ship || decide (l = .ship),
            (s.parcel p).closeReservation.shore || decide (l = .shore)⟩ }
        ∧ RepliedFor s t l tag p .reserved [] (stateNotices p (s.parcel p) (t.parcel p) (.request .close l))
        ∧ LampFollows p s t ∧ OnlyParcel p s t))
  ∧ ∀ (s : State) (l : Link) (tag : Byte) (pl : List Byte) (p : ParcelNo),
    s.serves l .cancelClose → Names pl 1 p →
    ((s.parcel p).state = .transferring ∨ (s.parcel p).state = .suspended) →
    ((s.parcel p).closeReservation.has l = true →
      ∃ t, exec (.cancelClose l tag pl) s = .next t
        ∧ t.parcel p = { s.parcel p with
          closeReservation := ⟨(s.parcel p).closeReservation.ship && decide (l ≠ .ship),
            (s.parcel p).closeReservation.shore && decide (l ≠ .shore)⟩ }
        ∧ RepliedFor s t l tag p .ok [] (stateNotices p (s.parcel p) (t.parcel p) (.request .cancelClose l))
        ∧ LampFollows p s t ∧ OnlyParcel p s t)
    ∧ ((s.parcel p).closeReservation.has l = false →
      ∃ t, exec (.cancelClose l tag pl) s = .next t ∧ TurnedAway s t l tag .refusedState)

/-- SETTLED_BY_TIME (R17, R19): a settle mark that is armed, with the no-flow time at SETTLE_TIME or more, is spent; a
reserved close then executes, and with no reservation nothing else happens. -/
def Obligations.SettleMarkCarriesOutTheReservation : Prop :=
  ∀ (s : State) (p : ParcelNo) (x : Nat),
    ((s.parcel p).state = .transferring ∨ (s.parcel p).state = .suspended) → (s.parcel p).settleArmed = true →
    (s.parcel p).noFlow s.clock = some x → (s.parcel p).params.settleTime ≤ x →
    ((s.parcel p).closeReservation = ⟨false, false⟩ →
      ∃ t, exec (.settledByTime p) s = .next t ∧ t = { s with parcels := t.parcels } ∧ OtherParcels p s t
        ∧ t.parcel p = { s.parcel p with settleArmed := false })
    ∧ ((s.parcel p).closeReservation ≠ ⟨false, false⟩ →
      ∃ t, exec (.settledByTime p) s = .next t
        ∧ CloseExecuted p { s.parcel p with settleArmed := false } s t
        ∧ Posted s t (stateNotices p (s.parcel p) (t.parcel p) .settledByTime))

/-- RESTORED_BY_TIME (R17, R121, R122): a restore mark that is armed, with the no-flow time at RESTORE_TIME or more, is
spent and the grade restored: grade 1, counter 0, both downshift flags clear, and GRADE_CHANGE when the grade was not 1. -/
def Obligations.RestoreMarkRestoresTheGrade : Prop :=
  ∀ (s : State) (p : ParcelNo) (x : Nat),
    ((s.parcel p).state = .transferring ∨ (s.parcel p).state = .suspended) → (s.parcel p).restoreArmed = true →
    (s.parcel p).noFlow s.clock = some x → (s.parcel p).params.restoreTime ≤ x →
    ∃ t, exec (.restoredByTime p) s = .next t
      ∧ t.parcel p = { s.parcel p with
        restoreArmed := false
        recon := { (s.parcel p).recon with
          grade := 1
          indeterminate := 0
          downFrom1 := false
          downFrom2 := false } }
      ∧ Posted s t (if (s.parcel p).recon.grade = 1 then []
        else [.gradeChange p (s.parcel p).recon.grade 1 .restoredByTime none false false (s.parcel p).lowestGrade])
      ∧ OnlyParcel p s t ∧ t.lines = s.lines

/-- RESTORE_GRADE (R123): from the survey link in TRANSFERRING and SUSPENDED it restores the grade as the restore mark
does, with cause RESTORE_GRADE, leaves the no-flow timer's marks, and is answered OK with grade, counter and flags; from
another link it is REFUSED_RIGHTS and in another state REFUSED_STATE. That the response's flags are one byte, a set, is the
model's choice (assumption 7). -/
def Obligations.RestoreGradeRestoresTheGrade : Prop :=
  ∀ (s : State) (l : Link) (tag : Byte) (pl : List Byte) (p : ParcelNo),
    s.takes l → s.store.verifying = false → Names pl 1 p →
    (l = .survey → ((s.parcel p).state = .transferring ∨ (s.parcel p).state = .suspended) →
      ∃ t, exec (.restoreGrade l tag pl) s = .next t
        ∧ t.parcel p = { s.parcel p with
          recon := { (s.parcel p).recon with
            grade := 1
            indeterminate := 0
            downFrom1 := false
            downFrom2 := false } }
        ∧ RepliedFor s t l tag p .ok [1, 0, 0] (if (s.parcel p).recon.grade = 1 then []
          else [.gradeChange p (s.parcel p).recon.grade 1 .restoreGrade none false false (s.parcel p).lowestGrade])
        ∧ OnlyParcel p s t ∧ t.lines = s.lines)
    ∧ (l ≠ .survey → ∃ t, exec (.restoreGrade l tag pl) s = .next t ∧ TurnedAway s t l tag .refusedRights)
    ∧ (l = .survey → (s.parcel p).state ≠ .transferring → (s.parcel p).state ≠ .suspended →
      ∃ t, exec (.restoreGrade l tag pl) s = .next t ∧ TurnedAway s t l tag .refusedState)

/-- CYCLE_TIMER_EXPIRY of a parcel in TRANSFERRING whose timer has reached its expiry (R110, R111): the timer reloads from
the expiry just reached; a CYCLE is placed, or, with one waiting or running, the overrun indication is set. PULSE_END once
the 100 ms of a lamp's PULSE have passed ends it, its base pattern running on (R212). A lamp's base pattern is that of the
first row of R211 that applies, it gives the light of its pattern from the beginning of its on phase, and during a PULSE the
inverse (R212). That a lamp is held as its pattern with the milliseconds of its phase and of its PULSE is the model's
reading (assumption 15). -/
def Obligations.CycleTimerAndPulseEnd : Prop :=
  (∀ r : Parcel,
    (r.recon.alarm = true → r.pattern = .fast)
    ∧ (r.recon.alarm = false →
      (r.state ∈ [.suspended, .awaitingAccept] → r.pattern = .slow)
      ∧ (r.state ∈ [.opening, .transferring, .closing] → r.pattern = .steady)
      ∧ (r.state ∈ [.declared, .basisAgreed, .closed, .disputed] → r.pattern = .dim)
      ∧ (r.state = .free → r.pattern = .off)))
  ∧ (∀ (s : State) (p : ParcelNo),
    let lamp := s.lines.lamp p
    let phase := s.msec - lamp.since
    let gives (base inverse : LampDrive) : Prop :=
      (lamp.pulseUntil = none → s.lampDrive p = base) ∧ (lamp.pulseUntil ≠ none → s.lampDrive p = inverse)
    (lamp.pattern = .fast →
      (phase % 250 < 125 → gives .on .off) ∧ (125 ≤ phase % 250 → gives .off .on))
    ∧ (lamp.pattern = .slow →
      (phase % 1000 < 500 → gives .on .off) ∧ (500 ≤ phase % 1000 → gives .off .on))
    ∧ (lamp.pattern = .steady → gives .on .off) ∧ (lamp.pattern = .dim → gives .tenPercent .ninetyPercent)
    ∧ (lamp.pattern = .off → gives .off .on))
  ∧ (∀ (s : State) (p : ParcelNo) (e : Instant),
    (s.parcel p).state = .transferring → (s.parcel p).cycleTimer = some e → 0 ≤ (s.clock - e).toInt →
    let busy := (s.engine.jobs p).cycle || s.engine.runs .cycle p
    ∃ t, exec (.cycleTimerExpiry p) s = .next t
      ∧ t = { s with parcels := t.parcels, engine := t.engine } ∧ OtherParcels p s t
      ∧ t.parcel p = { s.parcel p with
        cycleTimer := some (e + tenths (s.parcel p).params.cyclePeriod)
        overrun := (s.parcel p).overrun || busy }
      ∧ (busy = true → t.engine = s.engine) ∧ JobPlaced .cycle p s.engine t.engine)
  ∧ ∀ (s : State) (p : ParcelNo) (e : Nat), (s.lines.lamp p).pulseUntil = some e → e ≤ s.msec →
    ∃ t, exec (.pulseEnd p) s = .next t ∧ t = { s with lines := { s.lines with lamps := t.lines.lamps } }
      ∧ t.lines.lamp p = { s.lines.lamp p with pulseUntil := none }
      ∧ ∀ q, q ≠ p → t.lines.lamp q = s.lines.lamp q

/-! ### Closing and agreement -/

/-- REGAUGE and SET_LINE_ADJUST in AWAITING_ACCEPT with the revision below 3 call for a new revision (R135, R149): the
acceptance timer stops, the acceptance set is emptied, CLOSING is entered with a CLOSE job placed; ACCEPTED. At revision 3
they are REFUSED_STATE, and a value out of range is REFUSED_RANGE. SET_LINE_ADJUST in TRANSFERRING or SUSPENDED stores a
value in range and nothing else. -/
def Obligations.RegaugesAndLineAdjustments : Prop :=
  (∀ (s : State) (l : Link) (tag : Byte) (pl : List Byte) (p : ParcelNo) (c : Instr) (req : Req) (v : Int),
    s.serves l req → (s.parcel p).state = .awaitingAccept →
    (req = .regauge ∧ c = .regauge l tag pl ∧ Names pl 1 p ∧ v = (s.parcel p).lineAdjust
      ∨ req = .setLineAdjust ∧ c = .setLineAdjust l tag pl ∧ Names pl 5 p ∧ v = s32 pl 1) →
    ((s.parcel p).revision.getD 0 < 3 → (req = .setLineAdjust → -1000000 ≤ v ∧ v ≤ 1000000) →
      ∃ t, exec c s = .next t
        ∧ t.parcel p = { s.parcel p with
          state := .closing
          lineAdjust := v
          acceptTimer := none
          acceptance := ⟨false, false, false⟩ }
        ∧ JobPlaced .close p s.engine t.engine
        ∧ RepliedFor s t l tag p .accepted [] (stateNotices p (s.parcel p) (t.parcel p) (.request req l))
        ∧ t.store = s.store ∧ LampFollows p s t ∧ Within p s t ∧ AlarmKept s t)
    ∧ (3 ≤ (s.parcel p).revision.getD 0 → (req = .setLineAdjust → -1000000 ≤ v ∧ v ≤ 1000000) →
      ∃ t, exec c s = .next t ∧ TurnedAway s t l tag .refusedState)
    ∧ (req = .setLineAdjust → (v < -1000000 ∨ 1000000 < v) →
      ∃ t, exec c s = .next t ∧ TurnedAway s t l tag .refusedRange))
  ∧ ∀ (s : State) (l : Link) (tag : Byte) (pl : List Byte) (p : ParcelNo),
    s.serves l .setLineAdjust → Names pl 5 p →
    ((s.parcel p).state = .transferring ∨ (s.parcel p).state = .suspended) →
    (-1000000 ≤ s32 pl 1 → s32 pl 1 ≤ 1000000 →
      ∃ t, exec (.setLineAdjust l tag pl) s = .next t ∧ t.parcel p = { s.parcel p with lineAdjust := s32 pl 1 }
        ∧ RepliedFor s t l tag p .ok [] [] ∧ OnlyParcel p s t ∧ t.lines = s.lines)
    ∧ (s32 pl 1 < -1000000 ∨ 1000000 < s32 pl 1 →
      ∃ t, exec (.setLineAdjust l tag pl) s = .next t ∧ TurnedAway s t l tag .refusedRange)

/-- ACCEPT from a party and WITNESS from the survey link in AWAITING_ACCEPT (R145 to R147): another revision than the
current one is STALE_REVISION; the current one adds the sender, which completes the acceptance when every required member
is in it, the parcel then entering CLOSED with its transfer record built and a finalize queued (R151, R153). -/
def Obligations.AcceptancesAreCounted : Prop :=
  ∀ (s : State) (l : Link) (tag : Byte) (pl : List Byte) (p : ParcelNo) (c : Instr) (req : Req),
    s.serves l req → (req = .accept ∧ c = .accept l tag pl ∨ req = .witness ∧ c = .witness l tag pl) →
    Names pl 2 p → (s.parcel p).state = .awaitingAccept →
    let x : AcceptSet :=
      ⟨(s.parcel p).acceptance.ship || decide (l = .ship), (s.parcel p).acceptance.shore || decide (l = .shore),
        (s.parcel p).acceptance.survey || decide (l = .survey)⟩
    let complete := x.ship && x.shore && (x.survey || !(s.parcel p).witnessed)
    ((s.parcel p).revision = some (u8 pl 1) → complete = false →
      ∃ t, exec c s = .next t ∧ t.parcel p = { s.parcel p with acceptance := x }
        ∧ RepliedFor s t l tag p .ok (eAcceptSet x) [] ∧ OnlyParcel p s t ∧ t.lines = s.lines)
    ∧ ((s.parcel p).revision = some (u8 pl 1) → complete = true →
      ∃ t, exec c s = .next t ∧ OutcomeEntered p { s.parcel p with acceptance := x } none s t
        ∧ RepliedFor s t l tag p .ok (eAcceptSet x) (stateNotices p (s.parcel p) (t.parcel p) (.request req l))
        ∧ t.engine = s.engine ∧ AlarmKept s t)
    ∧ ((s.parcel p).revision ≠ some (u8 pl 1) →
      ∃ t, exec c s = .next t ∧ TurnedAway s t l tag .staleRevision)

/-- DISPUTE in AWAITING_ACCEPT takes the parcel into DISPUTED with the cause of its link (R148), and ACCEPT_TIMEOUT of a
timer that has reached its expiry with cause TIMEOUT (R144); each builds the transfer record of the current revision's
figures (R151, R153) and queues its finalize. -/
def Obligations.DisputeAndTimeoutEndAParcel : Prop :=
  (∀ (s : State) (l : Link) (tag : Byte) (pl : List Byte) (p : ParcelNo),
    s.serves l .dispute → Names pl 1 p → (s.parcel p).state = .awaitingAccept →
    ∃ t, exec (.dispute l tag pl) s = .next t
      ∧ OutcomeEntered p (s.parcel p) (some (if l = .ship then .partyShip else .partyShore)) s t
      ∧ RepliedFor s t l tag p .ok [] (stateNotices p (s.parcel p) (t.parcel p) (.request .dispute l))
      ∧ t.engine = s.engine ∧ AlarmKept s t)
  ∧ ∀ (s : State) (p : ParcelNo) (e : Instant),
    (s.parcel p).state = .awaitingAccept → (s.parcel p).acceptTimer = some e → 0 ≤ (s.clock - e).toInt →
    ∃ t, exec (.acceptTimeout p) s = .next t ∧ OutcomeEntered p (s.parcel p) (some .timeout) s t
      ∧ Posted s t (stateNotices p (s.parcel p) (t.parcel p) .acceptTimeout)
      ∧ t.engine = s.engine ∧ AlarmKept s t

/-- ABORT from the survey link (R22, R108, R111, R129): every job of the parcel is cancelled, its open set is emptied, its
overrun indication cleared and its alarm state NORMAL, and it enters DISPUTED with cause ABORTED; the alarm output
follows. Its transfer record is built of the revision, the latest cycle or no figures (R152, R153). -/
def Obligations.AbortEndsAParcel : Prop :=
  ∀ (s : State) (l : Link) (tag : Byte) (pl : List Byte) (p : ParcelNo),
    s.serves l .abort → Names pl 1 p →
    ((s.parcel p).state = .opening ∨ (s.parcel p).state = .transferring ∨ (s.parcel p).state = .suspended
      ∨ (s.parcel p).state = .closing ∨ (s.parcel p).state = .awaitingAccept) →
    ∃ t, exec (.abort l tag pl) s = .next t
      ∧ OutcomeEntered p { s.parcel p with
        openSet := ⟨false, false⟩
        overrun := false
        recon := { (s.parcel p).recon with alarm := false, divergent := 0, clear := 0 } } (some .aborted) s t
      ∧ t.engine.jobs p = ⟨false, false, false⟩ ∧ (∀ q, q ≠ p → t.engine.jobs q = s.engine.jobs q)
      ∧ t.engine.mark = s.engine.mark
      ∧ t.engine.running = (match s.engine.running with
        | some j => if j.parcel = p then none else some j
        | none => none)
      ∧ AlarmEnded (s.parcel p).recon.alarm s t
      ∧ RepliedFor s t l tag p .ok [] (stateNotices p (s.parcel p) (t.parcel p) (.request .abort l))

/-- ABANDON (R21): from any link in DECLARED and BASIS_AGREED it returns the parcel to FREE, writing no transfer record and
queuing no store operation, and is answered OK; in every other state it is REFUSED_STATE. -/
def Obligations.AbandonFreesAParcel : Prop :=
  ∀ (s : State) (l : Link) (tag : Byte) (pl : List Byte) (p : ParcelNo),
    s.takes l → s.store.verifying = false → Names pl 1 p →
    ((s.parcel p).state = .declared ∨ (s.parcel p).state = .basisAgreed →
      ∃ t, exec (.abandon l tag pl) s = .next t ∧ Freed p s t ∧ t.store = s.store
        ∧ (t.parcel p).state = .free ∧ (t.parcel p).record = none
        ∧ RepliedFor s t l tag p .ok [] (stateNotices p (s.parcel p) (t.parcel p) (.request .abandon l)))
    ∧ ((s.parcel p).state ≠ .declared → (s.parcel p).state ≠ .basisAgreed →
      ∃ t, exec (.abandon l tag pl) s = .next t ∧ TurnedAway s t l tag .refusedState)

/-- RELEASE in CLOSED or DISPUTED (R24): REFUSED_BUSY while the finalize is pending; from the survey link, or from the
party that completes the release set, the parcel returns to FREE; from the first party it joins the release set. -/
def Obligations.ReleaseFreesAParcel : Prop :=
  ∀ (s : State) (l : Link) (tag : Byte) (pl : List Byte) (p : ParcelNo),
    s.serves l .release → Names pl 1 p → ((s.parcel p).state = .closed ∨ (s.parcel p).state = .disputed) →
    let x : PartySet := ⟨(s.parcel p).releaseSet.ship || decide (l = .ship),
      (s.parcel p).releaseSet.shore || decide (l = .shore)⟩
    ((s.parcel p).finalizePending = true →
      ∃ t, exec (.release l tag pl) s = .next t ∧ TurnedAway s t l tag .refusedBusy)
    ∧ ((s.parcel p).finalizePending = false → (l = .survey ∨ x = ⟨true, true⟩) →
      ∃ t, exec (.release l tag pl) s = .next t ∧ Freed p s t
        ∧ RepliedFor s t l tag p .ok [] (stateNotices p (s.parcel p) (t.parcel p) (.request .release l)))
    ∧ ((s.parcel p).finalizePending = false → l ≠ .survey → x ≠ ⟨true, true⟩ →
      ∃ t, exec (.release l tag pl) s = .next t ∧ t.parcel p = { s.parcel p with releaseSet := x }
        ∧ RepliedFor s t l tag p .ok [] (stateNotices p (s.parcel p) (t.parcel p) (.request .release l))
        ∧ LampFollows p s t ∧ OnlyParcel p s t)

/-! ### Readings -/

/-- TANK_READING of 1..16 observations after start-up (R45 to R49, R54): each observation is examined in frame order, number,
repeat, tag and field ranges, tag match; an accepted one is stored with its sentinels held and joins the tank's ring; a
refused one has its code as its result and changes nothing. ATTITUDE_READING (R51): an attitude in range becomes ATT's latest
reading and the newest of its ring of two; one out of range is refused REFUSED_RANGE in its result. The bytes of a result
(its code by the table of R198), and that the attitude's one result stands in a list as a tank's does, its count byte 1
first, are the model's choice (assumption 7). -/
def Obligations.TankAndAttitudeReadingsAreStored : Prop :=
  (∀ held suspect : Bool, (ObsResult.tankOk held suspect).bytes = 0 :: shownSet 1 [held, false, suspect])
  ∧ (∀ c v, (c, v) ∈ codesShown → (ObsResult.refused c).bytes = [v])
  ∧ (∀ (s : State) (l : Link) (tag : Byte) (pl : List Byte),
    s.takes l → mayRequest .tankReading l = true → s.store.startingUp = false →
    1 ≤ u8 pl 0 → u8 pl 0 ≤ 16 → pl.length = 1 + 8 * u8 pl 0 →
    let obs (i : Nat) : TankObs :=
      ⟨u8 pl (1 + 8 * i), u8 pl (2 + 8 * i), u16 pl (3 + 8 * i), s16 pl (5 + 8 * i), u16 pl (7 + 8 * i)⟩
    let named (i : Nat) : Prop := 1 ≤ (obs i).tank ∧ (obs i).tank ≤ 16
    let first (i : Nat) : Prop := ∀ k < i, (obs k).tank ≠ (obs i).tank
    let ranged (i : Nat) : Prop := (obs i).tag ≤ 4 ∧ ((obs i).ullage ≤ 40000 ∨ (obs i).ullage = 65535)
      ∧ (-4000 ≤ (obs i).temp ∧ (obs i).temp ≤ 15000 ∨ (obs i).temp = -32768)
      ∧ ((obs i).dip ≤ 2000 ∨ (obs i).dip = 65535)
    let matched (i : Nat) : Prop := (obs i).tag = 0 ∨ ∃ q : ParcelNo, (s.tank (obs i).tank).owner = some q
      ∧ (obs i).tag = q.val + 1
    ∃ (t : State) (results : List ObsResult), exec (.tankReading l tag pl) s = .next t ∧ results.length = u8 pl 0
      ∧ Replied s t l tag (Reply.withFields .ok (eList ObsResult.bytes results)) []
      ∧ t = { s with tanks := t.tanks, ship := t.ship, shore := t.shore, survey := t.survey }
      ∧ (∀ n, (∀ i < u8 pl 0, named i → first i → ranged i → matched i → (obs i).tank ≠ n) → t.tank n = s.tank n)
      ∧ ∀ i < u8 pl 0,
        (¬named i → results[i]? = some (.refused .refusedRange))
        ∧ (named i → ¬first i → results[i]? = some (.refused .refusedFormat))
        ∧ (named i → first i → ¬ranged i → results[i]? = some (.refused .refusedRange))
        ∧ (named i → first i → ranged i → ¬matched i → results[i]? = some (.refused .tagMismatch))
        ∧ (named i → first i → ranged i → matched i →
          let old := s.tank (obs i).tank
          let reading : TankReading :=
            { ullage := if (obs i).ullage = 65535 then old.latest.bind (·.ullage) else some (obs i).ullage
              temp := if (obs i).temp = -32768 then old.latest.bind (·.temp) else some (obs i).temp
              dip := if (obs i).dip = 65535 then (old.latest.map (·.dip)).getD 0 else (obs i).dip
              arrival := s.clock }
          let held := decide ((obs i).ullage = 65535 ∨ (obs i).temp = -32768 ∨ (obs i).dip = 65535)
          let count := if held then min 255 (old.heldCount + 1) else 0
          let suspect := decide (3 ≤ count ∨ reading.ullage = none ∨ reading.temp = none)
          t.tank (obs i).tank = { old with
            latest := some reading
            held := held
            heldCount := count
            suspect := suspect
            ring := if old.owner = none then old.ring
              else (old.ring ++ [TankEntry.mk reading held]).drop (old.ring.length + 1 - old.depth) }
          ∧ results[i]? = some (.tankOk held suspect)))
  ∧ ∀ (s : State) (l : Link) (tag : Byte) (pl : List Byte),
    s.takes l → mayRequest .attitudeReading l = true → s.store.startingUp = false → pl.length = 4 →
    let ranged : Prop := -5000 ≤ s16 pl 0 ∧ s16 pl 0 ≤ 5000 ∧ -500 ≤ s16 pl 2 ∧ s16 pl 2 ≤ 500
    (ranged → ∃ t, exec (.attitudeReading l tag pl) s = .next t
      ∧ t = { s with att := t.att, ship := t.ship, shore := t.shore, survey := t.survey }
      ∧ t.att.latest = some ⟨s16 pl 0, s16 pl 2, s.clock⟩
      ∧ t.att.ring = (s.att.ring ++ [AttReading.mk (s16 pl 0) (s16 pl 2) s.clock]).drop (s.att.ring.length - 1)
      ∧ Replied s t l tag (Reply.withFields .ok [1, 0, 0]) [])
    ∧ (¬ranged → ∃ t, exec (.attitudeReading l tag pl) s = .next t ∧ OnlyLinks s t
      ∧ Replied s t l tag (Reply.withFields .ok [1, 0x12]) [])

/-- METER_READING of 1..8 observations after start-up (R45 to R50, R54, R57, R58, R16, R17): as TANK_READING for the
examination; a total that steps backward is held with REVERSE; an owned meter's ring takes the reading and its rate is
computed over it; a rate at the owner's FLOW_THRESHOLD sets the owner's last flowing instant and rearms its marks, in
TRANSFERRING, SUSPENDED, CLOSING and AWAITING_ACCEPT alone, and the no-flow time runs from that instant, or from the flow
reference where there is none (R16). The model's own reading: a meter reassigned while held takes its next total as given,
with REVERSE clear (assumption 18), and the bytes of an observation's result, its code by the table of R198 (assumption 7).
-/
def Obligations.MeterReadingsAreStored : Prop :=
  (∀ x : ParcelState, x.takesFlow = true ↔ x ∈ [.transferring, .suspended, .closing, .awaitingAccept])
  ∧ (∀ (r : Parcel) (now : Instant), (∀ t, r.lastFlow = some t → r.noFlow now = some (now - t).toNat)
    ∧ (r.lastFlow = none → r.noFlow now = r.flowRef.map (fun t => (now - t).toNat)))
  ∧ (∀ n o, stepsBack (some n) (some o) = decide (500000000 ≤ totalDelta n o) ∧ stepsBack none (some o) = false
    ∧ stepsBack (some n) none = false ∧ stepsBack none none = false)
  ∧ (∀ (held reverse suspect : Bool) (rate : Option Nat), (ObsResult.meterOk held reverse suspect rate).bytes
    = 0 :: shownSet 1 [held, reverse, suspect] ++ shownOpt (shownNat 4) rate)
  ∧ (∀ c v, (c, v) ∈ codesShown → (ObsResult.refused c).bytes = [v])
  ∧ ∀ (s : State) (l : Link) (tag : Byte) (pl : List Byte),
    s.takes l → mayRequest .meterReading l = true → s.store.startingUp = false →
    1 ≤ u8 pl 0 → u8 pl 0 ≤ 8 → pl.length = 1 + 10 * u8 pl 0 →
    let obs (i : Nat) : MeterObs :=
      ⟨u8 pl (1 + 10 * i), u8 pl (2 + 10 * i), u32 pl (3 + 10 * i), s16 pl (7 + 10 * i), u16 pl (9 + 10 * i)⟩
    let named (i : Nat) : Prop := 1 ≤ (obs i).meter ∧ (obs i).meter ≤ 8
    let first (i : Nat) : Prop := ∀ k < i, (obs k).meter ≠ (obs i).meter
    let ranged (i : Nat) : Prop := (obs i).tag ≤ 4 ∧ ((obs i).total ≤ 999999999 ∨ (obs i).total = 4294967295)
      ∧ (-4000 ≤ (obs i).temp ∧ (obs i).temp ≤ 15000 ∨ (obs i).temp = -32768)
      ∧ ((obs i).pressure ≤ 2500 ∨ (obs i).pressure = 65535)
    let matched (i : Nat) : Prop := (obs i).tag = 0 ∨ ∃ q : ParcelNo, (s.meter (obs i).meter).owner = some q
      ∧ (obs i).tag = q.val + 1
    let taken (i : Nat) : Prop := i < u8 pl 0 ∧ named i ∧ first i ∧ ranged i ∧ matched i
    ∃ (t : State) (results : List ObsResult), exec (.meterReading l tag pl) s = .next t ∧ results.length = u8 pl 0
      ∧ Replied s t l tag (Reply.withFields .ok (eList ObsResult.bytes results)) []
      ∧ t = { s with meters := t.meters, parcels := t.parcels, ship := t.ship, shore := t.shore, survey := t.survey }
      ∧ (∀ n, (∀ i, taken i → (obs i).meter ≠ n) → t.meter n = s.meter n)
      ∧ (∀ i < u8 pl 0,
        (¬named i → results[i]? = some (.refused .refusedRange))
        ∧ (named i → ¬first i → results[i]? = some (.refused .refusedFormat))
        ∧ (named i → first i → ¬ranged i → results[i]? = some (.refused .refusedRange))
        ∧ (named i → first i → ranged i → ¬matched i → results[i]? = some (.refused .tagMismatch))
        ∧ (taken i →
          let old := s.meter (obs i).meter
          let given : Option Nat := if (obs i).total = 4294967295 then none else some (obs i).total
          let reverse := decide (old.stepHold ≠ .ended) && stepsBack given (old.latest.bind (·.total))
          let reading : MeterReading :=
            { total := if reverse = true ∨ given = none then old.latest.bind (·.total) else given
              temp := if (obs i).temp = -32768 then old.latest.bind (·.temp) else some (obs i).temp
              pressure := if (obs i).pressure = 65535 then old.latest.bind (·.pressure) else some (obs i).pressure
              arrival := s.clock }
          let held := reverse || decide (given = none ∨ (obs i).temp = -32768 ∨ (obs i).pressure = 65535)
          let count := if held then min 255 (old.heldCount + 1) else 0
          let suspect := decide (3 ≤ count ∨ reading.total = none ∨ reading.temp = none ∨ reading.pressure = none)
          let ring := if old.owner = none then old.ring
            else (old.ring ++ [MeterEntry.mk reading held reverse]).drop (old.ring.length + 1 - old.depth)
          let rate := if old.owner = none then none else ringRate ring
          t.meter (obs i).meter = { old with
            latest := some reading
            held := held
            reverse := reverse
            heldCount := count
            suspect := suspect
            ring := ring
            rate := if rate = none then old.rate else rate
            stepHold := if given = none then old.stepHold else if reverse = true then .holding else .none }
          ∧ results[i]? = some (.meterOk held reverse suspect rate)))
      ∧ ∀ p : ParcelNo,
        ((∃ i rate h v x, taken i ∧ (s.meter (obs i).meter).owner = some p
            ∧ results[i]? = some (.meterOk h v x (some rate)) ∧ (s.parcel p).params.flowThreshold ≤ rate)
          ∧ (s.parcel p).state.takesFlow = true →
          t.parcel p = { s.parcel p with lastFlow := some s.clock, settleArmed := true, restoreArmed := true })
        ∧ (¬((∃ i rate h v x, taken i ∧ (s.meter (obs i).meter).owner = some p
            ∧ results[i]? = some (.meterOk h v x (some rate)) ∧ (s.parcel p).params.flowThreshold ≤ rate)
          ∧ (s.parcel p).state.takesFlow = true) → t.parcel p = s.parcel p)

/-! ### Reads -/

/-- READ_PARCEL, READ_TABLE and READ_RECORD whose own checks pass are answered by pages (R200) of the reply their rules form;
a parcel number, an item id or a sequence number that names none is REFUSED_RANGE. Of a FREE parcel the reply is its number,
its state and its RESTORE_LOST (R1). Of another it is every field of its record, byte by byte (`parcelShown`): those of
section 1.1, its sources (R60), jobs (R100), reconciliation (R133), closing (R158) and the status of its checkpoint (R25). An
offer stands in it with the content of its OFFER_BASIS, a table id sent without TAB aside, to every link once a basis is
held, and before that to its own party and the survey link alone, the other party seeing only whether it is there (R38). Of
an item it is the status and the lock, for a VALID one the check word and the image (R185), and of a history the entries,
counts and factor of R172 besides. Of a record it is the fields of the table of section 8.6 with its status, and for number 0
the list of the records held (R157). The bytes and their order (assumption 7), that a FREE parcel's reply has no checkpoint
status (assumption 17), the refusal of a page above 34 (assumption 11), the origins of the entries (assumption 6) and the
masses in the latest cycle and the opening figures (assumption 21) are the model's reading. -/
def Obligations.ReadsAreServedInPages : Prop :=
  (∀ (s : State) (p : ParcelNo) (l : Link), (s.parcel p).state = .free →
    s.parcelReply p l = [BitVec.ofNat 8 (p.val + 1), 1, if s.restoreLost.get p then 1 else 0])
  ∧ (∀ (s : State) (p : ParcelNo) (l : Link), (s.parcel p).state ≠ .free →
    s.parcelReply p l = s.parcelShown p l)
  ∧ (∀ (s : State) (p : ParcelNo) (l : Link), (s.parcel p).state ≠ .free →
    let r := s.parcel p
    (∃ before after, (s.setParcel p { r with shipOffer := none }).parcelReply p l = before ++ [0] ++ after
      ∧ ∀ o, (s.setParcel p { r with shipOffer := some o }).parcelReply p l
        = before ++ (if r.basis ≠ none ∨ l ≠ .shore then 1 :: eShipOffer o else [2]) ++ after)
    ∧ ∃ before after, (s.setParcel p { r with shoreOffer := none }).parcelReply p l = before ++ [0] ++ after
      ∧ ∀ o, (s.setParcel p { r with shoreOffer := some o }).parcelReply p l
        = before ++ (if r.basis ≠ none ∨ l ≠ .ship then 1 :: eShoreOffer o else [2]) ++ after)
  ∧ (∀ (pl : List Byte) (o : ShipOffer), Req.formed .offerBasis .ship pl → shipOfferOf pl = some o →
    (o.common.tab = true ∨ u8 pl 2 = 0) → eShipOffer o = pl.drop 1)
  ∧ (∀ (pl : List Byte) (o : ShoreOffer), Req.formed .offerBasis .shore pl → shoreOfferOf pl = some o →
    (o.common.tab = true ∨ u8 pl 2 = 0) → eShoreOffer o = pl.drop 1)
  ∧ (∀ (s : State) (id : Nat), ∃ rest : List Byte,
    (id ≠ 33 → id ≠ 34 → rest = [])
    ∧ (id = 33 → rest = match s.vefLoad with
      | none => []
      | some v => (s.store.item 33).historyShown v)
    ∧ (id = 34 → rest = match s.vefDischarge with
      | none => []
      | some v => (s.store.item 34).historyShown v)
    ∧ s.tableReply id = ([match s.store.reported id with | .empty => 1 | .valid => 2 | .invalid => 3 | .writing => 4,
        if (s.store.item id).lock then 1 else 0] : List Byte)
      ++ (if (s.store.item id).status = .valid then
        [(s.store.item id).check.extractLsb' 8 8, (s.store.item id).check.extractLsb' 0 8] ++ (s.store.item id).image
        else []) ++ rest)
  ∧ (∀ r : StoredRecord, eRecordEntry r = [BitVec.ofNat 8 (r.record.seq / 256), BitVec.ofNat 8 r.record.seq,
    BitVec.ofNat 8 (r.record.parcel.val + 1), if r.record.cause = none then 1 else 2,
    match r.status with | .empty => 1 | .valid => 2 | .invalid => 3])
  ∧ (∀ (s : State) (l : Link) (tag : Byte) (pl : List Byte) (p : ParcelNo), s.takes l → Names pl 2 p →
    ∃ t, exec (.readParcel l tag pl) s = .next t
      ∧ PageServed s t l tag .parcel (u8 pl 0) (u8 pl 1) (s.parcelReply p l))
  ∧ (∀ (s : State) (l : Link) (tag : Byte) (pl : List Byte), s.takes l → pl.length = 2 →
    (u8 pl 0 = 0 ∨ 4 < u8 pl 0) → ∃ t, exec (.readParcel l tag pl) s = .next t ∧ TurnedAway s t l tag .refusedRange)
  ∧ (∀ (s : State) (l : Link) (tag : Byte) (pl : List Byte), s.serves l .readTable → pl.length = 2 →
    (u8 pl 0 = 0 ∨ 34 < u8 pl 0) → ∃ t, exec (.readTable l tag pl) s = .next t ∧ TurnedAway s t l tag .refusedRange)
  ∧ (∀ (s : State) (l : Link) (tag : Byte) (pl : List Byte), s.serves l .readTable → pl.length = 2 →
    1 ≤ u8 pl 0 → u8 pl 0 ≤ 34 →
    (s.store.reported (u8 pl 0) ≠ .writing → ∃ t, exec (.readTable l tag pl) s = .next t
      ∧ PageServed s t l tag .table (u8 pl 0) (u8 pl 1) (s.tableReply (u8 pl 0)))
    ∧ (s.store.reported (u8 pl 0) = .writing → ∃ t, exec (.readTable l tag pl) s = .next t
      ∧ TurnedAway s t l tag .refusedBusy))
  ∧ ∀ (s : State) (l : Link) (tag : Byte) (pl : List Byte), s.serves l .readRecord → pl.length = 3 →
    (u16 pl 0 = 0 → ∃ t, exec (.readRecord l tag pl) s = .next t
      ∧ PageServed s t l tag .record 0 (u8 pl 2)
        (eList eRecordEntry (s.store.records.filter (fun r => !r.writing))))
    ∧ (∀ older r newer, u16 pl 0 ≠ 0 → s.store.records = older ++ r :: newer → r.writing = false →
      r.record.seq = u16 pl 0 → (∀ e ∈ older, e.writing = false → e.record.seq ≠ u16 pl 0) →
      ∃ t, exec (.readRecord l tag pl) s = .next t
        ∧ PageServed s t l tag .record (u16 pl 0) (u8 pl 2)
          (r.record.shown ++ shownIn [Status.empty, .valid, .invalid] r.status))
    ∧ (u16 pl 0 ≠ 0 → (∀ r ∈ s.store.records, r.writing = false → r.record.seq ≠ u16 pl 0) →
      ∃ t, exec (.readRecord l tag pl) s = .next t ∧ TurnedAway s t l tag .refusedRange)

/-! ### The table store -/

/-- TABLE_BEGIN opens the link's staging buffer with every byte 0, and TABLE_DATA places its run in it (R177, R178); an
id, a length, a count or a run out of range is REFUSED_RANGE, and data on a closed buffer REFUSED_STATE. -/
def Obligations.StagingHoldsTheImage : Prop :=
  (∀ (s : State) (l : Link) (tag : Byte) (pl : List Byte), s.serves l .tableBegin → pl.length = 3 →
    let good : Prop := 1 ≤ u8 pl 0 ∧ u8 pl 0 ≤ 34 ∧ 2 ≤ u16 pl 1 ∧ u16 pl 1 ≤ 4096 ∧ u16 pl 1 % 2 = 0
    (good → ∃ t, exec (.tableBegin l tag pl) s = .next t ∧ OnlyLinks s t
      ∧ RepliedFrom s t l { s.link l with staging := some ⟨u8 pl 0, u16 pl 1, List.replicate (u16 pl 1) 0⟩ } tag
        (Reply.plain .ok) [])
    ∧ (¬good → ∃ t, exec (.tableBegin l tag pl) s = .next t ∧ TurnedAway s t l tag .refusedRange))
  ∧ ∀ (s : State) (l : Link) (tag : Byte) (pl : List Byte), s.serves l .tableData → pl.length = 3 + u8 pl 2 →
    ((s.link l).staging = none →
      ∃ t, exec (.tableData l tag pl) s = .next t ∧ TurnedAway s t l tag .refusedState)
    ∧ ∀ g, (s.link l).staging = some g →
      let good : Prop := 1 ≤ u8 pl 2 ∧ u8 pl 2 ≤ 240 ∧ u16 pl 0 + u8 pl 2 ≤ g.length
      (good → ∃ t bytes, exec (.tableData l tag pl) s = .next t ∧ OnlyLinks s t
        ∧ RepliedFrom s t l { s.link l with staging := some { g with bytes := bytes } } tag (Reply.plain .ok) []
        ∧ (g.bytes.length = g.length → bytes.length = g.length
          ∧ (∀ i < u8 pl 2, bytes[u16 pl 0 + i]? = pl[3 + i]?)
          ∧ ∀ i, (i < u16 pl 0 ∨ u16 pl 0 + u8 pl 2 ≤ i) → bytes[i]? = g.bytes[i]?))
      ∧ (¬good → ∃ t, exec (.tableData l tag pl) s = .next t ∧ TurnedAway s t l tag .refusedRange)

/-- TABLE_COMMIT makes the checks of R179 in their order, each with its code; a REFUSED_BUSY keeps the staged image and
every other refusal closes the buffer; an accepted commit closes the buffer, queues the image and sets the item's write
indication (R181), and is ACCEPTED. The structure check of an image of each kind is that of R174: it passes when every
field is in its range and the length is that of the counts, and names the first field that is not. An item is written by the
links of the table of section 10.1, in use as R180 and R168 say, and reported WRITING while its write indication is set, else
by its stored status (R173); the sum is that of R175. The fields of a refusal
(a list of one item id, a two-byte offset, none for a full queue) and the field a wrong length names are the model's choice
(assumption 11). -/
def Obligations.CommitIsExaminedAndQueued : Prop :=
  (∀ (id : Nat) (img : List Byte), imageFault id img = ((imageFields id img).find? (fun f => !f.2)).map (·.1))
  ∧ wordSum [] = 0
  ∧ (∀ a b rest, wordSum (a :: b :: rest) = BitVec.ofNat 16 (256 * a.toNat + b.toNat) + wordSum rest)
  ∧ (∀ (id : Nat) (l : Link), 1 ≤ id → id ≤ 34 → (mayWriteItem id l = true ↔
    ((id ≤ 16 ∨ 33 ≤ id) ∧ l = .ship) ∨ (17 ≤ id ∧ id ≤ 24 ∧ l = .shore) ∨ (25 ≤ id ∧ id ≤ 32 ∧ l ≠ .ship)))
  ∧ (∀ (s : State) (id : Nat), 1 ≤ id → id ≤ 34 → (s.inUse id = true ↔
    (id ≤ 16 ∧ (s.tank id).owner ≠ none) ∨ (17 ≤ id ∧ id ≤ 24 ∧ (s.meter (id - 16)).owner ≠ none)
    ∨ (25 ≤ id ∧ id ≤ 32 ∧ ∃ p, (s.parcel p).state ≠ .free
      ∧ ((∃ o, (s.parcel p).shipOffer = some o ∧ o.common.tableId = some (id - 24))
        ∨ (∃ o, (s.parcel p).shoreOffer = some o ∧ o.common.tableId = some (id - 24))
        ∨ ∃ b, (s.parcel p).basis = some b ∧ b.tableId = some (id - 24)))
    ∨ (33 ≤ id ∧ ∃ p d, (s.parcel p).decl = some d ∧ (d.direction = .load ↔ id = 33)
      ∧ (s.parcel p).state ∈ [.opening, .transferring, .suspended, .closing, .awaitingAccept])))
  ∧ (∀ (st : Store) (id : Nat),
    let marked : Prop := (st.item id).commitPending = true ∨ ∃ w, st.writer = some w ∧ w.paused = false
      ∧ ((w.kind = .commit ∧ ∃ l clear image check, w.entry = .commit id l clear image check)
        ∨ (w.kind = .history ∧ ∃ p x, w.entry = .finalize p x
          ∧ id = if (x.decl.map (·.direction)).getD .load = .load then 33 else 34))
    (marked → st.reported id = .writing)
    ∧ (¬marked → st.reported id = match (st.item id).status with
      | .empty => .empty
      | .valid => .valid
      | .invalid => .invalid)
    ∧ (st.isValid id = true ↔ st.reported id = .valid))
  ∧ ∀ (s : State) (l : Link) (tag : Byte) (pl : List Byte), s.serves l .tableCommit → pl.length = 2 →
    ((s.link l).staging = none →
      ∃ t, exec (.tableCommit l tag pl) s = .next t ∧ TurnedAway s t l tag .refusedState)
    ∧ ∀ g, (s.link l).staging = some g →
      let closed : LinkState := { s.link l with staging := none }
      let check := BitVec.ofNat 16 (u16 pl 0)
      let rights := mayWriteItem g.item l = true
      let unlocked := (s.store.item g.item).lock = false
      let unused := s.inUse g.item = false
      let quiet := s.store.reported g.item ≠ .writing
      let sums := wordSum g.bytes + check = 0xFFFF
      let room := s.store.commitCount < 4
      let refusedWith (k : LinkState) (r : Reply) : Prop :=
        ∃ t, exec (.tableCommit l tag pl) s = .next t ∧ OnlyLinks s t ∧ RepliedFrom s t l k tag r []
      (¬rights → refusedWith closed (Reply.withFields .refusedRights (eList e1 [g.item])))
      ∧ (rights → ¬unlocked → refusedWith closed (Reply.withFields .refusedLocked (eList e1 [g.item])))
      ∧ (rights → unlocked → ¬unused → refusedWith closed (Reply.withFields .refusedState (eList e1 [g.item])))
      ∧ (rights → unlocked → unused → ¬quiet →
        refusedWith (s.link l) (Reply.withFields .refusedBusy (eList e1 [g.item])))
      ∧ (rights → unlocked → unused → quiet → ¬sums → refusedWith closed (Reply.plain .checkMismatch))
      ∧ (∀ off, rights → unlocked → unused → quiet → sums → imageFault g.item g.bytes = some off →
        refusedWith closed (Reply.withFields .refusedFormat (e2 off)))
      ∧ (rights → unlocked → unused → quiet → sums → imageFault g.item g.bytes = none → ¬room →
        refusedWith (s.link l) (Reply.plain .refusedBusy))
      ∧ (rights → unlocked → unused → quiet → sums → imageFault g.item g.bytes = none → room →
        1 ≤ g.item → g.item ≤ 34 →
        ∃ t, exec (.tableCommit l tag pl) s = .next t
          ∧ CommitPlaced g.item l false g.bytes check s.store t.store
          ∧ t = { s with store := t.store, ship := t.ship, shore := t.shore, survey := t.survey }
          ∧ RepliedFrom s t l closed tag (Reply.plain .accepted) [])

/-- LOCK_TABLE and UNLOCK_TABLE set and clear an item's witness lock at once (R176), and CLEAR_HISTORY of an unlocked
history that is neither in use nor WRITING, with room in the queue, queues the empty history from the ship link (R170,
R181); each refusal has its code. -/
def Obligations.LocksAndClears : Prop :=
  (∀ (s : State) (l : Link) (tag : Byte) (pl : List Byte) (c : Instr) (req : Req) (set : Bool),
    s.serves l req → pl.length = 1 →
    (req = .lockTable ∧ c = .lockTable l tag pl ∧ set = true
      ∨ req = .unlockTable ∧ c = .unlockTable l tag pl ∧ set = false) →
    (1 ≤ u8 pl 0 → u8 pl 0 ≤ 34 → ∃ t, exec c s = .next t
      ∧ t.store.item (u8 pl 0) = { s.store.item (u8 pl 0) with lock := set }
      ∧ OtherItems (u8 pl 0) s.store t.store ∧ t.store = { s.store with items := t.store.items }
      ∧ t = { s with store := t.store, ship := t.ship, shore := t.shore, survey := t.survey }
      ∧ Replied s t l tag (Reply.plain .ok) [])
    ∧ (¬(1 ≤ u8 pl 0 ∧ u8 pl 0 ≤ 34) → ∃ t, exec c s = .next t ∧ TurnedAway s t l tag .refusedRange))
  ∧ ∀ (s : State) (l : Link) (tag : Byte) (pl : List Byte) (id : Nat), s.serves l .clearHistory → pl.length = 1 →
    (¬(u8 pl 0 = 1 ∨ u8 pl 0 = 2) →
      ∃ t, exec (.clearHistory l tag pl) s = .next t ∧ TurnedAway s t l tag .refusedRange)
    ∧ (u8 pl 0 = 1 ∧ id = 33 ∨ u8 pl 0 = 2 ∧ id = 34 →
      let turned (c : Code) : Prop := ∃ t, exec (.clearHistory l tag pl) s = .next t ∧ TurnedAway s t l tag c
      ((s.store.item id).lock = true → turned .refusedLocked)
      ∧ ((s.store.item id).lock = false → s.inUse id = true → turned .refusedState)
      ∧ ((s.store.item id).lock = false → s.inUse id = false →
        (s.store.reported id = .writing ∨ 4 ≤ s.store.commitCount) → turned .refusedBusy)
      ∧ ((s.store.item id).lock = false → s.inUse id = false → s.store.reported id ≠ .writing →
        s.store.commitCount < 4 →
        ∃ t, exec (.clearHistory l tag pl) s = .next t
          ∧ CommitPlaced id .ship true [0, 0] 0xFFFF s.store t.store
          ∧ t = { s with store := t.store, ship := t.ship, shore := t.shore, survey := t.survey }
          ∧ Replied s t l tag (Reply.plain .accepted) []))

/-- VERIFY_STORE makes the store VERIFYING at once and is ACCEPTED; VERIFY_PASS_START begins the pass once no write is being
made; VERIFY_COMPLETE of a pass (R186, R187) makes failing items INVALID, drops failing records and INVALID checkpoints with
RESTORE_LOST, computes the factor of an INVALID history, and reports to the survey link alone. A record or checkpoint passes
its check when it is VALID and its words with its check word sum to 0xFFFF (R175). That a dropped checkpoint item holds no
content, word sum 0 and check word 0 is the model's choice (assumption 13). -/
def Obligations.VerificationWaitsPassesAndEnds : Prop :=
  (∀ r : StoredRecord, r.passes = true ↔ r.status = .valid ∧ r.wordSum + r.check = 0xFFFF)
  ∧ (∀ c : CheckpointItem, c.passes = true ↔ c.status = .valid ∧ c.wordSum + c.check = 0xFFFF)
  ∧ (∀ (s : State) (l : Link) (tag : Byte) (pl : List Byte), s.serves l .verifyStore → pl = [] →
    ∃ t, exec (.verifyStore l tag pl) s = .next t ∧ t.store = { s.store with verify := .waiting }
      ∧ t = { s with store := t.store, ship := t.ship, shore := t.shore, survey := t.survey }
      ∧ Replied s t l tag (Reply.plain .accepted) [])
  ∧ (∀ s : State, s.store.verify = .waiting → (∀ w, s.store.writer = some w → w.paused = true) →
    exec .verifyPassStart s = .next { s with store := { s.store with verify := .running s.msec } })
  ∧ ∀ (s : State) (began : Nat), s.store.verify = .running began →
    ∃ t, exec .verifyComplete s = .next t ∧ t.store.verify = .idle ∧ t.store.queue = s.store.queue
      ∧ t.store.nextSeq = s.store.nextSeq ∧ t.store.records = s.store.records.filter StoredRecord.passes
      ∧ (s.store.writer = none → PassMade s.store t.store ∧ t.store.writer = none
        ∧ (∀ p, s.store.dropped p → t.store.checkpoint p = ⟨.empty, none, 0, 0⟩)
        ∧ ∀ p, ¬s.store.dropped p → t.store.checkpoint p = s.store.checkpoint p)
      ∧ (∀ p, s.store.dropped p → t.restoreLost.get p = true)
      ∧ (∀ p, ¬s.store.dropped p → t.restoreLost.get p = s.restoreLost.get p)
      ∧ (s.store.writer = none → (t.store.item 33).status = .invalid →
        t.vefLoad = some ⟨.unavailable .historyInvalid, 0, none, [], 0, none⟩)
      ∧ (s.store.writer = none → (t.store.item 33).status ≠ .invalid → t.vefLoad = s.vefLoad)
      ∧ (s.store.writer = none → (t.store.item 34).status = .invalid →
        t.vefDischarge = some ⟨.unavailable .historyInvalid, 0, none, [], 0, none⟩)
      ∧ (s.store.writer = none → (t.store.item 34).status ≠ .invalid → t.vefDischarge = s.vefDischarge)
      ∧ t.ship = s.ship.transmit ∧ t.shore = s.shore.transmit
      ∧ (∃ items records drops, t.survey = (s.survey.place ⟨s.clock, .verified items records drops⟩).transmit
        ∧ (∀ id, id ∈ items ↔ 1 ≤ id ∧ id ≤ 34 ∧ (s.store.item id).status = .valid
          ∧ wordSum (s.store.item id).image + (s.store.item id).check ≠ 0xFFFF)
        ∧ records = (s.store.records.filter (fun r => !r.passes)).map (·.record.seq)
        ∧ ∀ p, p ∈ drops ↔ s.store.dropped p)
      ∧ t = { s with
        store := t.store
        restoreLost := t.restoreLost
        vefLoad := t.vefLoad
        vefDischarge := t.vefDischarge
        ship := t.ship
        shore := t.shore
        survey := t.survey }

/-- WRITE_START of an idle write unit with no verification takes the oldest entry and begins its first write at block 1
with the stored status INVALID (R156, R183, R184): the item of a commit, a checkpoint item, or a record slot as the newest,
the oldest of eight being removed. That the stored status is INVALID from the start of the write, by R183 and R189 and not
as before until its end (R181), is the model's reading (assumption 23). The entries of a committed history are IMPORTED
(R169), their origins standing beside the image (assumption 6). The block count of a checkpoint or record image is
free within its limit (assumption 1). -/
def Obligations.WriteUnitTakesTheOldestEntry : Prop :=
  ∀ (s : State) (e : QueueEntry) (rest : List QueueEntry), s.store.verify = .idle → s.store.writer = none →
    s.store.queue = e :: rest →
    ∃ (t : State) (w : ActiveWrite), exec .writeStart s = .next t ∧ t.store.queue = rest ∧ t.store.writer = some w
      ∧ w.entry = e ∧ w.block = 1 ∧ w.paused = false ∧ t.store.verify = .idle ∧ t.store.nextSeq = s.store.nextSeq
      ∧ t = { s with store := t.store, freeDraws := t.freeDraws }
      ∧ match e with
        | .commit id _ _ image check =>
          w.kind = .commit ∧ 64 * (w.blocks - 1) < image.length + 2 ∧ image.length + 2 ≤ 64 * w.blocks
            ∧ w.image = image ∧ w.check = check
            ∧ (id = 33 ∨ id = 34 → w.origins = List.replicate (u16 image 0) .imported) ∧ OtherItems id s.store t.store
            ∧ (1 ≤ id → id ≤ 34 → t.store.item id = { s.store.item id with status := .invalid })
            ∧ t.store.records = s.store.records ∧ t.store.checkpoints = s.store.checkpoints
            ∧ t.freeDraws = s.freeDraws
        | .checkpoint p _ =>
          w.kind = .checkpoint ∧ 1 ≤ w.blocks ∧ w.blocks ≤ 16
            ∧ t.store.checkpoint p = { s.store.checkpoint p with status := .invalid }
            ∧ (∀ q, q ≠ p → t.store.checkpoint q = s.store.checkpoint q)
            ∧ t.store.items = s.store.items ∧ t.store.records = s.store.records
        | .finalize _ record =>
          w.kind = .record ∧ 1 ≤ w.blocks ∧ w.blocks ≤ 12
            ∧ (∃ r, r.status = .invalid ∧ r.writing = true ∧ r.record = record
              ∧ (s.store.records.length < 8 → t.store.records = s.store.records ++ [r])
              ∧ (s.store.records.length = 8 → t.store.records = s.store.records.tail ++ [r]))
            ∧ t.store.items = s.store.items ∧ t.store.checkpoints = s.store.checkpoints

/-- BLOCK_WRITE_DONE (R25, R161, R181, R183, R184): an equal block that is not the last goes on to the next, every item's
image and check word as before; the last equal block ends the write well, VALID or for a clear EMPTY, with the new content;
an unequal one ends it with WRITE_FAULT at its block. What a checkpoint request copies of its parcel is what R26 lists. A
commit's ending goes to its link and the survey link; a checkpoint that ends VALID clears RESTORE_LOST. That an append and a
checkpoint keep their earlier content until the end as well, and that a fault leaves it beside the status INVALID, is the
model's reading (assumption 13). -/
def Obligations.BlockWritesEndCommitsAndCheckpoints : Prop :=
  (∀ (s : State) (p : ParcelNo), let r := s.parcel p
    s.checkpointCopy p =
      { decl := r.decl
        params := r.params
        tanks := ((List.range' 1 16).filter (fun n => (s.tank n).owner = some p)).map (fun n => (n, (s.tank n).depth))
        meters := ((List.range' 1 8).filter (fun n => (s.meter n).owner = some p)).map (fun n => (n, (s.meter n).depth))
        basis := r.basis
        shipOffer := r.shipOffer
        shoreOffer := r.shoreOffer
        opening := r.opening
        run := r.run
        cycle := r.cycle
        alarmsRaised := r.alarmsRaised
        lowestGrade := r.lowestGrade })
  ∧ ∀ (s : State) (w : ActiveWrite), s.store.writer = some w → w.paused = false →
    (w.block < w.blocks →
      exec (.blockWriteDone true) s
        = .next { s with store := { s.store with writer := some { w with block := w.block + 1 } } })
    ∧ (∀ id l clear image check, w.entry = .commit id l clear image check → 1 ≤ id → id ≤ 34 →
      let result (status : Status) (ending : CommitEnding) (content : Item) (equal : Bool) : Prop :=
        ∃ t, exec (.blockWriteDone equal) s = .next t
          ∧ t.store.item id = { content with status := status, commitPending := false }
          ∧ OtherItems id s.store t.store
          ∧ t.store = { s.store with items := t.store.items, writer := none }
          ∧ (∀ m, t.link m = ((s.link m).placeAll s.clock (if m = l ∨ m = .survey then
            [.tableResult id l ending image.length check] else [])).transmit)
          ∧ t.vefLoad = (if id = 33 then some (vefOfItem (t.store.item 33)) else s.vefLoad)
          ∧ t.vefDischarge = (if id = 34 then some (vefOfItem (t.store.item 34)) else s.vefDischarge)
          ∧ t = { s with
            store := t.store
            vefLoad := t.vefLoad
            vefDischarge := t.vefDischarge
            ship := t.ship
            shore := t.shore
            survey := t.survey }
      (w.blocks ≤ w.block → result (if clear then .empty else .valid) (if clear then .empty else .valid)
        { s.store.item id with image := w.image, check := w.check, origins := w.origins } true)
      ∧ result .invalid (.writeFault w.block) (s.store.item id) false)
    ∧ ∀ p copy, w.entry = .checkpoint p copy → w.kind = .checkpoint →
      (w.blocks ≤ w.block → ∃ t, exec (.blockWriteDone true) s = .next t
        ∧ (t.store.checkpoint p).status = .valid ∧ (t.store.checkpoint p).content = some copy
        ∧ (t.store.checkpoint p).passes = true
        ∧ (∀ q, q ≠ p → t.store.checkpoint q = s.store.checkpoint q ∧ t.restoreLost.get q = s.restoreLost.get q)
        ∧ t.restoreLost.get p = false
        ∧ t.store = { s.store with checkpoints := t.store.checkpoints, writer := none }
        ∧ Posted s t []
        ∧ t = { s with
          store := t.store
          restoreLost := t.restoreLost
          ship := t.ship
          shore := t.shore
          survey := t.survey })
      ∧ ∃ t, exec (.blockWriteDone false) s = .next t ∧ t.store = { s.store with writer := none } ∧ Posted s t []
        ∧ t = { s with store := t.store, ship := t.ship, shore := t.shore, survey := t.survey }

/-- BLOCK_WRITE_DONE takes a finalize through its three writes, a fault in one not stopping the next (R154, R155, R165, R166,
R184): the record slot takes its ending; the history write follows where the record qualifies; the checkpoint clear follows;
with its end finalize pending returns to no and OUTCOME_STORED reports the endings. A record qualifies when its outcome is
AGREED and its ship and shore figures lie within 100,000..999,999,999, which are then the entry (R165). While a verification
waits or runs the remaining writes wait, and its completion begins the next of them (R187). The model's own reading: the
history is INVALID once its append begins (assumption 23), and the checkpoint once its clear begins (assumption 19); an
append or a clear that ends with a fault leaves the item's earlier content beside its status, and a cleared checkpoint item
holds no content, word sum 0 and check word 0 (assumption 13). -/
def Obligations.FinalizeGoesThroughItsWrites : Prop :=
  (∀ (x : TransferRecord) (a b : Int), voyageEntry x = some (a, b) ↔ x.cause = none ∧ x.ship = some a
    ∧ x.shore = some b ∧ 100000 ≤ a ∧ a ≤ 999999999 ∧ 100000 ≤ b ∧ b ≤ 999999999)
  ∧ historyId .load = 33 ∧ historyId .discharge = 34
  ∧ (∀ i : Item, i.verified = if i.status = .valid ∧ wordSum i.image + i.check ≠ 0xFFFF then { i with status := .invalid }
    else i)
  ∧ (∀ (s : State) (w : ActiveWrite) (p : ParcelNo) (x : TransferRecord) (equal : Bool),
    s.store.writer = some w → w.paused = false → w.entry = .finalize p x → (equal = true → w.blocks ≤ w.block) →
    (w.kind = .record →
      ∃ t, exec (.blockWriteDone equal) s = .next t
        ∧ t.store.records = s.store.records.map (fun r => if r.writing then
          { r with writing := false, status := if equal then .valid else .invalid } else r)
        ∧ (s.store.verify ≠ .idle → t.store.writer = some { w with recordStored := equal, paused := true })
        ∧ (s.store.verify = .idle → ∀ e, voyageEntry x = some e →
          ∃ v, t.store.writer = some v ∧ v.kind = .history ∧ v.block = 1 ∧ v.paused = false ∧ v.entry = w.entry
            ∧ v.recordStored = equal ∧ v.appended = true
            ∧ v.image = historyImage (appendedEntries
              (s.store.item (historyId ((x.decl.map (·.direction)).getD .load))) e)
            ∧ (t.store.item (historyId ((x.decl.map (·.direction)).getD .load))).status = .invalid)
        ∧ (s.store.verify = .idle → voyageEntry x = none →
          (∃ v, t.store.writer = some v ∧ v.kind = .clearCheckpoint ∧ v.block = 1 ∧ v.blocks = 1 ∧ v.paused = false
            ∧ v.entry = w.entry ∧ v.recordStored = equal ∧ v.historyStored = true ∧ v.appended = false)
          ∧ (t.store.checkpoint p).status = .invalid)
        ∧ t.parcels = s.parcels ∧ Posted s t [])
    ∧ (w.kind = .clearCheckpoint →
      ∃ t, exec (.blockWriteDone equal) s = .next t ∧ t.store.writer = none
        ∧ t.store.checkpoint p = (if equal then ⟨.empty, none, 0, 0⟩ else s.store.checkpoint p)
        ∧ t.parcel p = { s.parcel p with finalizePending := false } ∧ OtherParcels p s t
        ∧ Posted s t [.outcomeStored p x.seq x.cause w.appended w.recordStored w.historyStored equal]
        ∧ t.store = { s.store with checkpoints := t.store.checkpoints, writer := none }
        ∧ t = { s with
          parcels := t.parcels
          store := t.store
          ship := t.ship
          shore := t.shore
          survey := t.survey })
    ∧ (w.kind = .history → s.store.verify = .idle →
      let d := (x.decl.map (·.direction)).getD .load
      ∃ t, exec (.blockWriteDone equal) s = .next t
        ∧ t.store.item (historyId d) = (if equal then
          { s.store.item (historyId d) with
            status := .valid
            image := w.image
            check := w.check
            origins := w.origins }
          else { s.store.item (historyId d) with status := .invalid })
        ∧ t.vef d = some (vefOfItem (t.store.item (historyId d)))
        ∧ (∃ v, t.store.writer = some v ∧ v.kind = .clearCheckpoint ∧ v.block = 1 ∧ v.paused = false
          ∧ v.entry = w.entry ∧ v.historyStored = equal ∧ v.recordStored = w.recordStored)
        ∧ (t.store.checkpoint p).status = .invalid ∧ t.parcels = s.parcels ∧ Posted s t [])
    ∧ (w.kind = .history → s.store.verify ≠ .idle →
      ∃ t, exec (.blockWriteDone equal) s = .next t
        ∧ t.store.writer = some { w with historyStored := equal, paused := true }
        ∧ t.store.checkpoints = s.store.checkpoints ∧ t.parcels = s.parcels ∧ Posted s t []))
  ∧ ∀ (s : State) (w : ActiveWrite) (p : ParcelNo) (x : TransferRecord) (began : Nat),
    s.store.verify = .running began → s.store.writer = some w → w.paused = true → w.entry = .finalize p x →
    let next (t : State) : Prop := exec .verifyComplete s = .next t ∧ t.store.verify = .idle
      ∧ t.store.queue = s.store.queue
    let begun (v : ActiveWrite) : Prop := v.block = 1 ∧ v.paused = false ∧ v.entry = w.entry
      ∧ v.recordStored = w.recordStored
    let id := historyId ((x.decl.map (·.direction)).getD .load)
    (w.kind = .record → ∀ e, voyageEntry x = some e →
      ∃ t, next t ∧ (t.store.item id).status = .invalid
        ∧ ∃ v, t.store.writer = some v ∧ begun v ∧ v.kind = .history ∧ v.appended = true
          ∧ v.image = historyImage (appendedEntries (s.store.item id).verified e))
    ∧ (w.kind = .record → voyageEntry x = none →
      ∃ t, next t ∧ (t.store.checkpoint p).status = .invalid
        ∧ ∃ v, t.store.writer = some v ∧ begun v ∧ v.kind = .clearCheckpoint ∧ v.blocks = 1 ∧ v.historyStored = true
          ∧ v.appended = false)
    ∧ (w.kind = .history →
      ∃ t, next t ∧ (t.store.checkpoint p).status = .invalid
        ∧ ∃ v, t.store.writer = some v ∧ begun v ∧ v.kind = .clearCheckpoint ∧ v.blocks = 1
          ∧ v.historyStored = w.historyStored ∧ v.appended = w.appended)

/-! ### Status, calendar, silence -/

/-- STATUS is answered OK with the fields of R203, the calendar time being that of the part clock (R205), and clears the
requesting link's NOTICE_LOST (R202); SET_CALENDAR stores its value with the instant it was taken (R205); SILENCE_ALARM sets
the latch and deasserts the output while a parcel is in ALARM, and otherwise changes nothing, and reports latch and output
(R210). The codes and the order of the STATUS bytes (assumption 7), and that SET_CALENDAR is taken during start-up
verification as well (assumption 24), are the model's reading. -/
def Obligations.StatusCalendarAndSilence : Prop :=
  ∀ (s : State) (l : Link) (tag : Byte) (pl : List Byte), s.takes l →
    let yes (b : Bool) : Byte := if b then 1 else 0
    let second (b : Bool) : Byte := if b then 2 else 1
    let four (t : BitVec 32) : List Byte :=
      [t.extractLsb' 24 8, t.extractLsb' 16 8, t.extractLsb' 8 8, t.extractLsb' 0 8]
    let states : List ParcelState := [.free, .declared, .basisAgreed, .opening, .transferring, .suspended, .closing,
      .awaitingAccept, .closed, .disputed]
    (s.anyAlarm = true ↔ ∃ p, (s.parcel p).recon.alarm = true)
    ∧ (pl = [] → ∃ t, exec (.status l tag pl) s = .next t ∧ OnlyLinks s t
      ∧ RepliedFrom s t l { s.link l with lost := false } tag (Reply.withFields .ok (s.statusFields l)) []
      ∧ s.statusFields l =
        [if s.resetCause = .powerOn then 1 else 2] ++ allParcels.map (fun p => yes (s.restoreLost.get p))
        ++ [if s.store.verify ≠ .idle then 1 else if s.store.writer = none then 2 else 3,
          BitVec.ofNat 8 s.store.queue.length, BitVec.ofNat 8 s.poolFree]
        ++ allParcels.flatMap (fun p =>
          BitVec.ofNat 8 (states.idxOf (s.parcel p).state + 1) :: (if (s.parcel p).state = .free then []
            else [BitVec.ofNat 8 (s.parcel p).recon.grade, second (s.parcel p).recon.alarm]))
        ++ second (!s.lines.esd.level) :: allParcels.map (fun n => second (!(s.lines.mv.get n).level))
        ++ [second (!s.lines.alarmOut), second (!s.lines.silence), second s.straps.esdPol, second s.straps.baudShip,
          second s.straps.baudShore, second s.straps.baudSurvey]
        ++ four s.clock
        ++ (match s.calendar with
          | none => [0]
          | some c => 1 :: four (c.value + BitVec.ofInt 32 (roundDiv (s.clock - c.setAt).toInt 10)))
        ++ [yes (s.link l).lost])
    ∧ (pl.length = 4 → l = .survey → ∃ t, exec (.setCalendar l tag pl) s = .next t
      ∧ t = { s with
        calendar := some ⟨BitVec.ofNat 32 (u32 pl 0), s.clock⟩
        ship := t.ship
        shore := t.shore
        survey := t.survey }
      ∧ Replied s t l tag (Reply.plain .ok) [])
    ∧ (pl = [] → ∃ t, exec (.silenceAlarm l tag pl) s = .next t
      ∧ t = { s with lines := t.lines, ship := t.ship, shore := t.shore, survey := t.survey }
      ∧ t.lines = { s.lines with silence := t.lines.silence, alarmOut := t.lines.alarmOut }
      ∧ (s.anyAlarm = true → t.lines.silence = true ∧ t.lines.alarmOut = false)
      ∧ (s.anyAlarm = false → AlarmKept s t)
      ∧ Replied s t l tag
        (Reply.withFields .ok [if t.lines.silence then 1 else 2, if t.lines.alarmOut then 1 else 2]) [])

/-! ### Requests as a whole -/

/-- Every request a link takes is answered by exactly one response (R195), and a response whose code is a refusal comes
with no notice and no change but on the links (R2); only a refused TABLE_COMMIT may change its own link's staging
(R179). -/
def Obligations.EveryRequestHasOneResponse : Prop :=
  ∀ (s : State) (r : Req) (l : Link) (tag : Byte) (pl : List Byte), s.takes l →
    ∃ (t : State) (k : LinkState) (reply : Reply) (bs : List NoticeBody), exec (r.command l tag pl) s = .next t
      ∧ RepliedFrom s t l k tag reply bs
      ∧ k = { s.link l with staging := k.staging, readBuffer := k.readBuffer, lost := k.lost }
      ∧ (reply.code ≠ .ok → reply.code ≠ .accepted → reply.code ≠ .reserved →
        OnlyLinks s t ∧ bs = [] ∧ k = { s.link l with staging := k.staging }
          ∧ (r ≠ .tableCommit → k = s.link l))

/-- The checks every request meets, in their order (R2, R195, R196): rights, with each request's code and links by the table
of R196, the store verifying, the form, the parcel
number, the state by the table of section 1.2, DECLARE finding its parcel. The form check is that of every request, also of
the readings (R45), the store's (R177 to R179, R185, R187), READ_RECORD (R157), STATUS (R203) and SILENCE_ALARM (R210). The
fields that begin an accepted response are those of R2, in the order of the model's choice (assumption 7). That
an offer's presence byte above 1 is a matter of form is the model's reading (assumption 7), and so is that a TABLE_COMMIT of
a wrong length is turned away with its staged image kept (assumption 11). -/
def Obligations.RequestsMeetTheCommonChecks : Prop :=
  (let table : List (Req × Nat × Bool × Bool × Bool) :=
      [(.declare, 0x01, true, true, false), (.setParameter, 0x02, true, true, false),
        (.assignTank, 0x03, true, false, false), (.unassignTank, 0x04, true, false, false),
        (.assignMeter, 0x05, false, true, false), (.unassignMeter, 0x06, false, true, false),
        (.offerBasis, 0x07, true, true, false), (.openParcel, 0x08, true, true, false),
        (.suspend, 0x09, true, true, false), (.resume, 0x0A, true, true, false), (.close, 0x0B, true, true, false),
        (.cancelClose, 0x0C, true, true, false), (.regauge, 0x0D, true, true, false),
        (.accept, 0x0E, true, true, false), (.dispute, 0x0F, true, true, false),
        (.setLineAdjust, 0x10, false, true, false), (.witness, 0x11, false, false, true),
        (.abort, 0x12, false, false, true), (.restoreGrade, 0x13, false, false, true),
        (.release, 0x14, true, true, true), (.abandon, 0x15, true, true, true),
        (.readParcel, 0x16, true, true, true), (.tankReading, 0x20, true, false, false),
        (.attitudeReading, 0x21, true, false, false), (.meterReading, 0x22, false, true, false),
        (.tableBegin, 0x30, true, true, true), (.tableData, 0x31, true, true, true),
        (.tableCommit, 0x32, true, true, true), (.readTable, 0x33, true, true, true),
        (.lockTable, 0x34, false, false, true), (.unlockTable, 0x35, false, false, true),
        (.verifyStore, 0x36, false, false, true), (.clearHistory, 0x37, true, false, false),
        (.readRecord, 0x40, true, true, true), (.status, 0x50, true, true, true),
        (.silenceAlarm, 0x51, true, true, true), (.setCalendar, 0x52, false, false, true)]
    ∀ r : Req, (r, r.code, mayRequest r .ship, mayRequest r .shore, mayRequest r .survey) ∈ table)
  ∧ (∀ (s : State) (p : ParcelNo), let r := s.parcel p
    s.parcelFields p = shownParcel p ++ shownState r.state ++ shownParties r.openSet ++ shownSuspend r.suspendSet
      ++ shownParties r.restartResume ++ shownParties r.closeReservation ++ shownParties r.releaseSet)
  ∧ (∀ st : Store, (st.verifying = false ↔ st.verify = .idle)
    ∧ (st.startingUp = true ↔ ∃ began, st.verify = .startup began))
  ∧ ∀ (s : State) (r : Req) (l : Link) (tag : Byte) (pl : List Byte), s.takes l →
    let turned (c : Code) : Prop := ∃ t, exec (r.command l tag pl) s = .next t ∧ TurnedAway s t l tag c
    (mayRequest r l = false → turned .refusedRights)
    ∧ (mayRequest r l = true → s.store.verifying = true →
      r ∉ [.readParcel, .tankReading, .attitudeReading, .meterReading, .status, .silenceAlarm, .setCalendar] →
      turned .refusedBusy)
    ∧ (s.store.startingUp = true → mayRequest r l = true → r ∈ [.tankReading, .attitudeReading, .meterReading] →
      turned .refusedBusy)
    ∧ (s.attends l r → ¬r.formed l pl → turned .refusedFormat)
    ∧ (s.attends l r → r.namesParcel = true → r.formed l pl →
      ((u8 pl 0 = 0 ∨ 4 < u8 pl 0) → turned .refusedRange)
      ∧ (∀ p, parcelOf (u8 pl 0) = some p → r.takenIn (s.parcel p).state = false →
        r.busyIn (s.parcel p).state = false → turned .refusedState)
      ∧ (∀ p, parcelOf (u8 pl 0) = some p → r.busyIn (s.parcel p).state = true → turned .refusedBusy))
    ∧ (s.serves l r → r = .declare → r.formed l pl →
      (u8 pl 0 = 0 → (∀ p, (s.parcel p).state ≠ .free) → turned .refusedFull)
      ∧ (∀ p : ParcelNo, u8 pl 0 = p.val + 1 → (s.parcel p).state ≠ .free → turned .refusedState)
      ∧ (4 < u8 pl 0 → turned .refusedRange))

/-! ### The links -/

/-- BYTE_RECEIVED (R193) moves the framer byte by byte: SYNC, LEN within 2..250, the bytes that LEN and the CRC call for; a
wrong LEN or CRC returns it to HUNTING; after a gap of more than 20 ms the byte is looked at as a first SYNC byte; in BREAK
no byte reaches it. -/
def Obligations.FramerFollowsTheBytes : Prop :=
  ∀ (s : State) (l : Link) (b : Byte),
    let k := s.link l
    let gap : Prop := k.framer ≠ .hunting false ∧ k.lastByte + 20 < s.msec
    let moves (f : Framer) : Prop :=
      exec (.byteReceived l b) s = .next (s.setLink l { k with framer := f, lastByte := s.msec })
    (k.condition = .broken → exec (.byteReceived l b) s = .next s)
    ∧ (k.condition = .normal → gap → moves (.hunting (decide (b = 0xC5))))
    ∧ (k.condition = .normal → ¬gap → ∀ saw, k.framer = .hunting saw →
      (saw = true ∧ b = 0x3A → moves (.receiving []))
      ∧ (¬(saw = true ∧ b = 0x3A) → moves (.hunting (decide (b = 0xC5)))))
    ∧ (k.condition = .normal → ¬gap → k.framer = .receiving [] →
      (2 ≤ b.toNat ∧ b.toNat ≤ 250 → moves (.receiving [b]))
      ∧ (¬(2 ≤ b.toNat ∧ b.toNat ≤ 250) → moves (.hunting false)))
    ∧ (k.condition = .normal → ¬gap → ∀ len rest, k.framer = .receiving (len :: rest) → 2 ≤ len.toNat →
      len.toNat ≤ 250 →
      let got := len :: rest ++ [b]
      (got.length < len.toNat + 3 → moves (.receiving got))
      ∧ (got.length = len.toNat + 3 → (crc (got.take (len.toNat + 1))).toNat ≠ u16 got (len.toNat + 1) →
        moves (.hunting false)))

/-- The bytes of a whole frame (R192, R193), received one by one without a gap on a link in NORMAL that hunts, do exactly
what the command of that frame does: the request its KIND names with its TAG and PAYLOAD, or UNKNOWN_REQUEST for any other
KIND (R195, R196). That a request command stands for its whole frame is the model's reading (assumption 8). -/
def Obligations.BytesOfAFrameAreItsCommand : Prop :=
  ∀ (s : State) (l : Link) (tag : Byte) (pl : List Byte) (saw : Bool),
    (s.link l).condition = .normal → (s.link l).framer = .hunting saw → pl.length ≤ 248 →
    let start := s.setLink l { s.link l with lastByte := s.msec }
    (∀ r : Req, ∃ t, exec (r.command l tag pl) start = .next t
      ∧ s.after ((frameBytes (BitVec.ofNat 8 r.code) tag pl).map (.byteReceived l)) = t)
    ∧ ∀ kind : Byte, (∀ r : Req, r.code ≠ kind.toNat) → ∃ t, exec (.unknownRequest l kind tag pl) start = .next t
      ∧ s.after ((frameBytes kind tag pl).map (.byteReceived l)) = t

/-- UNKNOWN_REQUEST is answered with its code alone (R195); FRAME_DISCARD, INTER_BYTE_GAP and RESPONSE_LIST_FULL_DISCARD
return the framer to HUNTING and change nothing else (R193). LINK_BREAK empties the link's lists and buffers, clears
NOTICE_LOST and stops its frame; in BREAK no request is taken; LINK_BREAK_END leaves the link NORMAL and HUNTING
(R194). That a request command, its whole frame, then changes nothing in BREAK and no more than the framer where 8 responses
wait is the model's reading (assumption 8). -/
def Obligations.LinksDiscardAndBreak : Prop :=
  ∀ (s : State) (l : Link),
    let k := s.link l
    let hunts := s.setLink l { k with framer := .hunting false }
    (∀ (kind tag : Byte) (pl : List Byte), s.takes l → (∀ r : Req, r.code ≠ kind.toNat) →
      ∃ t, exec (.unknownRequest l kind tag pl) s = .next t ∧ TurnedAway s t l tag .unknownRequest)
    ∧ (∀ bytes, k.framer = .receiving bytes → exec (.frameDiscard l) s = .next hunts)
    ∧ (k.framer ≠ .hunting false → k.lastByte + 20 < s.msec → exec (.interByteGap l) s = .next hunts)
    ∧ (k.condition = .normal → 8 ≤ k.responses.length → exec (.responseListFullDiscard l) s = .next hunts
      ∧ ∀ (r : Req) (tag : Byte) (pl : List Byte), exec (r.command l tag pl) s = .next hunts)
    ∧ exec (.linkBreak l) s = .next (s.setLink l
      { baudFast := k.baudFast
        condition := .broken
        framer := .hunting false
        lastByte := k.lastByte
        responses := []
        notices := []
        lost := false
        staging := none
        readBuffer := none
        tx := .idle })
    ∧ (k.condition = .broken →
      exec (.linkBreakEnd l) s = .next (s.setLink l { k with condition := .normal, framer := .hunting false })
      ∧ ∀ (r : Req) (tag : Byte) (pl : List Byte), exec (r.command l tag pl) s = .next s)

/-- FRAME_SENT of a transmitter that sends (R199): a response leaves the list as it is sent; the oldest response goes next,
else the oldest notice, which leaves its queue, else nothing. A notice (R202) goes in as the newest of up to 16; a full queue
gives up its oldest CYCLE_RESULT, and without one the notice is dropped with NOTICE_LOST set; none in BREAK. A frame has the
layout and the CRC of R192: a response with KIND 0x80, its TAG, its code by the table, its flags and its fields (R198); a
notice with KIND 0x81, TAG 0, the code of its kind, the instant it was posted and its fields (R201, R197). The order and the
encoding of the fields where no rule gives them are the model's reading (assumption 7). -/
def Obligations.ResponsesGoBeforeNotices : Prop :=
  (∀ r : Response, ∃ v, (r.code, v) ∈ codesShown
    ∧ r.frame = frameShown 0x80 r.tag (v :: shownSet 1 [r.clamped, r.truncated] ++ r.fields))
  ∧ (∀ n : Notice, n.frame = frameShown 0x81 0 (n.body.kindShown :: shownTime n.posted ++ n.body.shown))
  ∧ (∀ (kind tag : Byte) (pl : List Byte), frameBytes kind tag pl = frameShown kind tag pl)
  ∧ crc [] = 0xFFFF
  ∧ (∀ (bytes : List Byte) (b : Byte), crc (bytes ++ [b]) = (List.range 8).foldl
    (fun r _ => if r.msb then (r <<< 1) ^^^ 0x1021 else r <<< 1) (crc bytes ^^^ (b.setWidth 16 <<< 8)))
  ∧ (∀ (s : State) (l : Link),
    let k := s.link l
    let left := match k.tx with
      | .response _ => k.responses.drop 1
      | _ => k.responses
    k.condition = .normal → k.tx ≠ .idle →
    (∀ r more, left = r :: more →
      exec (.frameSent l) s = .next (s.setLink l { k with responses := left, tx := .response r.frame }))
    ∧ (left = [] → ∀ n more, k.notices = n :: more →
      exec (.frameSent l) s = .next (s.setLink l
        { k with responses := [], notices := more, tx := .notice n.frame }))
    ∧ (left = [] → k.notices = [] → exec (.frameSent l) s = .next (s.setLink l { k with responses := [], tx := .idle })))
  ∧ ∀ (k : LinkState) (n : Notice),
    (k.condition = .broken → k.place n = k)
    ∧ (k.condition = .normal → k.notices.length < 16 → k.place n = { k with notices := k.notices ++ [n] })
    ∧ (k.condition = .normal → 16 ≤ k.notices.length →
      (∀ older c newer, k.notices = older ++ c :: newer → c.body.isCycleResult = true →
        (∀ x ∈ older, x.body.isCycleResult = false) → k.place n = { k with notices := older ++ newer ++ [n] })
      ∧ ((∀ x ∈ k.notices, x.body.isCycleResult = false) → k.place n = { k with lost := true }))

/-! ### The discrete inputs -/

/-- LOOP_LEVEL_CHANGE reads the loop (R206, R207): 4 mA or more is current, 1 mA or less none, and between the two the level
last read stands; the candidate starts or runs on at the other level, and a return drops it before 50 ms have passed.
INPUT_CHANGE of SPARE, and of a manifold valve that opens, is recognized after 50 ms and posts INPUT_CHANGE with the six
levels, and nothing else (R208). Two clauses are the model's own (assumption 14): the current is given in microamperes, and
a loop that has returned once its 50 ms have passed, but before INPUT_CHANGE, keeps its candidate. -/
def Obligations.InputsAreRecognized : Prop :=
  (∀ (s : State) (i : InputName) (microamps : Nat),
    let old := s.lines.input i
    let level (current : Bool) : Bool := if i = .esd ∧ s.straps.esdPol = false then !current else current
    ∃ (t : State) (x : InputState), exec (.loopLevelChange i microamps) s = .next t
      ∧ t = s.setLines (s.lines.setInput i x) ∧ x.microamps = microamps ∧ x.level = old.level
      ∧ (4000 ≤ microamps → x.lastRead = some (level true)) ∧ (microamps ≤ 1000 → x.lastRead = some (level false))
      ∧ (1000 < microamps → microamps < 4000 → x.lastRead = old.lastRead)
      ∧ (x.lastRead.getD old.level ≠ old.level → x.candidate = some (old.candidate.getD s.msec))
      ∧ (x.lastRead.getD old.level = old.level →
        (old.candidate = none → x.candidate = none)
        ∧ ∀ since, old.candidate = some since →
          (s.msec < since + 50 → x.candidate = none) ∧ (since + 50 ≤ s.msec → x.candidate = some since)))
  ∧ ∀ (s : State) (i : InputName) (since : Nat),
    let old := s.lines.input i
    old.candidate = some since → since + 50 ≤ s.msec →
    (i = .spare ∨ ∃ n, i = .mv n ∧ old.level = true) →
    ∃ t, exec (.inputChange i) s = .next t
      ∧ t.lines = s.lines.setInput i { old with level := !old.level, candidate := none }
      ∧ Posted s t [.inputChange i (!old.level)
        ([InputName.esd, .mv 0, .mv 1, .mv 2, .mv 3, .spare].map (fun j => (t.lines.input j).level))]
      ∧ t = { s with lines := t.lines, ship := t.ship, shore := t.shore, survey := t.survey }

/-- INPUT_CHANGE of ESD and of a manifold valve that closes (R12, R14, R19, R20, R106, R208): ESD joins every parcel in
transfer and suspends those in TRANSFERRING; its end leaves every parcel and resumes those with no reason left; a closed
valve executes the reserved closes of the parcels that name it. One PARCEL_STATE for each parcel changed, ascending. Each
parcel that enters SUSPENDED has its checkpoint requested, the other entries of the queue staying in place (R25). That the
ESD member leaves a parcel in whatever state, as R12 words it, is the model's reading beside R23 (assumption 16). -/
def Obligations.ShutdownAndValvesReachTheParcels : Prop :=
  ∀ (s : State) (i : InputName) (since : Nat),
    let old := s.lines.input i
    old.candidate = some since → since + 50 ≤ s.msec →
    ∃ t, exec (.inputChange i) s = .next t
      ∧ (let notice := NoticeBody.inputChange i (!old.level)
          ([InputName.esd, .mv 0, .mv 1, .mv 2, .mv 3, .spare].map (fun j => (t.lines.input j).level))
        let touched (p : ParcelNo) : Prop := LampFollows p s t
        let apart (p : ParcelNo) : Prop := t.parcel p = s.parcel p ∧ t.lines.lamp p = s.lines.lamp p
        (i = .esd → old.level = false →
          (∀ p, (s.parcel p).state = .transferring →
            t.parcel p = { s.parcel p with
              state := .suspended
              suspendSet := { (s.parcel p).suspendSet with esd := true }
              cycleTimer := none }
            ∧ t.engine.jobs p = { s.engine.jobs p with cycle := false } ∧ touched p)
          ∧ CheckpointsPlaced (fun p => decide ((s.parcel p).state = .transferring)) t.checkpointCopy s.store.queue
            t.store.queue
          ∧ (∀ p, (s.parcel p).state = .suspended →
            t.parcel p = { s.parcel p with suspendSet := { (s.parcel p).suspendSet with esd := true } }
            ∧ t.engine.jobs p = s.engine.jobs p ∧ touched p)
          ∧ (∀ p, (s.parcel p).inTransfer = false → apart p ∧ t.engine.jobs p = s.engine.jobs p)
          ∧ t.engine.mark = s.engine.mark
          ∧ t.engine.running = s.engine.running.map (fun j =>
            if j.kind = .cycle ∧ (s.parcel j.parcel).state = .transferring then { j with voided := true } else j)
          ∧ t.store = { s.store with queue := t.store.queue } ∧ AlarmKept s t
          ∧ Posted s t
            (notice :: allParcels.flatMap (fun p => stateNotices p (s.parcel p) (t.parcel p) .esdActive)))
        ∧ (i = .esd → old.level = true →
          (∀ p, (s.parcel p).suspendSet.esd = true →
            let x := { (s.parcel p).suspendSet with esd := false }
            t.parcel p = (if (s.parcel p).state = .suspended ∧ x = ⟨false, false, false, false⟩ then
              { s.parcel p with
                state := .transferring
                suspendSet := x
                cycleTimer := some (s.clock + tenths (s.parcel p).params.cyclePeriod) }
              else { s.parcel p with suspendSet := x })
            ∧ touched p)
          ∧ (∀ p, (s.parcel p).suspendSet.esd = false → apart p)
          ∧ t.engine = s.engine ∧ t.store = s.store ∧ AlarmKept s t
          ∧ Posted s t
            (notice :: allParcels.flatMap (fun p => stateNotices p (s.parcel p) (t.parcel p) .esdInactive)))
        ∧ ∀ n : ParcelNo, i = .mv n → old.level = false →
          let closes (p : ParcelNo) : Prop := (s.parcel p).params.valveInput = n.val + 1
            ∧ (s.parcel p).closeReservation ≠ ⟨false, false⟩ ∧ (s.parcel p).inTransfer = true
          (∀ p, closes p →
            t.parcel p = (s.parcel p).closingRecord ∧ touched p
            ∧ (t.engine.jobs p).openJob = (s.engine.jobs p).openJob
            ∧ (t.engine.jobs p).cycle = ((s.engine.jobs p).cycle && !decide ((s.parcel p).state = .transferring))
            ∧ (t.engine.jobs p).close = ((s.engine.jobs p).close || !s.engine.runs .close p))
          ∧ (∀ p, ¬closes p → apart p ∧ t.engine.jobs p = s.engine.jobs p)
          ∧ t.engine.mark = s.engine.mark
          ∧ (∀ j, s.engine.running = some j → ∃ v : Bool, t.engine.running = some { j with voided := v }
            ∧ (v = true ↔ j.voided = true
              ∨ (j.kind = .cycle ∧ closes j.parcel ∧ (s.parcel j.parcel).state = .transferring)))
          ∧ (s.engine.running = none → t.engine.running = none)
          ∧ t.store = s.store
          ∧ ((∃ p, closes p ∧ (s.parcel p).recon.alarm = true) → t.anyAlarm = false →
            t.lines.silence = false ∧ t.lines.alarmOut = false)
          ∧ ((∀ p, closes p → (s.parcel p).recon.alarm = false) ∨ t.anyAlarm = true → AlarmKept s t)
          ∧ Posted s t
            (notice :: allParcels.flatMap (fun p => stateNotices p (s.parcel p) (t.parcel p) .settleValve)))
      ∧ (t.lines.input i).level = (!old.level) ∧ (t.lines.input i).candidate = none
      ∧ (∀ j, j ≠ i → t.lines.input j = s.lines.input j)
      ∧ t = { s with
        parcels := t.parcels
        engine := t.engine
        store := t.store
        lines := t.lines
        ship := t.ship
        shore := t.shore
        survey := t.survey }

/-! ### Figures -/

/-- The part's arithmetic: a division is the nearest integer, a half going away from zero (R61); a section is interpolated
between adjacent rows, gives a row's value at its key, and is clamped and marked beyond its ends (R63, R64), its rows being
those of the stored image in their order (section 10.2); a rate is 600 times the forward amount over the ring's tenths, and
none over fewer than two entries or without totals (R57). A volume factor is that of its method (R72 to R75) brought into
850,000..1,150,000 with VCF_LIMIT where it was moved (R76), and a pressure factor that of R92. -/
def Obligations.DivisionsAreNearestAndLookupsInterpolate : Prop :=
  (∀ img : List Byte,
    let nc := u16 img 2
    let nt := u16 img 4
    tankTableOf img =
      { refHeight := u16 img 0
        calibration := (List.range nc).map (fun k => ((u16 img (8 + 6 * k) : Int), (u32 img (10 + 6 * k) : Int)))
        trim := (List.range nt).map (fun k => (s16 img (8 + 6 * nc + 4 * k), s16 img (10 + 6 * nc + 4 * k)))
        list := (List.range (u16 img 6)).map (fun k =>
          (s16 img (8 + 6 * nc + 4 * nt + 4 * k), s16 img (10 + 6 * nc + 4 * nt + 4 * k))) }
    ∧ expansionOf img = (List.range (u16 img 0)).map (fun k => (s16 img (2 + 6 * k), (u32 img (4 + 6 * k) : Int))))
  ∧ (∀ n d : Int, 0 < d →
    2 * (roundDiv n d * d - n).natAbs ≤ d.natAbs
    ∧ (2 * (roundDiv n d * d - n).natAbs = d.natAbs → n.natAbs < (roundDiv n d * d).natAbs))
  ∧ (∀ (section_ : List (Int × Int)) (x : Int), section_.Pairwise (fun a b => a.1 < b.1) →
    (∀ k v rest, section_ = (k, v) :: rest → x < k → interp section_ x = ⟨v, true⟩)
    ∧ (∀ before k v, section_ = before ++ [(k, v)] → k < x → interp section_ x = ⟨v, true⟩)
    ∧ (∀ before k v after, section_ = before ++ (k, v) :: after → x = k → interp section_ x = ⟨v, false⟩)
    ∧ ∀ before k0 v0 k1 v1 after, section_ = before ++ (k0, v0) :: (k1, v1) :: after → k0 ≤ x → x ≤ k1 →
      interp section_ x = ⟨v0 + roundDiv ((v1 - v0) * (x - k0)) (k1 - k0), false⟩)
  ∧ (∀ (a b : MeterEntry) (between : List MeterEntry),
    ringRate [] = none ∧ ringRate [a] = none
    ∧ (∀ x y, a.reading.total = some x → b.reading.total = some y → a.reading.arrival ≠ b.reading.arrival →
      ∃ v, ringRate (a :: between ++ [b]) = some v
        ∧ 2 * (v * (b.reading.arrival - a.reading.arrival).toNat)
          ≤ 2 * (totalDelta y x * 600) + (b.reading.arrival - a.reading.arrival).toNat
        ∧ 2 * (totalDelta y x * 600)
          < 2 * (v * (b.reading.arrival - a.reading.arrival).toNat) + (b.reading.arrival - a.reading.arrival).toNat)
    ∧ (a.reading.total = none ∨ b.reading.total = none ∨ a.reading.arrival = b.reading.arrival →
      ringRate (a :: between ++ [b]) = none))
  ∧ (∀ (b : Basis) (alpha : Nat) (expansion : List (Int × Int)) (temp : Int), b.alpha = some alpha →
    let x := roundDiv (alpha * (temp - b.refTemp)) 100
    let raw : Int := match b.method with
      | .lin => 1000000 - x
      | .quad => 1000000 - x - roundDiv (8 * x ^ 2) 10000000
      | .tab => (interp expansion temp).value
    let f := volumeFactor b expansion temp
    (b.method = .tab → f.2.1 = (interp expansion temp).clamped) ∧ (b.method ≠ .tab → f.2.1 = false)
    ∧ (850000 ≤ raw → raw ≤ 1150000 → f.1 = raw ∧ f.2.2 = false)
    ∧ (raw < 850000 → f.1 = 850000 ∧ f.2.2 = true) ∧ (1150000 < raw → f.1 = 1150000 ∧ f.2.2 = true)
    ∧ (b.method ≠ .tab → temp = b.refTemp → f = (1000000, false, false)))
  ∧ (∀ (b : Basis) (expansion : List (Int × Int)) (temp : Int), b.method = .tab →
    let raw := interp expansion temp
    volumeFactor b expansion temp = (max 850000 (min 1150000 raw.value), raw.clamped,
      decide (raw.value < 850000 ∨ 1150000 < raw.value)))
  ∧ ∀ (b : Basis) (p : Nat),
    (b.pressure = .on → pressureFactor b p = 1000000 + roundDiv (b.compress * p) 100
      ∧ (b.compress ≤ 500 → p ≤ 2500 → 1000000 ≤ pressureFactor b p ∧ pressureFactor b p ≤ 1012500))
    ∧ (b.pressure = .off → pressureFactor b p = 1000000)

/-- The ship side (sections 4.4 to 4.8). A tank figure record holds the reading, attitude and flags of R66, R78 and R79;
where its steps are made, Ct and Cl at the attitude (R67), U + Ct + Cl brought to the calibration's keys with CLAMPED (R68),
TOV at it (R69), FWV by its mode, capped at TOV (R70), GOV in 0..TOV (R71), and VCF and GSV (R77), or their substitutes
under a TAB basis without its table (R79); where they are not, its substitutes (R78, R79). The totals are sums (R80), the
ship figure's sign follows the direction (R81), and a mass is the volume at D, or at D - 11 in air (R82). What a record
leaves absent of steps not made, and NO_ATTITUDE raised where ATT is NEVER, are the model's reading (assumption 10). -/
def Obligations.GrossObservedVolumeIsBounded : Prop :=
  (∀ (b : Basis) (expansionValid attNever : Bool) (expansion : List (Int × Int)) (c : TankCopy),
    let f := tankFigure b expansionValid expansion attNever c
    let noTable : Prop := b.method = .tab ∧ expansionValid = false
    f.tank = c.number ∧ f.att = c.att
    ∧ (f.flags.noReading = true ↔ c.latest = none)
    ∧ (f.flags.noUllage = true ↔ ∃ r, c.latest = some r ∧ r.ullage = none)
    ∧ (f.flags.noTemp = true ↔ ∃ r, c.latest = some r ∧ r.temp = none)
    ∧ f.flags.noAttitude = attNever
    ∧ (f.flags.table = true ↔ c.tableValid = false ∨ noTable)
    ∧ (c.latest = none → f.instant = none ∧ f.ullage = none ∧ f.temp = none ∧ f.dip = none)
    ∧ (∀ r, c.latest = some r →
      f.instant = some r.arrival ∧ f.ullage = r.ullage ∧ f.temp = some (r.temp.getD b.refTemp) ∧ f.dip = some r.dip)
    ∧ (c.latest = none ∨ (∃ r, c.latest = some r ∧ r.ullage = none) ∨ c.tableValid = false →
      f.ct = none ∧ f.cl = none ∧ f.uc = none ∧ f.tov = 0 ∧ f.fwv = 0 ∧ f.gov = 0 ∧ f.gsv = 0 ∧ f.vcf = 1000000
      ∧ f.flags.trimLimit = false ∧ f.flags.listLimit = false ∧ f.flags.clamped = false ∧ f.flags.waterLimit = false
      ∧ f.flags.fwCapped = false ∧ f.flags.expLimit = false ∧ f.flags.vcfLimit = false)
    ∧ ∀ r u, c.latest = some r → r.ullage = some u → c.tableValid = true →
      let ct := interp c.table.trim ((c.att.map (·.trim)).getD 0)
      let cl := interp c.table.list ((c.att.map (·.list)).getD 0)
      let sum : Int := u + ct.value + cl.value
      let vcf := volumeFactor b expansion (r.temp.getD b.refTemp)
      f.ct = some ct.value ∧ f.cl = some cl.value ∧ f.flags.trimLimit = ct.clamped ∧ f.flags.listLimit = cl.clamped
      ∧ (∀ lo hi, (c.table.calibration.head?).map (·.1) = some lo → (c.table.calibration.getLast?).map (·.1) = some hi →
        lo ≤ hi → f.uc = some (max lo (min hi sum)) ∧ (f.flags.clamped = true ↔ sum < lo ∨ hi < sum))
      ∧ (∀ uc, f.uc = some uc → f.tov = (interp c.table.calibration uc).value)
      ∧ (b.freeWater = .none ∨ r.dip = 0 → f.fwv = min f.tov 0 ∧ f.flags.waterLimit = false
        ∧ (f.flags.fwCapped = true ↔ f.tov < 0))
      ∧ (b.freeWater = .measured → 0 < r.dip →
        let water := interp c.table.calibration (c.table.refHeight - (r.dip : Int))
        f.fwv = min f.tov water.value ∧ f.flags.waterLimit = water.clamped
          ∧ (f.flags.fwCapped = true ↔ f.tov < water.value))
      ∧ f.gov = f.tov - f.fwv
      ∧ (¬noTable → f.vcf = vcf.1 ∧ f.flags.expLimit = vcf.2.1 ∧ f.flags.vcfLimit = vcf.2.2
        ∧ f.gsv = roundDiv (f.gov * f.vcf) 1000000)
      ∧ (noTable → f.vcf = 1000000 ∧ f.gsv = 0 ∧ f.flags.expLimit = false ∧ f.flags.vcfLimit = false))
  ∧ (∀ (b : Basis) (expansionValid attNever : Bool) (expansion : List (Int × Int)) (c : TankCopy),
    c.table.calibration.Pairwise (fun x y => x.1 < y.1) → (∀ row ∈ c.table.calibration, 0 ≤ row.2) →
    let f := tankFigure b expansionValid expansion attNever c
    f.gov = f.tov - f.fwv ∧ 0 ≤ f.fwv ∧ 0 ≤ f.gov ∧ f.gov ≤ f.tov)
  ∧ (∀ (c : JobCopy) (b : Basis), (c.tankFigures b).length = c.tanks.length
    ∧ ∀ (k : Nat) (t : TankCopy), c.tanks[k]? = some t →
      (c.tankFigures b)[k]? = some (tankFigure b c.expansionValid c.expansion c.att.isNone t))
  ∧ (∀ fs : List TankFigure, tankTotals fs
    = ⟨(fs.map (·.tov)).sum, (fs.map (·.fwv)).sum, (fs.map (·.gov)).sum, (fs.map (·.gsv)).sum⟩)
  ∧ (∀ opening current : Int, shipFigure .discharge opening current = opening - current
    ∧ shipFigure .load opening current = current - opening)
  ∧ ∀ (b : Basis) (v : Int), (b.massBasis = .vac → mass b v = roundDiv (v * b.density) 10000)
    ∧ (b.massBasis = .air → mass b v = roundDiv (v * ((b.density : Int) - 11)) 10000)
    ∧ mass b (-v) = -mass b v

/-- The shore side (sections 5.1 to 5.6). S is the earliest of the latest readings of the tanks and ATT, by age at the job's
start, or the start where there is none (R83). A meter is brought to S between the entries that carry a total and bracket it
(R86), else to its newest entry, or its oldest after S, unbracketed, or to nothing (R87). Its increment is the forward amount
from the last aligned total, none for a step of half the modulus or more, without a total or without a base (R88). Its
record holds these (R85), the gross volume (R89), the temperature and pressure of the entry that ended the alignment or
their substitutes (R90), the factors (R91, R92), the standard increment and the accumulator with it (R93), nothing counted
under a TAB basis without its table (R94), and an opening's alignment without an increment (R95). That P is 0 under PC_OFF
for an entry without a pressure is the model's reading (assumption 10). -/
def Obligations.MeterTotalsAreAlignedAndAdded : Prop :=
  (∀ (at_ : Instant) (a b : MeterReading) (x y : Nat), a.total = some x → b.total = some y → x < 1000000000 →
    y < 1000000000 → a.arrival ≠ b.arrival → age at_ a.arrival ≤ age b.arrival a.arrival →
    alignedBetween at_ a b < 1000000000
    ∧ (totalDelta (alignedBetween at_ a b) x : Int)
      = roundDiv ((totalDelta y x : Int) * (age at_ a.arrival : Int)) (age b.arrival a.arrival : Int)
    ∧ (at_ = a.arrival → alignedBetween at_ a b = x) ∧ (at_ = b.arrival → alignedBetween at_ a b = y))
  ∧ (∀ (start at_ : Instant) (ring : List MeterEntry),
    let total (e : MeterEntry) : Nat := e.reading.total.getD 0
    let point (e : MeterEntry) : Option (Instant × Nat) := some (e.reading.arrival, total e)
    let early (e : MeterEntry) : Prop := age start at_ ≤ age start e.reading.arrival
    let entries := ring.filter (fun e => e.reading.total.isSome)
    (∀ older a b newer, entries = older ++ a :: b :: newer → (∀ e ∈ older, early e) → early a → ¬early b →
      (∀ e ∈ newer, ¬early e) →
      align start at_ ring = ⟨point a, point b, some b.reading, some (alignedBetween at_ a.reading b.reading), false⟩)
    ∧ (∀ older a, entries = older ++ [a] → (∀ e ∈ older, early e) → early a →
      align start at_ ring = ⟨point a, none, some a.reading, some (total a), true⟩)
    ∧ (∀ b newer, entries = b :: newer → ¬early b → (∀ e ∈ newer, ¬early e) →
      align start at_ ring = ⟨point b, none, some b.reading, some (total b), true⟩)
    ∧ (entries = [] → align start at_ ring = ⟨none, none, none, none, false⟩))
  ∧ (∀ x y : Nat, x < 1000000000 → y < 1000000000 →
    totalDelta y x < 1000000000 ∧ (x + totalDelta y x) % 1000000000 = y
    ∧ (totalDelta y x < 500000000 → increment (some y) (some x) = ((totalDelta y x : Int), some y, false, false))
    ∧ (500000000 ≤ totalDelta y x → increment (some y) (some x) = (0, some x, true, false))
    ∧ increment none (some x) = (0, some x, false, false) ∧ increment none none = (0, none, false, false)
    ∧ increment (some y) none = (0, some y, false, true))
  ∧ (∀ (kind : JobKind) (b : Basis) (expansionValid noShip : Bool) (expansion : List (Int × Int)) (start at_ : Instant)
      (m : MeterCopy),
    let f := meterFigure kind b expansionValid expansion noShip start at_ m
    let al := align start at_ m.ring
    let inc := increment al.aligned m.lastAligned
    let noTable : Prop := b.method = .tab ∧ expansionValid = false
    let vcf := volumeFactor b expansion f.temp
    f.meter = m.number ∧ f.snapshot = at_ ∧ f.d = m.d ∧ f.entryA = al.entryA ∧ f.entryB = al.entryB
    ∧ f.aligned = al.aligned ∧ f.flags.unbracketed = al.unbracketed ∧ (f.flags.noTotal = true ↔ al.aligned = none)
    ∧ f.flags.noShipInstant = noShip
    ∧ (al.used = none → f.temp = b.refTemp ∧ f.pressure = 0 ∧ f.flags.noTemp = false ∧ f.flags.noPressure = false)
    ∧ (∀ r, al.used = some r → f.temp = r.temp.getD b.refTemp ∧ f.pressure = r.pressure.getD 0
      ∧ (f.flags.noTemp = true ↔ r.temp = none)
      ∧ (f.flags.noPressure = true ↔ b.pressure = .on ∧ r.pressure = none))
    ∧ f.gv = f.iv + roundDiv (f.iv * f.d) 100000 ∧ f.pcf = pressureFactor b f.pressure
    ∧ (¬noTable → f.flags.table = false ∧ f.vcf = vcf.1 ∧ f.flags.expLimit = vcf.2.1 ∧ f.flags.vcfLimit = vcf.2.2
      ∧ f.dmL = roundDiv (f.gv * 1000 * f.vcf * f.pcf) (10 ^ 12))
    ∧ (noTable → f.flags.table = true ∧ f.vcf = 1000000 ∧ f.flags.expLimit = false ∧ f.flags.vcfLimit = false
      ∧ f.dmL = 0 ∧ f.lastAfter = m.lastAligned)
    ∧ (kind = .cycle ∨ kind = .close → f.lastBefore = m.lastAligned ∧ f.iv = inc.1 ∧ f.flags.stepReverse = inc.2.2.1
      ∧ f.flags.noBase = inc.2.2.2 ∧ f.accAfter = m.acc + f.dmL ∧ (¬noTable → f.lastAfter = inc.2.1))
    ∧ (kind = .openJob → f.lastBefore = none ∧ f.iv = 0 ∧ f.gv = 0 ∧ f.dmL = 0 ∧ f.accAfter = 0
      ∧ f.flags.stepReverse = false ∧ f.flags.noBase = false ∧ (¬noTable → f.lastAfter = al.aligned)))
  ∧ ∀ (c : JobCopy) (kind : JobKind) (b : Basis) (start : Instant),
    let seen (t : Instant) : Prop :=
      (∃ x ∈ c.tanks, ∃ r, x.latest = some r ∧ r.arrival = t) ∨ ∃ r, c.att = some r ∧ r.arrival = t
    ((∀ t, ¬seen t) → c.snapshot start = start)
    ∧ (∀ t, seen t → seen (c.snapshot start) ∧ age start t ≤ age start (c.snapshot start))
    ∧ (c.meterFigures kind b start).length = c.meters.length
    ∧ ∀ (k : Nat) (m : MeterCopy), c.meters[k]? = some m → ∃ noShip : Bool, (noShip = true ↔ ∀ t, ¬seen t)
      ∧ (c.meterFigures kind b start)[k]?
        = some (meterFigure kind b c.expansionValid c.expansion noShip start (c.snapshot start) m)

/-- The computation of the experience factor (R161 to R163): the ratios, their lower median, the entries within 300 of it,
and the factor over those; unavailable with FEW_ENTRIES for fewer than five, and with OUT_OF_RANGE, its value held, outside
98,000..102,000. Of an item it is made over the entries of its image where it is VALID, EMPTY being no entries and INVALID
the reason HISTORY_INVALID with no ratio, and it is held for its direction, LOAD's item being 33 and DISCHARGE's 34. A
finalize's entry joins the entries of a VALID item, of which the newest ten are
kept, and otherwise stands alone (R159, R166); the image written holds the count and the entries (section 10.2). A CLOSE job
copies the result held (R164). The origins that an append keeps beside the image, RECORDED for the new entry, are the model's
reading (assumption 6). -/
def Obligations.ExperienceFactorIsComputed : Prop :=
  let holds (img : List Byte) (entries : List (Int × Int)) : Prop :=
    u16 img 0 = entries.length
      ∧ ∀ k e, entries[k]? = some e → ((u32 img (2 + 8 * k) : Int), (u32 img (6 + 8 * k) : Int)) = e
  (∀ (s : State) (d : Direction) (v : VefState), s.vef d = some v → s.vefResult d = v.result)
  ∧ (∀ s : State, (s.computeVef .load).vef .load = some (vefOfItem (s.store.item 33))
    ∧ (s.computeVef .discharge).vef .discharge = some (vefOfItem (s.store.item 34)))
  ∧ (∀ i : Item,
    (i.status = .invalid → vefOfItem i = ⟨.unavailable .historyInvalid, 0, none, [], 0, none⟩)
    ∧ (i.status = .empty → vefOfItem i = ⟨.unavailable .fewEntries, 0, none, [], 0, none⟩)
    ∧ (∀ entries, i.status = .valid → holds i.image entries → vefOfItem i = vefOfEntries entries)
    ∧ (∀ e, i.status ≠ .valid → appendedEntries i e = [e] ∧ appendedOrigins i = [Origin.recorded])
    ∧ (∀ e entries, i.status = .valid → holds i.image entries →
      appendedEntries i e = (entries ++ [e]).drop (entries.length - 9)
        ∧ appendedOrigins i = (i.origins ++ [Origin.recorded]).drop (i.origins.length - 9)))
  ∧ (∀ entries : List (Int × Int), entries.length ≤ 10 →
    (∀ e ∈ entries, 100000 ≤ e.1 ∧ e.1 ≤ 999999999 ∧ 100000 ≤ e.2 ∧ e.2 ≤ 999999999) →
    (historyImage entries).length = 2 + 8 * entries.length ∧ holds (historyImage entries) entries)
  ∧ ∀ entries : List (Int × Int),
    let ratio (e : Int × Int) : Int := roundDiv (e.1 * 100000) e.2
    let rs := entries.map ratio
    let v := vefOfEntries entries
    v.count = entries.length
    ∧ (entries = [] → v = ⟨.unavailable .fewEntries, 0, none, [], 0, none⟩)
    ∧ (entries ≠ [] → ∃ m, v.median = some m ∧ m ∈ rs
      ∧ (rs.filter (fun x => decide (x < m))).length < (entries.length + 1) / 2
      ∧ (entries.length + 1) / 2 ≤ (rs.filter (fun x => decide (x ≤ m))).length
      ∧ v.ratios = rs.map (fun x => (x, decide ((x - m).natAbs ≤ 300)))
      ∧ (let kept := entries.filter (fun e => decide ((ratio e - m).natAbs ≤ 300))
        let factor := roundDiv ((kept.map (·.1)).sum * 100000) (kept.map (·.2)).sum
        v.qualifying = kept.length
        ∧ (kept.length < 5 → v.result = .unavailable .fewEntries ∧ v.computed = none)
        ∧ (5 ≤ kept.length → 98000 ≤ factor → factor ≤ 102000 → v.result = .available factor ∧ v.computed = none)
        ∧ (5 ≤ kept.length → (factor < 98000 ∨ 102000 < factor) →
          v.result = .unavailable .outOfRange ∧ v.computed = some factor)))

/-- Runs of cycles (R119, R120, R125 to R127): INDETERMINATE cycles, with NOT_JUDGED ones between them, count up to
DOWNSHIFT_N and there shift the grade down; any other judged cycle ends the run. DIVERGENT cycles count up to
CONFIRM_COUNT and raise the alarm, clean ones up to CLEAR_COUNT and clear it, each run ended as its table says. -/
def Obligations.RunsOfCyclesMoveGradeAndAlarm : Prop :=
  ∀ (x : Params) (r : Recon) (os : List CycleOutcome),
    let idle (o : CycleOutcome) : Prop := o = .notJudgedGrade3 ∨ o = .notJudgedBelowMinimum
    let graded := os.foldl (fun acc o => gradeAfter x o acc) r
    let judged := os.foldl (fun acc o => alarmAfter x o acc) r
    ((∀ o ∈ os, o = .indeterminate ∨ idle o) →
      (r.indeterminate + os.count .indeterminate < x.downshiftN →
        graded = { r with indeterminate := r.indeterminate + os.count .indeterminate })
      ∧ (r.indeterminate + os.count .indeterminate + 1 = x.downshiftN →
        gradeAfter x .indeterminate graded = if r.grade = 1 then { r with indeterminate := 0, grade := 2, downFrom1 := true }
          else { r with indeterminate := 0, grade := 3, downFrom2 := true }))
    ∧ (∀ clean, gradeAfter x (.within clean) r = { r with indeterminate := 0 })
    ∧ gradeAfter x .divergent r = { r with indeterminate := 0 }
    ∧ (r.alarm = false → (∀ o ∈ os, o = .divergent ∨ o = .indeterminate ∨ idle o) →
      (r.divergent + os.count .divergent < x.confirmCount →
        judged = { r with divergent := r.divergent + os.count .divergent })
      ∧ (r.divergent + os.count .divergent + 1 = x.confirmCount →
        alarmAfter x .divergent judged = { r with alarm := true, divergent := 0, clear := 0 }))
    ∧ (r.alarm = false → ∀ clean, alarmAfter x (.within clean) r = { r with divergent := 0 })
    ∧ (r.alarm = true → (∀ o ∈ os, o = .within true ∨ o = .indeterminate ∨ idle o) →
      (r.clear + os.count (.within true) < x.clearCount →
        judged = { r with clear := r.clear + os.count (.within true) })
      ∧ (r.clear + os.count (.within true) + 1 = x.clearCount →
        alarmAfter x (.within true) judged = { r with alarm := false, divergent := 0, clear := 0 }))
    ∧ (r.alarm = true → alarmAfter x (.within false) r = { r with clear := 0 }
      ∧ alarmAfter x .divergent r = { r with clear := 0 })

/-- The judgement of a cycle: the causes (R116), each with the sources or items it concerns; the band, the half band and the
minimum (R115), band and half band being absent at grade 3; and the outcome as the first case that applies (R117): grade 3, a
Q below the larger of 10 times the floor and 10,000 L, a cause, |Δ| at most the band, clean at most the half band, and beyond
it. -/
def Obligations.OutcomesFollowBandAndCauses : Prop :=
  (∀ (c : JobCopy) (b : Basis) (tanks : List TankFigure) (meters : List MeterFigure),
    let x := c.causes b tanks meters
    let stale (f : Freshness) : Prop := f = .never ∨ f = .stale
    (∀ n, SourceName.tank n ∈ x.stale ↔ ∃ t ∈ c.tanks, t.number = n ∧ stale t.fresh)
    ∧ (SourceName.att ∈ x.stale ↔ stale c.attFresh)
    ∧ (∀ n, SourceName.meter n ∈ x.stale ↔ ∃ m ∈ c.meters, m.number = n ∧ stale m.fresh)
    ∧ (∀ n, SourceName.tank n ∈ x.suspect ↔ ∃ t ∈ c.tanks, t.number = n ∧ t.suspect = true)
    ∧ SourceName.att ∉ x.suspect
    ∧ (∀ n, SourceName.meter n ∈ x.suspect ↔ ∃ m ∈ c.meters, m.number = n ∧ m.suspect = true)
    ∧ (∀ n, n ∈ x.unbracketed ↔ ∃ f ∈ meters, f.meter = n ∧ f.flags.unbracketed = true)
    ∧ (∀ n, n ∈ x.clamped ↔ ∃ f ∈ tanks, f.tank = n ∧ f.flags.clamped = true)
    ∧ (∀ n, n ∈ x.table ↔ (∃ t ∈ c.tanks, t.number = n ∧ t.tableValid = false)
      ∨ (b.method = .tab ∧ c.expansionValid = false ∧ n = 24 + b.tableId.getD 0))
    ∧ (x.any = false ↔ x = ⟨[], [], [], [], []⟩))
  ∧ (∀ (x : Params) (q : Int), 0 ≤ q →
    (cycleBand 1 x q = some (max (x.floor : Int) (roundDiv (q * x.tolerance) 1000000)))
    ∧ (cycleBand 2 x q = some (max (x.floor : Int) (roundDiv (q * (2 * x.tolerance)) 1000000)))
    ∧ cycleBand 3 x q = none ∧ (cycleBand 3 x q).map halfBand = none
    ∧ ∀ b : Int, 0 ≤ b → halfBand b = (b + 1) / 2)
  ∧ ∀ (x : Params) (b q delta : Int) (cause : Bool), 0 ≤ b →
    let least : Int := max (10 * (x.floor : Int)) 10000
    outcomeOf x none q delta cause = .notJudgedGrade3
    ∧ (q < least → outcomeOf x (some b) q delta cause = .notJudgedBelowMinimum)
    ∧ (least ≤ q → outcomeOf x (some b) q delta true = .indeterminate)
    ∧ (least ≤ q → -b ≤ delta → delta ≤ b →
      (2 * (delta.natAbs : Int) ≤ b + 1 → outcomeOf x (some b) q delta false = .within true)
      ∧ (b + 1 < 2 * (delta.natAbs : Int) → outcomeOf x (some b) q delta false = .within false))
    ∧ (least ≤ q → delta < -b ∨ b < delta → outcomeOf x (some b) q delta false = .divergent)
end

