-- ==== Sys2Proof/Laws/State.lean ====
section
/-!
SUPPORT. One lemma per field for each update of the state, so that no later proof unfolds one, and what each accessor
reads after the update beside it.
-/

namespace Sys2Proof.Machine

variable (s : State)

/-! ### `setParcel` -/

@[simp] theorem State.setParcel_clock (p : ParcelNo) (r : Parcel) : (s.setParcel p r).clock = s.clock := rfl
@[simp] theorem State.setParcel_msec (p : ParcelNo) (r : Parcel) : (s.setParcel p r).msec = s.msec := rfl
@[simp] theorem State.setParcel_resetCause (p : ParcelNo) (r : Parcel) :
    (s.setParcel p r).resetCause = s.resetCause := rfl
@[simp] theorem State.setParcel_straps (p : ParcelNo) (r : Parcel) : (s.setParcel p r).straps = s.straps := rfl
@[simp] theorem State.setParcel_calendar (p : ParcelNo) (r : Parcel) : (s.setParcel p r).calendar = s.calendar := rfl
@[simp] theorem State.setParcel_tanks (p : ParcelNo) (r : Parcel) : (s.setParcel p r).tanks = s.tanks := rfl
@[simp] theorem State.setParcel_att (p : ParcelNo) (r : Parcel) : (s.setParcel p r).att = s.att := rfl
@[simp] theorem State.setParcel_meters (p : ParcelNo) (r : Parcel) : (s.setParcel p r).meters = s.meters := rfl
@[simp] theorem State.setParcel_restoreLost (p : ParcelNo) (r : Parcel) :
    (s.setParcel p r).restoreLost = s.restoreLost := rfl
@[simp] theorem State.setParcel_engine (p : ParcelNo) (r : Parcel) : (s.setParcel p r).engine = s.engine := rfl
@[simp] theorem State.setParcel_store (p : ParcelNo) (r : Parcel) : (s.setParcel p r).store = s.store := rfl
@[simp] theorem State.setParcel_vefLoad (p : ParcelNo) (r : Parcel) : (s.setParcel p r).vefLoad = s.vefLoad := rfl
@[simp] theorem State.setParcel_vefDischarge (p : ParcelNo) (r : Parcel) :
    (s.setParcel p r).vefDischarge = s.vefDischarge := rfl
@[simp] theorem State.setParcel_lines (p : ParcelNo) (r : Parcel) : (s.setParcel p r).lines = s.lines := rfl
@[simp] theorem State.setParcel_ship (p : ParcelNo) (r : Parcel) : (s.setParcel p r).ship = s.ship := rfl
@[simp] theorem State.setParcel_shore (p : ParcelNo) (r : Parcel) : (s.setParcel p r).shore = s.shore := rfl
@[simp] theorem State.setParcel_survey (p : ParcelNo) (r : Parcel) : (s.setParcel p r).survey = s.survey := rfl
@[simp] theorem State.setParcel_freeDraws (p : ParcelNo) (r : Parcel) : (s.setParcel p r).freeDraws = s.freeDraws :=
  rfl
@[simp] theorem State.setParcel_pending (p : ParcelNo) (r : Parcel) : (s.setParcel p r).pending = s.pending := rfl

/-! ### `setTank` -/

@[simp] theorem State.setTank_clock (n : Nat) (x : TankSource) : (s.setTank n x).clock = s.clock :=
  by unfold State.setTank; split <;> rfl
@[simp] theorem State.setTank_msec (n : Nat) (x : TankSource) : (s.setTank n x).msec = s.msec :=
  by unfold State.setTank; split <;> rfl
@[simp] theorem State.setTank_resetCause (n : Nat) (x : TankSource) : (s.setTank n x).resetCause = s.resetCause :=
  by unfold State.setTank; split <;> rfl
@[simp] theorem State.setTank_straps (n : Nat) (x : TankSource) : (s.setTank n x).straps = s.straps :=
  by unfold State.setTank; split <;> rfl
@[simp] theorem State.setTank_calendar (n : Nat) (x : TankSource) : (s.setTank n x).calendar = s.calendar :=
  by unfold State.setTank; split <;> rfl
@[simp] theorem State.setTank_att (n : Nat) (x : TankSource) : (s.setTank n x).att = s.att :=
  by unfold State.setTank; split <;> rfl
@[simp] theorem State.setTank_meters (n : Nat) (x : TankSource) : (s.setTank n x).meters = s.meters :=
  by unfold State.setTank; split <;> rfl
@[simp] theorem State.setTank_parcels (n : Nat) (x : TankSource) : (s.setTank n x).parcels = s.parcels :=
  by unfold State.setTank; split <;> rfl
@[simp] theorem State.setTank_restoreLost (n : Nat) (x : TankSource) : (s.setTank n x).restoreLost = s.restoreLost :=
  by unfold State.setTank; split <;> rfl
@[simp] theorem State.setTank_engine (n : Nat) (x : TankSource) : (s.setTank n x).engine = s.engine :=
  by unfold State.setTank; split <;> rfl
@[simp] theorem State.setTank_store (n : Nat) (x : TankSource) : (s.setTank n x).store = s.store :=
  by unfold State.setTank; split <;> rfl
@[simp] theorem State.setTank_vefLoad (n : Nat) (x : TankSource) : (s.setTank n x).vefLoad = s.vefLoad :=
  by unfold State.setTank; split <;> rfl
@[simp] theorem State.setTank_vefDischarge (n : Nat) (x : TankSource) :
    (s.setTank n x).vefDischarge = s.vefDischarge := by unfold State.setTank; split <;> rfl
@[simp] theorem State.setTank_lines (n : Nat) (x : TankSource) : (s.setTank n x).lines = s.lines :=
  by unfold State.setTank; split <;> rfl
@[simp] theorem State.setTank_ship (n : Nat) (x : TankSource) : (s.setTank n x).ship = s.ship :=
  by unfold State.setTank; split <;> rfl
@[simp] theorem State.setTank_shore (n : Nat) (x : TankSource) : (s.setTank n x).shore = s.shore :=
  by unfold State.setTank; split <;> rfl
@[simp] theorem State.setTank_survey (n : Nat) (x : TankSource) : (s.setTank n x).survey = s.survey :=
  by unfold State.setTank; split <;> rfl
@[simp] theorem State.setTank_freeDraws (n : Nat) (x : TankSource) : (s.setTank n x).freeDraws = s.freeDraws :=
  by unfold State.setTank; split <;> rfl
@[simp] theorem State.setTank_pending (n : Nat) (x : TankSource) : (s.setTank n x).pending = s.pending :=
  by unfold State.setTank; split <;> rfl

/-! ### `setMeter` -/

@[simp] theorem State.setMeter_clock (n : Nat) (x : MeterSource) : (s.setMeter n x).clock = s.clock :=
  by unfold State.setMeter; split <;> rfl
@[simp] theorem State.setMeter_msec (n : Nat) (x : MeterSource) : (s.setMeter n x).msec = s.msec :=
  by unfold State.setMeter; split <;> rfl
@[simp] theorem State.setMeter_resetCause (n : Nat) (x : MeterSource) : (s.setMeter n x).resetCause = s.resetCause :=
  by unfold State.setMeter; split <;> rfl
@[simp] theorem State.setMeter_straps (n : Nat) (x : MeterSource) : (s.setMeter n x).straps = s.straps :=
  by unfold State.setMeter; split <;> rfl
@[simp] theorem State.setMeter_calendar (n : Nat) (x : MeterSource) : (s.setMeter n x).calendar = s.calendar :=
  by unfold State.setMeter; split <;> rfl
@[simp] theorem State.setMeter_tanks (n : Nat) (x : MeterSource) : (s.setMeter n x).tanks = s.tanks :=
  by unfold State.setMeter; split <;> rfl
@[simp] theorem State.setMeter_att (n : Nat) (x : MeterSource) : (s.setMeter n x).att = s.att :=
  by unfold State.setMeter; split <;> rfl
@[simp] theorem State.setMeter_parcels (n : Nat) (x : MeterSource) : (s.setMeter n x).parcels = s.parcels :=
  by unfold State.setMeter; split <;> rfl
@[simp] theorem State.setMeter_restoreLost (n : Nat) (x : MeterSource) :
    (s.setMeter n x).restoreLost = s.restoreLost := by unfold State.setMeter; split <;> rfl
@[simp] theorem State.setMeter_engine (n : Nat) (x : MeterSource) : (s.setMeter n x).engine = s.engine :=
  by unfold State.setMeter; split <;> rfl
@[simp] theorem State.setMeter_store (n : Nat) (x : MeterSource) : (s.setMeter n x).store = s.store :=
  by unfold State.setMeter; split <;> rfl
@[simp] theorem State.setMeter_vefLoad (n : Nat) (x : MeterSource) : (s.setMeter n x).vefLoad = s.vefLoad :=
  by unfold State.setMeter; split <;> rfl
@[simp] theorem State.setMeter_vefDischarge (n : Nat) (x : MeterSource) :
    (s.setMeter n x).vefDischarge = s.vefDischarge := by unfold State.setMeter; split <;> rfl
@[simp] theorem State.setMeter_lines (n : Nat) (x : MeterSource) : (s.setMeter n x).lines = s.lines :=
  by unfold State.setMeter; split <;> rfl
@[simp] theorem State.setMeter_ship (n : Nat) (x : MeterSource) : (s.setMeter n x).ship = s.ship :=
  by unfold State.setMeter; split <;> rfl
@[simp] theorem State.setMeter_shore (n : Nat) (x : MeterSource) : (s.setMeter n x).shore = s.shore :=
  by unfold State.setMeter; split <;> rfl
@[simp] theorem State.setMeter_survey (n : Nat) (x : MeterSource) : (s.setMeter n x).survey = s.survey :=
  by unfold State.setMeter; split <;> rfl
@[simp] theorem State.setMeter_freeDraws (n : Nat) (x : MeterSource) : (s.setMeter n x).freeDraws = s.freeDraws :=
  by unfold State.setMeter; split <;> rfl
@[simp] theorem State.setMeter_pending (n : Nat) (x : MeterSource) : (s.setMeter n x).pending = s.pending :=
  by unfold State.setMeter; split <;> rfl

/-! ### `setLink` -/

@[simp] theorem State.setLink_clock (l : Link) (k : LinkState) : (s.setLink l k).clock = s.clock := by cases l <;> rfl
@[simp] theorem State.setLink_msec (l : Link) (k : LinkState) : (s.setLink l k).msec = s.msec := by cases l <;> rfl
@[simp] theorem State.setLink_resetCause (l : Link) (k : LinkState) : (s.setLink l k).resetCause = s.resetCause :=
  by cases l <;> rfl
@[simp] theorem State.setLink_straps (l : Link) (k : LinkState) : (s.setLink l k).straps = s.straps :=
  by cases l <;> rfl
@[simp] theorem State.setLink_calendar (l : Link) (k : LinkState) : (s.setLink l k).calendar = s.calendar :=
  by cases l <;> rfl
@[simp] theorem State.setLink_tanks (l : Link) (k : LinkState) : (s.setLink l k).tanks = s.tanks := by cases l <;> rfl
@[simp] theorem State.setLink_att (l : Link) (k : LinkState) : (s.setLink l k).att = s.att := by cases l <;> rfl
@[simp] theorem State.setLink_meters (l : Link) (k : LinkState) : (s.setLink l k).meters = s.meters :=
  by cases l <;> rfl
@[simp] theorem State.setLink_parcels (l : Link) (k : LinkState) : (s.setLink l k).parcels = s.parcels :=
  by cases l <;> rfl
@[simp] theorem State.setLink_restoreLost (l : Link) (k : LinkState) : (s.setLink l k).restoreLost = s.restoreLost :=
  by cases l <;> rfl
@[simp] theorem State.setLink_engine (l : Link) (k : LinkState) : (s.setLink l k).engine = s.engine :=
  by cases l <;> rfl
@[simp] theorem State.setLink_store (l : Link) (k : LinkState) : (s.setLink l k).store = s.store := by cases l <;> rfl
@[simp] theorem State.setLink_vefLoad (l : Link) (k : LinkState) : (s.setLink l k).vefLoad = s.vefLoad :=
  by cases l <;> rfl
@[simp] theorem State.setLink_vefDischarge (l : Link) (k : LinkState) :
    (s.setLink l k).vefDischarge = s.vefDischarge := by cases l <;> rfl
@[simp] theorem State.setLink_lines (l : Link) (k : LinkState) : (s.setLink l k).lines = s.lines := by cases l <;> rfl
@[simp] theorem State.setLink_freeDraws (l : Link) (k : LinkState) : (s.setLink l k).freeDraws = s.freeDraws :=
  by cases l <;> rfl
@[simp] theorem State.setLink_pending (l : Link) (k : LinkState) : (s.setLink l k).pending = s.pending :=
  by cases l <;> rfl

/-! ### `setEngine` -/

@[simp] theorem State.setEngine_clock (e : Engine) : (s.setEngine e).clock = s.clock := rfl
@[simp] theorem State.setEngine_msec (e : Engine) : (s.setEngine e).msec = s.msec := rfl
@[simp] theorem State.setEngine_resetCause (e : Engine) : (s.setEngine e).resetCause = s.resetCause := rfl
@[simp] theorem State.setEngine_straps (e : Engine) : (s.setEngine e).straps = s.straps := rfl
@[simp] theorem State.setEngine_calendar (e : Engine) : (s.setEngine e).calendar = s.calendar := rfl
@[simp] theorem State.setEngine_tanks (e : Engine) : (s.setEngine e).tanks = s.tanks := rfl
@[simp] theorem State.setEngine_att (e : Engine) : (s.setEngine e).att = s.att := rfl
@[simp] theorem State.setEngine_meters (e : Engine) : (s.setEngine e).meters = s.meters := rfl
@[simp] theorem State.setEngine_parcels (e : Engine) : (s.setEngine e).parcels = s.parcels := rfl
@[simp] theorem State.setEngine_restoreLost (e : Engine) : (s.setEngine e).restoreLost = s.restoreLost := rfl
@[simp] theorem State.setEngine_engine (e : Engine) : (s.setEngine e).engine = e := rfl
@[simp] theorem State.setEngine_store (e : Engine) : (s.setEngine e).store = s.store := rfl
@[simp] theorem State.setEngine_vefLoad (e : Engine) : (s.setEngine e).vefLoad = s.vefLoad := rfl
@[simp] theorem State.setEngine_vefDischarge (e : Engine) : (s.setEngine e).vefDischarge = s.vefDischarge := rfl
@[simp] theorem State.setEngine_lines (e : Engine) : (s.setEngine e).lines = s.lines := rfl
@[simp] theorem State.setEngine_ship (e : Engine) : (s.setEngine e).ship = s.ship := rfl
@[simp] theorem State.setEngine_shore (e : Engine) : (s.setEngine e).shore = s.shore := rfl
@[simp] theorem State.setEngine_survey (e : Engine) : (s.setEngine e).survey = s.survey := rfl
@[simp] theorem State.setEngine_freeDraws (e : Engine) : (s.setEngine e).freeDraws = s.freeDraws := rfl
@[simp] theorem State.setEngine_pending (e : Engine) : (s.setEngine e).pending = s.pending := rfl

/-! ### `setStore` -/

@[simp] theorem State.setStore_clock (x : Store) : (s.setStore x).clock = s.clock := rfl
@[simp] theorem State.setStore_msec (x : Store) : (s.setStore x).msec = s.msec := rfl
@[simp] theorem State.setStore_resetCause (x : Store) : (s.setStore x).resetCause = s.resetCause := rfl
@[simp] theorem State.setStore_straps (x : Store) : (s.setStore x).straps = s.straps := rfl
@[simp] theorem State.setStore_calendar (x : Store) : (s.setStore x).calendar = s.calendar := rfl
@[simp] theorem State.setStore_tanks (x : Store) : (s.setStore x).tanks = s.tanks := rfl
@[simp] theorem State.setStore_att (x : Store) : (s.setStore x).att = s.att := rfl
@[simp] theorem State.setStore_meters (x : Store) : (s.setStore x).meters = s.meters := rfl
@[simp] theorem State.setStore_parcels (x : Store) : (s.setStore x).parcels = s.parcels := rfl
@[simp] theorem State.setStore_restoreLost (x : Store) : (s.setStore x).restoreLost = s.restoreLost := rfl
@[simp] theorem State.setStore_engine (x : Store) : (s.setStore x).engine = s.engine := rfl
@[simp] theorem State.setStore_store (x : Store) : (s.setStore x).store = x := rfl
@[simp] theorem State.setStore_vefLoad (x : Store) : (s.setStore x).vefLoad = s.vefLoad := rfl
@[simp] theorem State.setStore_vefDischarge (x : Store) : (s.setStore x).vefDischarge = s.vefDischarge := rfl
@[simp] theorem State.setStore_lines (x : Store) : (s.setStore x).lines = s.lines := rfl
@[simp] theorem State.setStore_ship (x : Store) : (s.setStore x).ship = s.ship := rfl
@[simp] theorem State.setStore_shore (x : Store) : (s.setStore x).shore = s.shore := rfl
@[simp] theorem State.setStore_survey (x : Store) : (s.setStore x).survey = s.survey := rfl
@[simp] theorem State.setStore_freeDraws (x : Store) : (s.setStore x).freeDraws = s.freeDraws := rfl
@[simp] theorem State.setStore_pending (x : Store) : (s.setStore x).pending = s.pending := rfl

/-! ### `setLines` -/

@[simp] theorem State.setLines_clock (x : Lines) : (s.setLines x).clock = s.clock := rfl
@[simp] theorem State.setLines_msec (x : Lines) : (s.setLines x).msec = s.msec := rfl
@[simp] theorem State.setLines_resetCause (x : Lines) : (s.setLines x).resetCause = s.resetCause := rfl
@[simp] theorem State.setLines_straps (x : Lines) : (s.setLines x).straps = s.straps := rfl
@[simp] theorem State.setLines_calendar (x : Lines) : (s.setLines x).calendar = s.calendar := rfl
@[simp] theorem State.setLines_tanks (x : Lines) : (s.setLines x).tanks = s.tanks := rfl
@[simp] theorem State.setLines_att (x : Lines) : (s.setLines x).att = s.att := rfl
@[simp] theorem State.setLines_meters (x : Lines) : (s.setLines x).meters = s.meters := rfl
@[simp] theorem State.setLines_parcels (x : Lines) : (s.setLines x).parcels = s.parcels := rfl
@[simp] theorem State.setLines_restoreLost (x : Lines) : (s.setLines x).restoreLost = s.restoreLost := rfl
@[simp] theorem State.setLines_engine (x : Lines) : (s.setLines x).engine = s.engine := rfl
@[simp] theorem State.setLines_store (x : Lines) : (s.setLines x).store = s.store := rfl
@[simp] theorem State.setLines_vefLoad (x : Lines) : (s.setLines x).vefLoad = s.vefLoad := rfl
@[simp] theorem State.setLines_vefDischarge (x : Lines) : (s.setLines x).vefDischarge = s.vefDischarge := rfl
@[simp] theorem State.setLines_lines (x : Lines) : (s.setLines x).lines = x := rfl
@[simp] theorem State.setLines_ship (x : Lines) : (s.setLines x).ship = s.ship := rfl
@[simp] theorem State.setLines_shore (x : Lines) : (s.setLines x).shore = s.shore := rfl
@[simp] theorem State.setLines_survey (x : Lines) : (s.setLines x).survey = s.survey := rfl
@[simp] theorem State.setLines_freeDraws (x : Lines) : (s.setLines x).freeDraws = s.freeDraws := rfl
@[simp] theorem State.setLines_pending (x : Lines) : (s.setLines x).pending = s.pending := rfl

/-! ### `setRestoreLost` -/

@[simp] theorem State.setRestoreLost_clock (p : ParcelNo) (b : Bool) : (s.setRestoreLost p b).clock = s.clock := rfl
@[simp] theorem State.setRestoreLost_msec (p : ParcelNo) (b : Bool) : (s.setRestoreLost p b).msec = s.msec := rfl
@[simp] theorem State.setRestoreLost_resetCause (p : ParcelNo) (b : Bool) :
    (s.setRestoreLost p b).resetCause = s.resetCause := rfl
@[simp] theorem State.setRestoreLost_straps (p : ParcelNo) (b : Bool) : (s.setRestoreLost p b).straps = s.straps :=
  rfl
@[simp] theorem State.setRestoreLost_calendar (p : ParcelNo) (b : Bool) :
    (s.setRestoreLost p b).calendar = s.calendar := rfl
@[simp] theorem State.setRestoreLost_tanks (p : ParcelNo) (b : Bool) : (s.setRestoreLost p b).tanks = s.tanks := rfl
@[simp] theorem State.setRestoreLost_att (p : ParcelNo) (b : Bool) : (s.setRestoreLost p b).att = s.att := rfl
@[simp] theorem State.setRestoreLost_meters (p : ParcelNo) (b : Bool) : (s.setRestoreLost p b).meters = s.meters :=
  rfl
@[simp] theorem State.setRestoreLost_parcels (p : ParcelNo) (b : Bool) : (s.setRestoreLost p b).parcels = s.parcels :=
  rfl
@[simp] theorem State.setRestoreLost_engine (p : ParcelNo) (b : Bool) : (s.setRestoreLost p b).engine = s.engine :=
  rfl
@[simp] theorem State.setRestoreLost_store (p : ParcelNo) (b : Bool) : (s.setRestoreLost p b).store = s.store := rfl
@[simp] theorem State.setRestoreLost_vefLoad (p : ParcelNo) (b : Bool) : (s.setRestoreLost p b).vefLoad = s.vefLoad :=
  rfl
@[simp] theorem State.setRestoreLost_vefDischarge (p : ParcelNo) (b : Bool) :
    (s.setRestoreLost p b).vefDischarge = s.vefDischarge := rfl
@[simp] theorem State.setRestoreLost_lines (p : ParcelNo) (b : Bool) : (s.setRestoreLost p b).lines = s.lines := rfl
@[simp] theorem State.setRestoreLost_ship (p : ParcelNo) (b : Bool) : (s.setRestoreLost p b).ship = s.ship := rfl
@[simp] theorem State.setRestoreLost_shore (p : ParcelNo) (b : Bool) : (s.setRestoreLost p b).shore = s.shore := rfl
@[simp] theorem State.setRestoreLost_survey (p : ParcelNo) (b : Bool) : (s.setRestoreLost p b).survey = s.survey :=
  rfl
@[simp] theorem State.setRestoreLost_freeDraws (p : ParcelNo) (b : Bool) :
    (s.setRestoreLost p b).freeDraws = s.freeDraws := rfl
@[simp] theorem State.setRestoreLost_pending (p : ParcelNo) (b : Bool) : (s.setRestoreLost p b).pending = s.pending :=
  rfl

/-! ### `setVef` -/

@[simp] theorem State.setVef_clock (d : Direction) (v : Option VefState) : (s.setVef d v).clock = s.clock :=
  by cases d <;> rfl
@[simp] theorem State.setVef_msec (d : Direction) (v : Option VefState) : (s.setVef d v).msec = s.msec :=
  by cases d <;> rfl
@[simp] theorem State.setVef_resetCause (d : Direction) (v : Option VefState) :
    (s.setVef d v).resetCause = s.resetCause := by cases d <;> rfl
@[simp] theorem State.setVef_straps (d : Direction) (v : Option VefState) : (s.setVef d v).straps = s.straps :=
  by cases d <;> rfl
@[simp] theorem State.setVef_calendar (d : Direction) (v : Option VefState) : (s.setVef d v).calendar = s.calendar :=
  by cases d <;> rfl
@[simp] theorem State.setVef_tanks (d : Direction) (v : Option VefState) : (s.setVef d v).tanks = s.tanks :=
  by cases d <;> rfl
@[simp] theorem State.setVef_att (d : Direction) (v : Option VefState) : (s.setVef d v).att = s.att :=
  by cases d <;> rfl
@[simp] theorem State.setVef_meters (d : Direction) (v : Option VefState) : (s.setVef d v).meters = s.meters :=
  by cases d <;> rfl
@[simp] theorem State.setVef_parcels (d : Direction) (v : Option VefState) : (s.setVef d v).parcels = s.parcels :=
  by cases d <;> rfl
@[simp] theorem State.setVef_restoreLost (d : Direction) (v : Option VefState) :
    (s.setVef d v).restoreLost = s.restoreLost := by cases d <;> rfl
@[simp] theorem State.setVef_engine (d : Direction) (v : Option VefState) : (s.setVef d v).engine = s.engine :=
  by cases d <;> rfl
@[simp] theorem State.setVef_store (d : Direction) (v : Option VefState) : (s.setVef d v).store = s.store :=
  by cases d <;> rfl
@[simp] theorem State.setVef_lines (d : Direction) (v : Option VefState) : (s.setVef d v).lines = s.lines :=
  by cases d <;> rfl
@[simp] theorem State.setVef_ship (d : Direction) (v : Option VefState) : (s.setVef d v).ship = s.ship :=
  by cases d <;> rfl
@[simp] theorem State.setVef_shore (d : Direction) (v : Option VefState) : (s.setVef d v).shore = s.shore :=
  by cases d <;> rfl
@[simp] theorem State.setVef_survey (d : Direction) (v : Option VefState) : (s.setVef d v).survey = s.survey :=
  by cases d <;> rfl
@[simp] theorem State.setVef_freeDraws (d : Direction) (v : Option VefState) :
    (s.setVef d v).freeDraws = s.freeDraws := by cases d <;> rfl
@[simp] theorem State.setVef_pending (d : Direction) (v : Option VefState) : (s.setVef d v).pending = s.pending :=
  by cases d <;> rfl

/-! ### Accessors after updates -/

@[simp] theorem State.parcel_setParcel_same (p : ParcelNo) (r : Parcel) : (s.setParcel p r).parcel p = r := by
  simp [State.parcel, State.setParcel, Vector.get_eq_getElem]

theorem State.parcel_setParcel_ne {p q : ParcelNo} (h : q ≠ p) (r : Parcel) :
    (s.setParcel p r).parcel q = s.parcel q := by
  have : p.val ≠ q.val := fun e => h (Fin.ext e.symm)
  simp [State.parcel, State.setParcel, Vector.get_eq_getElem, this]

theorem State.parcel_setParcel (p q : ParcelNo) (r : Parcel) :
    (s.setParcel p r).parcel q = if q = p then r else s.parcel q := by
  by_cases h : q = p
  · subst h; simp
  · simp [h, State.parcel_setParcel_ne]

theorem State.parcel_congr {s t : State} (h : t.parcels = s.parcels) (p : ParcelNo) : t.parcel p = s.parcel p := by
  simp [State.parcel, h]

theorem State.tank_congr {s t : State} (h : t.tanks = s.tanks) (n : Nat) : t.tank n = s.tank n := by
  simp [State.tank, h]

theorem State.meter_congr {s t : State} (h : t.meters = s.meters) (n : Nat) : t.meter n = s.meter n := by
  simp [State.meter, h]

@[simp] theorem State.link_setLink_same (l : Link) (k : LinkState) : (s.setLink l k).link l = k := by cases l <;> rfl

theorem State.link_setLink_ne {l m : Link} (h : m ≠ l) (k : LinkState) : (s.setLink l k).link m = s.link m := by
  cases l <;> cases m <;> first | rfl | exact absurd rfl h

theorem State.link_setLink (l m : Link) (k : LinkState) :
    (s.setLink l k).link m = if m = l then k else s.link m := by
  by_cases h : m = l
  · subst h; simp
  · simp [h, State.link_setLink_ne]

/-- A tank number that names a channel. -/
theorem State.tank_setTank_same {n : Nat} (lo : 1 ≤ n) (hi : n ≤ 16) (x : TankSource) :
    (s.setTank n x).tank n = x := by
  have h0 : n ≠ 0 := by omega
  have h1 : n - 1 < 16 := by omega
  simp [State.tank, State.setTank, h0, h1]

theorem State.tank_setTank_ne {n m : Nat} (h : m ≠ n) (x : TankSource) : (s.setTank n x).tank m = s.tank m := by
  unfold State.setTank
  split
  · rfl
  · unfold State.tank
    split
    · rfl
    · rename_i hn hm
      have : n - 1 ≠ m - 1 := by omega
      simp [this]

/-- A reassigned meter's hold on a backward step is ended where one was in force, and there is none otherwise (R50). -/
theorem StepHold.reassigned_eq (h : StepHold) : h.reassigned = if h = .none then .none else .ended := by
  cases h <;> rfl

/-- A meter number that names a run. -/
theorem State.meter_setMeter_same {n : Nat} (lo : 1 ≤ n) (hi : n ≤ 8) (x : MeterSource) :
    (s.setMeter n x).meter n = x := by
  have h0 : n ≠ 0 := by omega
  have h1 : n - 1 < 8 := by omega
  simp [State.meter, State.setMeter, h0, h1]

theorem State.meter_setMeter_ne {n m : Nat} (h : m ≠ n) (x : MeterSource) :
    (s.setMeter n x).meter m = s.meter m := by
  unfold State.setMeter
  split
  · rfl
  · unfold State.meter
    split
    · rfl
    · rename_i hn hm
      have : n - 1 ≠ m - 1 := by omega
      simp [this]

/-- An id that names an item. -/
theorem Store.item_setItem_same (st : Store) {id : Nat} (lo : 1 ≤ id) (hi : id ≤ 34) (i : Item) :
    (st.setItem id i).item id = i := by
  have h0 : id ≠ 0 := by omega
  have h1 : id - 1 < 34 := by omega
  simp [Store.item, Store.setItem, h0, h1]

theorem Store.item_setItem_ne (st : Store) {id k : Nat} (h : k ≠ id) (i : Item) :
    (st.setItem id i).item k = st.item k := by
  unfold Store.setItem
  split
  · rfl
  · unfold Store.item
    split
    · rfl
    · rename_i hn hm
      have : id - 1 ≠ k - 1 := by omega
      simp [this]

@[simp] theorem Store.checkpoint_setCheckpoint_same (st : Store) (p : ParcelNo) (c : CheckpointItem) :
    (st.setCheckpoint p c).checkpoint p = c := by
  simp [Store.checkpoint, Store.setCheckpoint, Vector.get_eq_getElem]

theorem Store.checkpoint_setCheckpoint_ne (st : Store) {p q : ParcelNo} (h : q ≠ p) (c : CheckpointItem) :
    (st.setCheckpoint p c).checkpoint q = st.checkpoint q := by
  have : p.val ≠ q.val := fun e => h (Fin.ext e.symm)
  simp [Store.checkpoint, Store.setCheckpoint, Vector.get_eq_getElem, this]

/-! ### Updates of the store -/

@[simp] theorem Store.setCheckpoint_items (st : Store) (p : ParcelNo) (c : CheckpointItem) :
    (st.setCheckpoint p c).items = st.items := rfl
@[simp] theorem Store.enqueue_items (st : Store) (e : QueueEntry) : (st.enqueue e).items = st.items := rfl
@[simp] theorem Store.setItem_records (st : Store) (id : Nat) (i : Item) : (st.setItem id i).records = st.records := by
  unfold Store.setItem; split <;> rfl
@[simp] theorem Store.setCheckpoint_records (st : Store) (p : ParcelNo) (c : CheckpointItem) :
    (st.setCheckpoint p c).records = st.records := rfl
@[simp] theorem Store.enqueue_records (st : Store) (e : QueueEntry) : (st.enqueue e).records = st.records := rfl
@[simp] theorem Store.setItem_checkpoints (st : Store) (id : Nat) (i : Item) : (st.setItem id i).checkpoints = st.checkpoints := by
  unfold Store.setItem; split <;> rfl
@[simp] theorem Store.enqueue_checkpoints (st : Store) (e : QueueEntry) :
    (st.enqueue e).checkpoints = st.checkpoints := rfl
@[simp] theorem Store.setItem_queue (st : Store) (id : Nat) (i : Item) : (st.setItem id i).queue = st.queue := by
  unfold Store.setItem; split <;> rfl
@[simp] theorem Store.setCheckpoint_queue (st : Store) (p : ParcelNo) (c : CheckpointItem) :
    (st.setCheckpoint p c).queue = st.queue := rfl
@[simp] theorem Store.setItem_writer (st : Store) (id : Nat) (i : Item) : (st.setItem id i).writer = st.writer := by
  unfold Store.setItem; split <;> rfl
@[simp] theorem Store.setCheckpoint_writer (st : Store) (p : ParcelNo) (c : CheckpointItem) :
    (st.setCheckpoint p c).writer = st.writer := rfl
@[simp] theorem Store.enqueue_writer (st : Store) (e : QueueEntry) : (st.enqueue e).writer = st.writer := rfl
@[simp] theorem Store.setItem_verify (st : Store) (id : Nat) (i : Item) : (st.setItem id i).verify = st.verify := by
  unfold Store.setItem; split <;> rfl
@[simp] theorem Store.setCheckpoint_verify (st : Store) (p : ParcelNo) (c : CheckpointItem) :
    (st.setCheckpoint p c).verify = st.verify := rfl
@[simp] theorem Store.enqueue_verify (st : Store) (e : QueueEntry) : (st.enqueue e).verify = st.verify := rfl
@[simp] theorem Store.setItem_nextSeq (st : Store) (id : Nat) (i : Item) : (st.setItem id i).nextSeq = st.nextSeq := by
  unfold Store.setItem; split <;> rfl
@[simp] theorem Store.setCheckpoint_nextSeq (st : Store) (p : ParcelNo) (c : CheckpointItem) :
    (st.setCheckpoint p c).nextSeq = st.nextSeq := rfl
@[simp] theorem Store.enqueue_nextSeq (st : Store) (e : QueueEntry) : (st.enqueue e).nextSeq = st.nextSeq := rfl
@[simp] theorem Store.enqueue_queue (st : Store) (e : QueueEntry) : (st.enqueue e).queue = st.queue ++ [e] := rfl

/-! ### Updates of the discrete lines -/

@[simp] theorem Lines.setLamp_esd (x : Lines) (p : ParcelNo) (k : Lamp) : (x.setLamp p k).esd = x.esd := rfl
@[simp] theorem Lines.setLamp_mv (x : Lines) (p : ParcelNo) (k : Lamp) : (x.setLamp p k).mv = x.mv := rfl
@[simp] theorem Lines.setLamp_spare (x : Lines) (p : ParcelNo) (k : Lamp) : (x.setLamp p k).spare = x.spare := rfl
@[simp] theorem Lines.setLamp_silence (x : Lines) (p : ParcelNo) (k : Lamp) : (x.setLamp p k).silence = x.silence :=
  rfl
@[simp] theorem Lines.setInput_silence (x : Lines) (i : InputName) (k : InputState) : (x.setInput i k).silence = x.silence := by
  cases i <;> rfl
@[simp] theorem Lines.setLamp_alarmOut (x : Lines) (p : ParcelNo) (k : Lamp) :
    (x.setLamp p k).alarmOut = x.alarmOut := rfl
@[simp] theorem Lines.setInput_alarmOut (x : Lines) (i : InputName) (k : InputState) : (x.setInput i k).alarmOut = x.alarmOut := by
  cases i <;> rfl
@[simp] theorem Lines.setInput_lamps (x : Lines) (i : InputName) (k : InputState) : (x.setInput i k).lamps = x.lamps := by
  cases i <;> rfl

@[simp] theorem Lines.lamp_setLamp_same (x : Lines) (p : ParcelNo) (k : Lamp) : (x.setLamp p k).lamp p = k := by
  simp [Lines.lamp, Lines.setLamp, Vector.get_eq_getElem]

theorem Lines.lamp_setLamp_ne (x : Lines) {p q : ParcelNo} (h : q ≠ p) (k : Lamp) : (x.setLamp p k).lamp q = x.lamp q := by
  have : p.val ≠ q.val := fun e => h (Fin.ext e.symm)
  simp [Lines.lamp, Lines.setLamp, Vector.get_eq_getElem, this]

@[simp] theorem Lines.input_setInput_same (x : Lines) (i : InputName) (k : InputState) : (x.setInput i k).input i = k := by
  cases i <;> simp [Lines.input, Lines.setInput, Vector.get_eq_getElem]

theorem Lines.input_setInput_ne (x : Lines) {i j : InputName} (h : j ≠ i) (k : InputState) :
    (x.setInput i k).input j = x.input j := by
  cases i with
  | esd => cases j <;> first | rfl | exact absurd rfl h
  | spare => cases j <;> first | rfl | exact absurd rfl h
  | mv n =>
    cases j with
    | esd => rfl
    | spare => rfl
    | mv m =>
      have : n.val ≠ m.val := fun e => h (by rw [Fin.ext e.symm])
      simp [Lines.input, Lines.setInput, Vector.get_eq_getElem, this]

/-! ### Jobs of the engine -/

@[simp] theorem Engine.jobs_setJobs_same (e : Engine) (p : ParcelNo) (j : JobSet) : (e.setJobs p j).jobs p = j := by
  simp [Engine.jobs, Engine.setJobs, Vector.get_eq_getElem]

theorem Engine.jobs_setJobs_ne (e : Engine) {p q : ParcelNo} (h : q ≠ p) (j : JobSet) :
    (e.setJobs p j).jobs q = e.jobs q := by
  have : p.val ≠ q.val := fun x => h (Fin.ext x.symm)
  simp [Engine.jobs, Engine.setJobs, Vector.get_eq_getElem, this]

@[simp] theorem Engine.setJobs_running (e : Engine) (p : ParcelNo) (j : JobSet) :
    (e.setJobs p j).running = e.running := rfl
@[simp] theorem Engine.setJobs_mark (e : Engine) (p : ParcelNo) (j : JobSet) : (e.setJobs p j).mark = e.mark := rfl

end Sys2Proof.Machine
end

