-- ==== Sys2Proof/Laws/Frames.lean ====
section
/-!
SUPPORT. What the shared operations of Machine/Posting.lean and Machine/Events.lean leave as it was, one lemma per field.
-/

namespace Sys2Proof.Machine

variable (s : State)

/-- A field that no step of a fold touches. -/
theorem foldl_keeps {α β : Type} (field : State → β) {f : State → α → State}
    (h : ∀ s x, field (f s x) = field s) (xs : List α) (s : State) : field (xs.foldl f s) = field s := by
  induction xs generalizing s with
  | nil => rfl
  | cons x rest ih => rw [List.foldl_cons, ih, h]

/-! ### Link controllers -/

@[simp] theorem State.hunt_clock (l : Link) :
    (s.hunt l).clock = s.clock := by simp [State.hunt]
@[simp] theorem State.hunt_msec (l : Link) :
    (s.hunt l).msec = s.msec := by simp [State.hunt]
@[simp] theorem State.hunt_resetCause (l : Link) :
    (s.hunt l).resetCause = s.resetCause := by simp [State.hunt]
@[simp] theorem State.hunt_straps (l : Link) :
    (s.hunt l).straps = s.straps := by simp [State.hunt]
@[simp] theorem State.hunt_calendar (l : Link) :
    (s.hunt l).calendar = s.calendar := by simp [State.hunt]
@[simp] theorem State.hunt_tanks (l : Link) :
    (s.hunt l).tanks = s.tanks := by simp [State.hunt]
@[simp] theorem State.hunt_att (l : Link) :
    (s.hunt l).att = s.att := by simp [State.hunt]
@[simp] theorem State.hunt_meters (l : Link) :
    (s.hunt l).meters = s.meters := by simp [State.hunt]
@[simp] theorem State.hunt_parcels (l : Link) :
    (s.hunt l).parcels = s.parcels := by simp [State.hunt]
@[simp] theorem State.hunt_restoreLost (l : Link) :
    (s.hunt l).restoreLost = s.restoreLost := by simp [State.hunt]
@[simp] theorem State.hunt_engine (l : Link) :
    (s.hunt l).engine = s.engine := by simp [State.hunt]
@[simp] theorem State.hunt_store (l : Link) :
    (s.hunt l).store = s.store := by simp [State.hunt]
@[simp] theorem State.hunt_vefLoad (l : Link) :
    (s.hunt l).vefLoad = s.vefLoad := by simp [State.hunt]
@[simp] theorem State.hunt_vefDischarge (l : Link) :
    (s.hunt l).vefDischarge = s.vefDischarge := by simp [State.hunt]
@[simp] theorem State.hunt_lines (l : Link) :
    (s.hunt l).lines = s.lines := by simp [State.hunt]
@[simp] theorem State.hunt_freeDraws (l : Link) :
    (s.hunt l).freeDraws = s.freeDraws := by simp [State.hunt]
@[simp] theorem State.hunt_pending (l : Link) :
    (s.hunt l).pending = s.pending := by simp [State.hunt]

@[simp] theorem State.respond_clock (l : Link) (tag : Byte) (r : Reply) :
    (s.respond l tag r).clock = s.clock := by simp [State.respond]
@[simp] theorem State.respond_msec (l : Link) (tag : Byte) (r : Reply) :
    (s.respond l tag r).msec = s.msec := by simp [State.respond]
@[simp] theorem State.respond_resetCause (l : Link) (tag : Byte) (r : Reply) :
    (s.respond l tag r).resetCause = s.resetCause := by simp [State.respond]
@[simp] theorem State.respond_straps (l : Link) (tag : Byte) (r : Reply) :
    (s.respond l tag r).straps = s.straps := by simp [State.respond]
@[simp] theorem State.respond_calendar (l : Link) (tag : Byte) (r : Reply) :
    (s.respond l tag r).calendar = s.calendar := by simp [State.respond]
@[simp] theorem State.respond_tanks (l : Link) (tag : Byte) (r : Reply) :
    (s.respond l tag r).tanks = s.tanks := by simp [State.respond]
@[simp] theorem State.respond_att (l : Link) (tag : Byte) (r : Reply) :
    (s.respond l tag r).att = s.att := by simp [State.respond]
@[simp] theorem State.respond_meters (l : Link) (tag : Byte) (r : Reply) :
    (s.respond l tag r).meters = s.meters := by simp [State.respond]
@[simp] theorem State.respond_parcels (l : Link) (tag : Byte) (r : Reply) :
    (s.respond l tag r).parcels = s.parcels := by simp [State.respond]
@[simp] theorem State.respond_restoreLost (l : Link) (tag : Byte) (r : Reply) :
    (s.respond l tag r).restoreLost = s.restoreLost := by simp [State.respond]
@[simp] theorem State.respond_engine (l : Link) (tag : Byte) (r : Reply) :
    (s.respond l tag r).engine = s.engine := by simp [State.respond]
@[simp] theorem State.respond_store (l : Link) (tag : Byte) (r : Reply) :
    (s.respond l tag r).store = s.store := by simp [State.respond]
@[simp] theorem State.respond_vefLoad (l : Link) (tag : Byte) (r : Reply) :
    (s.respond l tag r).vefLoad = s.vefLoad := by simp [State.respond]
@[simp] theorem State.respond_vefDischarge (l : Link) (tag : Byte) (r : Reply) :
    (s.respond l tag r).vefDischarge = s.vefDischarge := by simp [State.respond]
@[simp] theorem State.respond_lines (l : Link) (tag : Byte) (r : Reply) :
    (s.respond l tag r).lines = s.lines := by simp [State.respond]
@[simp] theorem State.respond_freeDraws (l : Link) (tag : Byte) (r : Reply) :
    (s.respond l tag r).freeDraws = s.freeDraws := by simp [State.respond]
@[simp] theorem State.respond_pending (l : Link) (tag : Byte) (r : Reply) :
    (s.respond l tag r).pending = s.pending := by simp [State.respond]

@[simp] theorem State.postTo_clock (l : Link) (b : NoticeBody) :
    (s.postTo l b).clock = s.clock := by simp [State.postTo]
@[simp] theorem State.postTo_msec (l : Link) (b : NoticeBody) :
    (s.postTo l b).msec = s.msec := by simp [State.postTo]
@[simp] theorem State.postTo_resetCause (l : Link) (b : NoticeBody) :
    (s.postTo l b).resetCause = s.resetCause := by simp [State.postTo]
@[simp] theorem State.postTo_straps (l : Link) (b : NoticeBody) :
    (s.postTo l b).straps = s.straps := by simp [State.postTo]
@[simp] theorem State.postTo_calendar (l : Link) (b : NoticeBody) :
    (s.postTo l b).calendar = s.calendar := by simp [State.postTo]
@[simp] theorem State.postTo_tanks (l : Link) (b : NoticeBody) :
    (s.postTo l b).tanks = s.tanks := by simp [State.postTo]
@[simp] theorem State.postTo_att (l : Link) (b : NoticeBody) :
    (s.postTo l b).att = s.att := by simp [State.postTo]
@[simp] theorem State.postTo_meters (l : Link) (b : NoticeBody) :
    (s.postTo l b).meters = s.meters := by simp [State.postTo]
@[simp] theorem State.postTo_parcels (l : Link) (b : NoticeBody) :
    (s.postTo l b).parcels = s.parcels := by simp [State.postTo]
@[simp] theorem State.postTo_restoreLost (l : Link) (b : NoticeBody) :
    (s.postTo l b).restoreLost = s.restoreLost := by simp [State.postTo]
@[simp] theorem State.postTo_engine (l : Link) (b : NoticeBody) :
    (s.postTo l b).engine = s.engine := by simp [State.postTo]
@[simp] theorem State.postTo_store (l : Link) (b : NoticeBody) :
    (s.postTo l b).store = s.store := by simp [State.postTo]
@[simp] theorem State.postTo_vefLoad (l : Link) (b : NoticeBody) :
    (s.postTo l b).vefLoad = s.vefLoad := by simp [State.postTo]
@[simp] theorem State.postTo_vefDischarge (l : Link) (b : NoticeBody) :
    (s.postTo l b).vefDischarge = s.vefDischarge := by simp [State.postTo]
@[simp] theorem State.postTo_lines (l : Link) (b : NoticeBody) :
    (s.postTo l b).lines = s.lines := by simp [State.postTo]
@[simp] theorem State.postTo_freeDraws (l : Link) (b : NoticeBody) :
    (s.postTo l b).freeDraws = s.freeDraws := by simp [State.postTo]
@[simp] theorem State.postTo_pending (l : Link) (b : NoticeBody) :
    (s.postTo l b).pending = s.pending := by simp [State.postTo]

@[simp] theorem State.postAll_clock (b : NoticeBody) :
    (s.postAll b).clock = s.clock := by simp [State.postAll]
@[simp] theorem State.postAll_msec (b : NoticeBody) :
    (s.postAll b).msec = s.msec := by simp [State.postAll]
@[simp] theorem State.postAll_resetCause (b : NoticeBody) :
    (s.postAll b).resetCause = s.resetCause := by simp [State.postAll]
@[simp] theorem State.postAll_straps (b : NoticeBody) :
    (s.postAll b).straps = s.straps := by simp [State.postAll]
@[simp] theorem State.postAll_calendar (b : NoticeBody) :
    (s.postAll b).calendar = s.calendar := by simp [State.postAll]
@[simp] theorem State.postAll_tanks (b : NoticeBody) :
    (s.postAll b).tanks = s.tanks := by simp [State.postAll]
@[simp] theorem State.postAll_att (b : NoticeBody) :
    (s.postAll b).att = s.att := by simp [State.postAll]
@[simp] theorem State.postAll_meters (b : NoticeBody) :
    (s.postAll b).meters = s.meters := by simp [State.postAll]
@[simp] theorem State.postAll_parcels (b : NoticeBody) :
    (s.postAll b).parcels = s.parcels := by simp [State.postAll]
@[simp] theorem State.postAll_restoreLost (b : NoticeBody) :
    (s.postAll b).restoreLost = s.restoreLost := by simp [State.postAll]
@[simp] theorem State.postAll_engine (b : NoticeBody) :
    (s.postAll b).engine = s.engine := by simp [State.postAll]
@[simp] theorem State.postAll_store (b : NoticeBody) :
    (s.postAll b).store = s.store := by simp [State.postAll]
@[simp] theorem State.postAll_vefLoad (b : NoticeBody) :
    (s.postAll b).vefLoad = s.vefLoad := by simp [State.postAll]
@[simp] theorem State.postAll_vefDischarge (b : NoticeBody) :
    (s.postAll b).vefDischarge = s.vefDischarge := by simp [State.postAll]
@[simp] theorem State.postAll_lines (b : NoticeBody) :
    (s.postAll b).lines = s.lines := by simp [State.postAll]
@[simp] theorem State.postAll_freeDraws (b : NoticeBody) :
    (s.postAll b).freeDraws = s.freeDraws := by simp [State.postAll]
@[simp] theorem State.postAll_pending (b : NoticeBody) :
    (s.postAll b).pending = s.pending := by simp [State.postAll]

@[simp] theorem State.transmitAll_clock  :
    (s.transmitAll).clock = s.clock := rfl
@[simp] theorem State.transmitAll_msec  :
    (s.transmitAll).msec = s.msec := rfl
@[simp] theorem State.transmitAll_resetCause  :
    (s.transmitAll).resetCause = s.resetCause := rfl
@[simp] theorem State.transmitAll_straps  :
    (s.transmitAll).straps = s.straps := rfl
@[simp] theorem State.transmitAll_calendar  :
    (s.transmitAll).calendar = s.calendar := rfl
@[simp] theorem State.transmitAll_tanks  :
    (s.transmitAll).tanks = s.tanks := rfl
@[simp] theorem State.transmitAll_att  :
    (s.transmitAll).att = s.att := rfl
@[simp] theorem State.transmitAll_meters  :
    (s.transmitAll).meters = s.meters := rfl
@[simp] theorem State.transmitAll_parcels  :
    (s.transmitAll).parcels = s.parcels := rfl
@[simp] theorem State.transmitAll_restoreLost  :
    (s.transmitAll).restoreLost = s.restoreLost := rfl
@[simp] theorem State.transmitAll_engine  :
    (s.transmitAll).engine = s.engine := rfl
@[simp] theorem State.transmitAll_store  :
    (s.transmitAll).store = s.store := rfl
@[simp] theorem State.transmitAll_vefLoad  :
    (s.transmitAll).vefLoad = s.vefLoad := rfl
@[simp] theorem State.transmitAll_vefDischarge  :
    (s.transmitAll).vefDischarge = s.vefDischarge := rfl
@[simp] theorem State.transmitAll_lines  :
    (s.transmitAll).lines = s.lines := rfl
@[simp] theorem State.transmitAll_freeDraws  :
    (s.transmitAll).freeDraws = s.freeDraws := rfl
@[simp] theorem State.transmitAll_pending  :
    (s.transmitAll).pending = s.pending := rfl

/-! ### Lamps, the alarm output, a parcel record -/

@[simp] theorem State.relamp_clock (p : ParcelNo) :
    (s.relamp p).clock = s.clock := by
  simp only [State.relamp]; split <;> simp
@[simp] theorem State.relamp_msec (p : ParcelNo) :
    (s.relamp p).msec = s.msec := by
  simp only [State.relamp]; split <;> simp
@[simp] theorem State.relamp_resetCause (p : ParcelNo) :
    (s.relamp p).resetCause = s.resetCause := by
  simp only [State.relamp]; split <;> simp
@[simp] theorem State.relamp_straps (p : ParcelNo) :
    (s.relamp p).straps = s.straps := by
  simp only [State.relamp]; split <;> simp
@[simp] theorem State.relamp_calendar (p : ParcelNo) :
    (s.relamp p).calendar = s.calendar := by
  simp only [State.relamp]; split <;> simp
@[simp] theorem State.relamp_tanks (p : ParcelNo) :
    (s.relamp p).tanks = s.tanks := by
  simp only [State.relamp]; split <;> simp
@[simp] theorem State.relamp_att (p : ParcelNo) :
    (s.relamp p).att = s.att := by
  simp only [State.relamp]; split <;> simp
@[simp] theorem State.relamp_meters (p : ParcelNo) :
    (s.relamp p).meters = s.meters := by
  simp only [State.relamp]; split <;> simp
@[simp] theorem State.relamp_parcels (p : ParcelNo) :
    (s.relamp p).parcels = s.parcels := by
  simp only [State.relamp]; split <;> simp
@[simp] theorem State.relamp_restoreLost (p : ParcelNo) :
    (s.relamp p).restoreLost = s.restoreLost := by
  simp only [State.relamp]; split <;> simp
@[simp] theorem State.relamp_engine (p : ParcelNo) :
    (s.relamp p).engine = s.engine := by
  simp only [State.relamp]; split <;> simp
@[simp] theorem State.relamp_store (p : ParcelNo) :
    (s.relamp p).store = s.store := by
  simp only [State.relamp]; split <;> simp
@[simp] theorem State.relamp_vefLoad (p : ParcelNo) :
    (s.relamp p).vefLoad = s.vefLoad := by
  simp only [State.relamp]; split <;> simp
@[simp] theorem State.relamp_vefDischarge (p : ParcelNo) :
    (s.relamp p).vefDischarge = s.vefDischarge := by
  simp only [State.relamp]; split <;> simp
@[simp] theorem State.relamp_ship (p : ParcelNo) :
    (s.relamp p).ship = s.ship := by
  simp only [State.relamp]; split <;> simp
@[simp] theorem State.relamp_shore (p : ParcelNo) :
    (s.relamp p).shore = s.shore := by
  simp only [State.relamp]; split <;> simp
@[simp] theorem State.relamp_survey (p : ParcelNo) :
    (s.relamp p).survey = s.survey := by
  simp only [State.relamp]; split <;> simp
@[simp] theorem State.relamp_freeDraws (p : ParcelNo) :
    (s.relamp p).freeDraws = s.freeDraws := by
  simp only [State.relamp]; split <;> simp
@[simp] theorem State.relamp_pending (p : ParcelNo) :
    (s.relamp p).pending = s.pending := by
  simp only [State.relamp]; split <;> simp

@[simp] theorem State.pulse_clock (p : ParcelNo) :
    (s.pulse p).clock = s.clock := by simp [State.pulse]
@[simp] theorem State.pulse_msec (p : ParcelNo) :
    (s.pulse p).msec = s.msec := by simp [State.pulse]
@[simp] theorem State.pulse_resetCause (p : ParcelNo) :
    (s.pulse p).resetCause = s.resetCause := by simp [State.pulse]
@[simp] theorem State.pulse_straps (p : ParcelNo) :
    (s.pulse p).straps = s.straps := by simp [State.pulse]
@[simp] theorem State.pulse_calendar (p : ParcelNo) :
    (s.pulse p).calendar = s.calendar := by simp [State.pulse]
@[simp] theorem State.pulse_tanks (p : ParcelNo) :
    (s.pulse p).tanks = s.tanks := by simp [State.pulse]
@[simp] theorem State.pulse_att (p : ParcelNo) :
    (s.pulse p).att = s.att := by simp [State.pulse]
@[simp] theorem State.pulse_meters (p : ParcelNo) :
    (s.pulse p).meters = s.meters := by simp [State.pulse]
@[simp] theorem State.pulse_parcels (p : ParcelNo) :
    (s.pulse p).parcels = s.parcels := by simp [State.pulse]
@[simp] theorem State.pulse_restoreLost (p : ParcelNo) :
    (s.pulse p).restoreLost = s.restoreLost := by simp [State.pulse]
@[simp] theorem State.pulse_engine (p : ParcelNo) :
    (s.pulse p).engine = s.engine := by simp [State.pulse]
@[simp] theorem State.pulse_store (p : ParcelNo) :
    (s.pulse p).store = s.store := by simp [State.pulse]
@[simp] theorem State.pulse_vefLoad (p : ParcelNo) :
    (s.pulse p).vefLoad = s.vefLoad := by simp [State.pulse]
@[simp] theorem State.pulse_vefDischarge (p : ParcelNo) :
    (s.pulse p).vefDischarge = s.vefDischarge := by simp [State.pulse]
@[simp] theorem State.pulse_ship (p : ParcelNo) :
    (s.pulse p).ship = s.ship := by simp [State.pulse]
@[simp] theorem State.pulse_shore (p : ParcelNo) :
    (s.pulse p).shore = s.shore := by simp [State.pulse]
@[simp] theorem State.pulse_survey (p : ParcelNo) :
    (s.pulse p).survey = s.survey := by simp [State.pulse]
@[simp] theorem State.pulse_freeDraws (p : ParcelNo) :
    (s.pulse p).freeDraws = s.freeDraws := by simp [State.pulse]
@[simp] theorem State.pulse_pending (p : ParcelNo) :
    (s.pulse p).pending = s.pending := by simp [State.pulse]

@[simp] theorem State.alarmRaised_clock  :
    (s.alarmRaised).clock = s.clock := by simp [State.alarmRaised]
@[simp] theorem State.alarmRaised_msec  :
    (s.alarmRaised).msec = s.msec := by simp [State.alarmRaised]
@[simp] theorem State.alarmRaised_resetCause  :
    (s.alarmRaised).resetCause = s.resetCause := by simp [State.alarmRaised]
@[simp] theorem State.alarmRaised_straps  :
    (s.alarmRaised).straps = s.straps := by simp [State.alarmRaised]
@[simp] theorem State.alarmRaised_calendar  :
    (s.alarmRaised).calendar = s.calendar := by simp [State.alarmRaised]
@[simp] theorem State.alarmRaised_tanks  :
    (s.alarmRaised).tanks = s.tanks := by simp [State.alarmRaised]
@[simp] theorem State.alarmRaised_att  :
    (s.alarmRaised).att = s.att := by simp [State.alarmRaised]
@[simp] theorem State.alarmRaised_meters  :
    (s.alarmRaised).meters = s.meters := by simp [State.alarmRaised]
@[simp] theorem State.alarmRaised_parcels  :
    (s.alarmRaised).parcels = s.parcels := by simp [State.alarmRaised]
@[simp] theorem State.alarmRaised_restoreLost  :
    (s.alarmRaised).restoreLost = s.restoreLost := by simp [State.alarmRaised]
@[simp] theorem State.alarmRaised_engine  :
    (s.alarmRaised).engine = s.engine := by simp [State.alarmRaised]
@[simp] theorem State.alarmRaised_store  :
    (s.alarmRaised).store = s.store := by simp [State.alarmRaised]
@[simp] theorem State.alarmRaised_vefLoad  :
    (s.alarmRaised).vefLoad = s.vefLoad := by simp [State.alarmRaised]
@[simp] theorem State.alarmRaised_vefDischarge  :
    (s.alarmRaised).vefDischarge = s.vefDischarge := by simp [State.alarmRaised]
@[simp] theorem State.alarmRaised_ship  :
    (s.alarmRaised).ship = s.ship := by simp [State.alarmRaised]
@[simp] theorem State.alarmRaised_shore  :
    (s.alarmRaised).shore = s.shore := by simp [State.alarmRaised]
@[simp] theorem State.alarmRaised_survey  :
    (s.alarmRaised).survey = s.survey := by simp [State.alarmRaised]
@[simp] theorem State.alarmRaised_freeDraws  :
    (s.alarmRaised).freeDraws = s.freeDraws := by simp [State.alarmRaised]
@[simp] theorem State.alarmRaised_pending  :
    (s.alarmRaised).pending = s.pending := by simp [State.alarmRaised]

@[simp] theorem State.alarmFell_clock  :
    (s.alarmFell).clock = s.clock := by
  simp only [State.alarmFell]; split <;> simp
@[simp] theorem State.alarmFell_msec  :
    (s.alarmFell).msec = s.msec := by
  simp only [State.alarmFell]; split <;> simp
@[simp] theorem State.alarmFell_resetCause  :
    (s.alarmFell).resetCause = s.resetCause := by
  simp only [State.alarmFell]; split <;> simp
@[simp] theorem State.alarmFell_straps  :
    (s.alarmFell).straps = s.straps := by
  simp only [State.alarmFell]; split <;> simp
@[simp] theorem State.alarmFell_calendar  :
    (s.alarmFell).calendar = s.calendar := by
  simp only [State.alarmFell]; split <;> simp
@[simp] theorem State.alarmFell_tanks  :
    (s.alarmFell).tanks = s.tanks := by
  simp only [State.alarmFell]; split <;> simp
@[simp] theorem State.alarmFell_att  :
    (s.alarmFell).att = s.att := by
  simp only [State.alarmFell]; split <;> simp
@[simp] theorem State.alarmFell_meters  :
    (s.alarmFell).meters = s.meters := by
  simp only [State.alarmFell]; split <;> simp
@[simp] theorem State.alarmFell_parcels  :
    (s.alarmFell).parcels = s.parcels := by
  simp only [State.alarmFell]; split <;> simp
@[simp] theorem State.alarmFell_restoreLost  :
    (s.alarmFell).restoreLost = s.restoreLost := by
  simp only [State.alarmFell]; split <;> simp
@[simp] theorem State.alarmFell_engine  :
    (s.alarmFell).engine = s.engine := by
  simp only [State.alarmFell]; split <;> simp
@[simp] theorem State.alarmFell_store  :
    (s.alarmFell).store = s.store := by
  simp only [State.alarmFell]; split <;> simp
@[simp] theorem State.alarmFell_vefLoad  :
    (s.alarmFell).vefLoad = s.vefLoad := by
  simp only [State.alarmFell]; split <;> simp
@[simp] theorem State.alarmFell_vefDischarge  :
    (s.alarmFell).vefDischarge = s.vefDischarge := by
  simp only [State.alarmFell]; split <;> simp
@[simp] theorem State.alarmFell_ship  :
    (s.alarmFell).ship = s.ship := by
  simp only [State.alarmFell]; split <;> simp
@[simp] theorem State.alarmFell_shore  :
    (s.alarmFell).shore = s.shore := by
  simp only [State.alarmFell]; split <;> simp
@[simp] theorem State.alarmFell_survey  :
    (s.alarmFell).survey = s.survey := by
  simp only [State.alarmFell]; split <;> simp
@[simp] theorem State.alarmFell_freeDraws  :
    (s.alarmFell).freeDraws = s.freeDraws := by
  simp only [State.alarmFell]; split <;> simp
@[simp] theorem State.alarmFell_pending  :
    (s.alarmFell).pending = s.pending := by
  simp only [State.alarmFell]; split <;> simp

@[simp] theorem State.afterAlarm_clock (was : Bool) :
    (s.afterAlarm was).clock = s.clock := by cases was <;> simp [State.afterAlarm]
@[simp] theorem State.afterAlarm_msec (was : Bool) :
    (s.afterAlarm was).msec = s.msec := by cases was <;> simp [State.afterAlarm]
@[simp] theorem State.afterAlarm_resetCause (was : Bool) :
    (s.afterAlarm was).resetCause = s.resetCause := by cases was <;> simp [State.afterAlarm]
@[simp] theorem State.afterAlarm_straps (was : Bool) :
    (s.afterAlarm was).straps = s.straps := by cases was <;> simp [State.afterAlarm]
@[simp] theorem State.afterAlarm_calendar (was : Bool) :
    (s.afterAlarm was).calendar = s.calendar := by cases was <;> simp [State.afterAlarm]
@[simp] theorem State.afterAlarm_tanks (was : Bool) :
    (s.afterAlarm was).tanks = s.tanks := by cases was <;> simp [State.afterAlarm]
@[simp] theorem State.afterAlarm_att (was : Bool) :
    (s.afterAlarm was).att = s.att := by cases was <;> simp [State.afterAlarm]
@[simp] theorem State.afterAlarm_meters (was : Bool) :
    (s.afterAlarm was).meters = s.meters := by cases was <;> simp [State.afterAlarm]
@[simp] theorem State.afterAlarm_parcels (was : Bool) :
    (s.afterAlarm was).parcels = s.parcels := by cases was <;> simp [State.afterAlarm]
@[simp] theorem State.afterAlarm_restoreLost (was : Bool) :
    (s.afterAlarm was).restoreLost = s.restoreLost := by cases was <;> simp [State.afterAlarm]
@[simp] theorem State.afterAlarm_engine (was : Bool) :
    (s.afterAlarm was).engine = s.engine := by cases was <;> simp [State.afterAlarm]
@[simp] theorem State.afterAlarm_store (was : Bool) :
    (s.afterAlarm was).store = s.store := by cases was <;> simp [State.afterAlarm]
@[simp] theorem State.afterAlarm_vefLoad (was : Bool) :
    (s.afterAlarm was).vefLoad = s.vefLoad := by cases was <;> simp [State.afterAlarm]
@[simp] theorem State.afterAlarm_vefDischarge (was : Bool) :
    (s.afterAlarm was).vefDischarge = s.vefDischarge := by cases was <;> simp [State.afterAlarm]
@[simp] theorem State.afterAlarm_ship (was : Bool) :
    (s.afterAlarm was).ship = s.ship := by cases was <;> simp [State.afterAlarm]
@[simp] theorem State.afterAlarm_shore (was : Bool) :
    (s.afterAlarm was).shore = s.shore := by cases was <;> simp [State.afterAlarm]
@[simp] theorem State.afterAlarm_survey (was : Bool) :
    (s.afterAlarm was).survey = s.survey := by cases was <;> simp [State.afterAlarm]
@[simp] theorem State.afterAlarm_freeDraws (was : Bool) :
    (s.afterAlarm was).freeDraws = s.freeDraws := by cases was <;> simp [State.afterAlarm]
@[simp] theorem State.afterAlarm_pending (was : Bool) :
    (s.afterAlarm was).pending = s.pending := by cases was <;> simp [State.afterAlarm]

@[simp] theorem State.changeParcel_clock (p : ParcelNo) (r : Parcel) (c : Cause) :
    (s.changeParcel p r c).clock = s.clock := by
  simp only [State.changeParcel]; split <;> simp
@[simp] theorem State.changeParcel_msec (p : ParcelNo) (r : Parcel) (c : Cause) :
    (s.changeParcel p r c).msec = s.msec := by
  simp only [State.changeParcel]; split <;> simp
@[simp] theorem State.changeParcel_resetCause (p : ParcelNo) (r : Parcel) (c : Cause) :
    (s.changeParcel p r c).resetCause = s.resetCause := by
  simp only [State.changeParcel]; split <;> simp
@[simp] theorem State.changeParcel_straps (p : ParcelNo) (r : Parcel) (c : Cause) :
    (s.changeParcel p r c).straps = s.straps := by
  simp only [State.changeParcel]; split <;> simp
@[simp] theorem State.changeParcel_calendar (p : ParcelNo) (r : Parcel) (c : Cause) :
    (s.changeParcel p r c).calendar = s.calendar := by
  simp only [State.changeParcel]; split <;> simp
@[simp] theorem State.changeParcel_tanks (p : ParcelNo) (r : Parcel) (c : Cause) :
    (s.changeParcel p r c).tanks = s.tanks := by
  simp only [State.changeParcel]; split <;> simp
@[simp] theorem State.changeParcel_att (p : ParcelNo) (r : Parcel) (c : Cause) :
    (s.changeParcel p r c).att = s.att := by
  simp only [State.changeParcel]; split <;> simp
@[simp] theorem State.changeParcel_meters (p : ParcelNo) (r : Parcel) (c : Cause) :
    (s.changeParcel p r c).meters = s.meters := by
  simp only [State.changeParcel]; split <;> simp
@[simp] theorem State.changeParcel_restoreLost (p : ParcelNo) (r : Parcel) (c : Cause) :
    (s.changeParcel p r c).restoreLost = s.restoreLost := by
  simp only [State.changeParcel]; split <;> simp
@[simp] theorem State.changeParcel_engine (p : ParcelNo) (r : Parcel) (c : Cause) :
    (s.changeParcel p r c).engine = s.engine := by
  simp only [State.changeParcel]; split <;> simp
@[simp] theorem State.changeParcel_store (p : ParcelNo) (r : Parcel) (c : Cause) :
    (s.changeParcel p r c).store = s.store := by
  simp only [State.changeParcel]; split <;> simp
@[simp] theorem State.changeParcel_vefLoad (p : ParcelNo) (r : Parcel) (c : Cause) :
    (s.changeParcel p r c).vefLoad = s.vefLoad := by
  simp only [State.changeParcel]; split <;> simp
@[simp] theorem State.changeParcel_vefDischarge (p : ParcelNo) (r : Parcel) (c : Cause) :
    (s.changeParcel p r c).vefDischarge = s.vefDischarge := by
  simp only [State.changeParcel]; split <;> simp
@[simp] theorem State.changeParcel_freeDraws (p : ParcelNo) (r : Parcel) (c : Cause) :
    (s.changeParcel p r c).freeDraws = s.freeDraws := by
  simp only [State.changeParcel]; split <;> simp
@[simp] theorem State.changeParcel_pending (p : ParcelNo) (r : Parcel) (c : Cause) :
    (s.changeParcel p r c).pending = s.pending := by
  simp only [State.changeParcel]; split <;> simp

/-! ### Checkpoints and jobs -/

@[simp] theorem State.requestCheckpoint_clock (p : ParcelNo) :
    (s.requestCheckpoint p).clock = s.clock := by
  simp only [State.requestCheckpoint]; split <;> simp
@[simp] theorem State.requestCheckpoint_msec (p : ParcelNo) :
    (s.requestCheckpoint p).msec = s.msec := by
  simp only [State.requestCheckpoint]; split <;> simp
@[simp] theorem State.requestCheckpoint_resetCause (p : ParcelNo) :
    (s.requestCheckpoint p).resetCause = s.resetCause := by
  simp only [State.requestCheckpoint]; split <;> simp
@[simp] theorem State.requestCheckpoint_straps (p : ParcelNo) :
    (s.requestCheckpoint p).straps = s.straps := by
  simp only [State.requestCheckpoint]; split <;> simp
@[simp] theorem State.requestCheckpoint_calendar (p : ParcelNo) :
    (s.requestCheckpoint p).calendar = s.calendar := by
  simp only [State.requestCheckpoint]; split <;> simp
@[simp] theorem State.requestCheckpoint_tanks (p : ParcelNo) :
    (s.requestCheckpoint p).tanks = s.tanks := by
  simp only [State.requestCheckpoint]; split <;> simp
@[simp] theorem State.requestCheckpoint_att (p : ParcelNo) :
    (s.requestCheckpoint p).att = s.att := by
  simp only [State.requestCheckpoint]; split <;> simp
@[simp] theorem State.requestCheckpoint_meters (p : ParcelNo) :
    (s.requestCheckpoint p).meters = s.meters := by
  simp only [State.requestCheckpoint]; split <;> simp
@[simp] theorem State.requestCheckpoint_parcels (p : ParcelNo) :
    (s.requestCheckpoint p).parcels = s.parcels := by
  simp only [State.requestCheckpoint]; split <;> simp
@[simp] theorem State.requestCheckpoint_restoreLost (p : ParcelNo) :
    (s.requestCheckpoint p).restoreLost = s.restoreLost := by
  simp only [State.requestCheckpoint]; split <;> simp
@[simp] theorem State.requestCheckpoint_engine (p : ParcelNo) :
    (s.requestCheckpoint p).engine = s.engine := by
  simp only [State.requestCheckpoint]; split <;> simp
@[simp] theorem State.requestCheckpoint_vefLoad (p : ParcelNo) :
    (s.requestCheckpoint p).vefLoad = s.vefLoad := by
  simp only [State.requestCheckpoint]; split <;> simp
@[simp] theorem State.requestCheckpoint_vefDischarge (p : ParcelNo) :
    (s.requestCheckpoint p).vefDischarge = s.vefDischarge := by
  simp only [State.requestCheckpoint]; split <;> simp
@[simp] theorem State.requestCheckpoint_lines (p : ParcelNo) :
    (s.requestCheckpoint p).lines = s.lines := by
  simp only [State.requestCheckpoint]; split <;> simp
@[simp] theorem State.requestCheckpoint_ship (p : ParcelNo) :
    (s.requestCheckpoint p).ship = s.ship := by
  simp only [State.requestCheckpoint]; split <;> simp
@[simp] theorem State.requestCheckpoint_shore (p : ParcelNo) :
    (s.requestCheckpoint p).shore = s.shore := by
  simp only [State.requestCheckpoint]; split <;> simp
@[simp] theorem State.requestCheckpoint_survey (p : ParcelNo) :
    (s.requestCheckpoint p).survey = s.survey := by
  simp only [State.requestCheckpoint]; split <;> simp
@[simp] theorem State.requestCheckpoint_freeDraws (p : ParcelNo) :
    (s.requestCheckpoint p).freeDraws = s.freeDraws := by
  simp only [State.requestCheckpoint]; split <;> simp
@[simp] theorem State.requestCheckpoint_pending (p : ParcelNo) :
    (s.requestCheckpoint p).pending = s.pending := by
  simp only [State.requestCheckpoint]; split <;> simp

@[simp] theorem State.placeJob_clock (k : JobKind) (p : ParcelNo) :
    (s.placeJob k p).clock = s.clock := by
  simp only [State.placeJob]; split <;> simp
@[simp] theorem State.placeJob_msec (k : JobKind) (p : ParcelNo) :
    (s.placeJob k p).msec = s.msec := by
  simp only [State.placeJob]; split <;> simp
@[simp] theorem State.placeJob_resetCause (k : JobKind) (p : ParcelNo) :
    (s.placeJob k p).resetCause = s.resetCause := by
  simp only [State.placeJob]; split <;> simp
@[simp] theorem State.placeJob_straps (k : JobKind) (p : ParcelNo) :
    (s.placeJob k p).straps = s.straps := by
  simp only [State.placeJob]; split <;> simp
@[simp] theorem State.placeJob_calendar (k : JobKind) (p : ParcelNo) :
    (s.placeJob k p).calendar = s.calendar := by
  simp only [State.placeJob]; split <;> simp
@[simp] theorem State.placeJob_tanks (k : JobKind) (p : ParcelNo) :
    (s.placeJob k p).tanks = s.tanks := by
  simp only [State.placeJob]; split <;> simp
@[simp] theorem State.placeJob_att (k : JobKind) (p : ParcelNo) :
    (s.placeJob k p).att = s.att := by
  simp only [State.placeJob]; split <;> simp
@[simp] theorem State.placeJob_meters (k : JobKind) (p : ParcelNo) :
    (s.placeJob k p).meters = s.meters := by
  simp only [State.placeJob]; split <;> simp
@[simp] theorem State.placeJob_parcels (k : JobKind) (p : ParcelNo) :
    (s.placeJob k p).parcels = s.parcels := by
  simp only [State.placeJob]; split <;> simp
@[simp] theorem State.placeJob_restoreLost (k : JobKind) (p : ParcelNo) :
    (s.placeJob k p).restoreLost = s.restoreLost := by
  simp only [State.placeJob]; split <;> simp
@[simp] theorem State.placeJob_store (k : JobKind) (p : ParcelNo) :
    (s.placeJob k p).store = s.store := by
  simp only [State.placeJob]; split <;> simp
@[simp] theorem State.placeJob_vefLoad (k : JobKind) (p : ParcelNo) :
    (s.placeJob k p).vefLoad = s.vefLoad := by
  simp only [State.placeJob]; split <;> simp
@[simp] theorem State.placeJob_vefDischarge (k : JobKind) (p : ParcelNo) :
    (s.placeJob k p).vefDischarge = s.vefDischarge := by
  simp only [State.placeJob]; split <;> simp
@[simp] theorem State.placeJob_lines (k : JobKind) (p : ParcelNo) :
    (s.placeJob k p).lines = s.lines := by
  simp only [State.placeJob]; split <;> simp
@[simp] theorem State.placeJob_ship (k : JobKind) (p : ParcelNo) :
    (s.placeJob k p).ship = s.ship := by
  simp only [State.placeJob]; split <;> simp
@[simp] theorem State.placeJob_shore (k : JobKind) (p : ParcelNo) :
    (s.placeJob k p).shore = s.shore := by
  simp only [State.placeJob]; split <;> simp
@[simp] theorem State.placeJob_survey (k : JobKind) (p : ParcelNo) :
    (s.placeJob k p).survey = s.survey := by
  simp only [State.placeJob]; split <;> simp
@[simp] theorem State.placeJob_freeDraws (k : JobKind) (p : ParcelNo) :
    (s.placeJob k p).freeDraws = s.freeDraws := by
  simp only [State.placeJob]; split <;> simp
@[simp] theorem State.placeJob_pending (k : JobKind) (p : ParcelNo) :
    (s.placeJob k p).pending = s.pending := by
  simp only [State.placeJob]; split <;> simp

@[simp] theorem State.voidCycle_clock (p : ParcelNo) :
    (s.voidCycle p).clock = s.clock := by simp [State.voidCycle]
@[simp] theorem State.voidCycle_msec (p : ParcelNo) :
    (s.voidCycle p).msec = s.msec := by simp [State.voidCycle]
@[simp] theorem State.voidCycle_resetCause (p : ParcelNo) :
    (s.voidCycle p).resetCause = s.resetCause := by simp [State.voidCycle]
@[simp] theorem State.voidCycle_straps (p : ParcelNo) :
    (s.voidCycle p).straps = s.straps := by simp [State.voidCycle]
@[simp] theorem State.voidCycle_calendar (p : ParcelNo) :
    (s.voidCycle p).calendar = s.calendar := by simp [State.voidCycle]
@[simp] theorem State.voidCycle_tanks (p : ParcelNo) :
    (s.voidCycle p).tanks = s.tanks := by simp [State.voidCycle]
@[simp] theorem State.voidCycle_att (p : ParcelNo) :
    (s.voidCycle p).att = s.att := by simp [State.voidCycle]
@[simp] theorem State.voidCycle_meters (p : ParcelNo) :
    (s.voidCycle p).meters = s.meters := by simp [State.voidCycle]
@[simp] theorem State.voidCycle_parcels (p : ParcelNo) :
    (s.voidCycle p).parcels = s.parcels := by simp [State.voidCycle]
@[simp] theorem State.voidCycle_restoreLost (p : ParcelNo) :
    (s.voidCycle p).restoreLost = s.restoreLost := by simp [State.voidCycle]
@[simp] theorem State.voidCycle_store (p : ParcelNo) :
    (s.voidCycle p).store = s.store := by simp [State.voidCycle]
@[simp] theorem State.voidCycle_vefLoad (p : ParcelNo) :
    (s.voidCycle p).vefLoad = s.vefLoad := by simp [State.voidCycle]
@[simp] theorem State.voidCycle_vefDischarge (p : ParcelNo) :
    (s.voidCycle p).vefDischarge = s.vefDischarge := by simp [State.voidCycle]
@[simp] theorem State.voidCycle_lines (p : ParcelNo) :
    (s.voidCycle p).lines = s.lines := by simp [State.voidCycle]
@[simp] theorem State.voidCycle_ship (p : ParcelNo) :
    (s.voidCycle p).ship = s.ship := by simp [State.voidCycle]
@[simp] theorem State.voidCycle_shore (p : ParcelNo) :
    (s.voidCycle p).shore = s.shore := by simp [State.voidCycle]
@[simp] theorem State.voidCycle_survey (p : ParcelNo) :
    (s.voidCycle p).survey = s.survey := by simp [State.voidCycle]
@[simp] theorem State.voidCycle_freeDraws (p : ParcelNo) :
    (s.voidCycle p).freeDraws = s.freeDraws := by simp [State.voidCycle]
@[simp] theorem State.voidCycle_pending (p : ParcelNo) :
    (s.voidCycle p).pending = s.pending := by simp [State.voidCycle]

@[simp] theorem State.cancelJobs_clock (p : ParcelNo) :
    (s.cancelJobs p).clock = s.clock := by simp [State.cancelJobs]
@[simp] theorem State.cancelJobs_msec (p : ParcelNo) :
    (s.cancelJobs p).msec = s.msec := by simp [State.cancelJobs]
@[simp] theorem State.cancelJobs_resetCause (p : ParcelNo) :
    (s.cancelJobs p).resetCause = s.resetCause := by simp [State.cancelJobs]
@[simp] theorem State.cancelJobs_straps (p : ParcelNo) :
    (s.cancelJobs p).straps = s.straps := by simp [State.cancelJobs]
@[simp] theorem State.cancelJobs_calendar (p : ParcelNo) :
    (s.cancelJobs p).calendar = s.calendar := by simp [State.cancelJobs]
@[simp] theorem State.cancelJobs_tanks (p : ParcelNo) :
    (s.cancelJobs p).tanks = s.tanks := by simp [State.cancelJobs]
@[simp] theorem State.cancelJobs_att (p : ParcelNo) :
    (s.cancelJobs p).att = s.att := by simp [State.cancelJobs]
@[simp] theorem State.cancelJobs_meters (p : ParcelNo) :
    (s.cancelJobs p).meters = s.meters := by simp [State.cancelJobs]
@[simp] theorem State.cancelJobs_parcels (p : ParcelNo) :
    (s.cancelJobs p).parcels = s.parcels := by simp [State.cancelJobs]
@[simp] theorem State.cancelJobs_restoreLost (p : ParcelNo) :
    (s.cancelJobs p).restoreLost = s.restoreLost := by simp [State.cancelJobs]
@[simp] theorem State.cancelJobs_store (p : ParcelNo) :
    (s.cancelJobs p).store = s.store := by simp [State.cancelJobs]
@[simp] theorem State.cancelJobs_vefLoad (p : ParcelNo) :
    (s.cancelJobs p).vefLoad = s.vefLoad := by simp [State.cancelJobs]
@[simp] theorem State.cancelJobs_vefDischarge (p : ParcelNo) :
    (s.cancelJobs p).vefDischarge = s.vefDischarge := by simp [State.cancelJobs]
@[simp] theorem State.cancelJobs_lines (p : ParcelNo) :
    (s.cancelJobs p).lines = s.lines := by simp [State.cancelJobs]
@[simp] theorem State.cancelJobs_ship (p : ParcelNo) :
    (s.cancelJobs p).ship = s.ship := by simp [State.cancelJobs]
@[simp] theorem State.cancelJobs_shore (p : ParcelNo) :
    (s.cancelJobs p).shore = s.shore := by simp [State.cancelJobs]
@[simp] theorem State.cancelJobs_survey (p : ParcelNo) :
    (s.cancelJobs p).survey = s.survey := by simp [State.cancelJobs]
@[simp] theorem State.cancelJobs_freeDraws (p : ParcelNo) :
    (s.cancelJobs p).freeDraws = s.freeDraws := by simp [State.cancelJobs]
@[simp] theorem State.cancelJobs_pending (p : ParcelNo) :
    (s.cancelJobs p).pending = s.pending := by simp [State.cancelJobs]

@[simp] theorem State.engineIdle_clock  :
    (s.engineIdle).clock = s.clock := by simp [State.engineIdle]
@[simp] theorem State.engineIdle_msec  :
    (s.engineIdle).msec = s.msec := by simp [State.engineIdle]
@[simp] theorem State.engineIdle_resetCause  :
    (s.engineIdle).resetCause = s.resetCause := by simp [State.engineIdle]
@[simp] theorem State.engineIdle_straps  :
    (s.engineIdle).straps = s.straps := by simp [State.engineIdle]
@[simp] theorem State.engineIdle_calendar  :
    (s.engineIdle).calendar = s.calendar := by simp [State.engineIdle]
@[simp] theorem State.engineIdle_tanks  :
    (s.engineIdle).tanks = s.tanks := by simp [State.engineIdle]
@[simp] theorem State.engineIdle_att  :
    (s.engineIdle).att = s.att := by simp [State.engineIdle]
@[simp] theorem State.engineIdle_meters  :
    (s.engineIdle).meters = s.meters := by simp [State.engineIdle]
@[simp] theorem State.engineIdle_parcels  :
    (s.engineIdle).parcels = s.parcels := by simp [State.engineIdle]
@[simp] theorem State.engineIdle_restoreLost  :
    (s.engineIdle).restoreLost = s.restoreLost := by simp [State.engineIdle]
@[simp] theorem State.engineIdle_store  :
    (s.engineIdle).store = s.store := by simp [State.engineIdle]
@[simp] theorem State.engineIdle_vefLoad  :
    (s.engineIdle).vefLoad = s.vefLoad := by simp [State.engineIdle]
@[simp] theorem State.engineIdle_vefDischarge  :
    (s.engineIdle).vefDischarge = s.vefDischarge := by simp [State.engineIdle]
@[simp] theorem State.engineIdle_lines  :
    (s.engineIdle).lines = s.lines := by simp [State.engineIdle]
@[simp] theorem State.engineIdle_ship  :
    (s.engineIdle).ship = s.ship := by simp [State.engineIdle]
@[simp] theorem State.engineIdle_shore  :
    (s.engineIdle).shore = s.shore := by simp [State.engineIdle]
@[simp] theorem State.engineIdle_survey  :
    (s.engineIdle).survey = s.survey := by simp [State.engineIdle]
@[simp] theorem State.engineIdle_freeDraws  :
    (s.engineIdle).freeDraws = s.freeDraws := by simp [State.engineIdle]
@[simp] theorem State.engineIdle_pending  :
    (s.engineIdle).pending = s.pending := by simp [State.engineIdle]

/-! ### Sources -/

@[simp] theorem State.drawTank_clock (n : Nat) (p : ParcelNo) (d : Nat) :
    (s.drawTank n p d).clock = s.clock := by simp [State.drawTank]
@[simp] theorem State.drawTank_msec (n : Nat) (p : ParcelNo) (d : Nat) :
    (s.drawTank n p d).msec = s.msec := by simp [State.drawTank]
@[simp] theorem State.drawTank_resetCause (n : Nat) (p : ParcelNo) (d : Nat) :
    (s.drawTank n p d).resetCause = s.resetCause := by simp [State.drawTank]
@[simp] theorem State.drawTank_straps (n : Nat) (p : ParcelNo) (d : Nat) :
    (s.drawTank n p d).straps = s.straps := by simp [State.drawTank]
@[simp] theorem State.drawTank_calendar (n : Nat) (p : ParcelNo) (d : Nat) :
    (s.drawTank n p d).calendar = s.calendar := by simp [State.drawTank]
@[simp] theorem State.drawTank_att (n : Nat) (p : ParcelNo) (d : Nat) :
    (s.drawTank n p d).att = s.att := by simp [State.drawTank]
@[simp] theorem State.drawTank_meters (n : Nat) (p : ParcelNo) (d : Nat) :
    (s.drawTank n p d).meters = s.meters := by simp [State.drawTank]
@[simp] theorem State.drawTank_parcels (n : Nat) (p : ParcelNo) (d : Nat) :
    (s.drawTank n p d).parcels = s.parcels := by simp [State.drawTank]
@[simp] theorem State.drawTank_restoreLost (n : Nat) (p : ParcelNo) (d : Nat) :
    (s.drawTank n p d).restoreLost = s.restoreLost := by simp [State.drawTank]
@[simp] theorem State.drawTank_engine (n : Nat) (p : ParcelNo) (d : Nat) :
    (s.drawTank n p d).engine = s.engine := by simp [State.drawTank]
@[simp] theorem State.drawTank_store (n : Nat) (p : ParcelNo) (d : Nat) :
    (s.drawTank n p d).store = s.store := by simp [State.drawTank]
@[simp] theorem State.drawTank_vefLoad (n : Nat) (p : ParcelNo) (d : Nat) :
    (s.drawTank n p d).vefLoad = s.vefLoad := by simp [State.drawTank]
@[simp] theorem State.drawTank_vefDischarge (n : Nat) (p : ParcelNo) (d : Nat) :
    (s.drawTank n p d).vefDischarge = s.vefDischarge := by simp [State.drawTank]
@[simp] theorem State.drawTank_lines (n : Nat) (p : ParcelNo) (d : Nat) :
    (s.drawTank n p d).lines = s.lines := by simp [State.drawTank]
@[simp] theorem State.drawTank_ship (n : Nat) (p : ParcelNo) (d : Nat) :
    (s.drawTank n p d).ship = s.ship := by simp [State.drawTank]
@[simp] theorem State.drawTank_shore (n : Nat) (p : ParcelNo) (d : Nat) :
    (s.drawTank n p d).shore = s.shore := by simp [State.drawTank]
@[simp] theorem State.drawTank_survey (n : Nat) (p : ParcelNo) (d : Nat) :
    (s.drawTank n p d).survey = s.survey := by simp [State.drawTank]
@[simp] theorem State.drawTank_freeDraws (n : Nat) (p : ParcelNo) (d : Nat) :
    (s.drawTank n p d).freeDraws = s.freeDraws := by simp [State.drawTank]
@[simp] theorem State.drawTank_pending (n : Nat) (p : ParcelNo) (d : Nat) :
    (s.drawTank n p d).pending = s.pending := by simp [State.drawTank]

@[simp] theorem State.drawMeter_clock (n : Nat) (p : ParcelNo) (d : Nat) :
    (s.drawMeter n p d).clock = s.clock := by simp [State.drawMeter]
@[simp] theorem State.drawMeter_msec (n : Nat) (p : ParcelNo) (d : Nat) :
    (s.drawMeter n p d).msec = s.msec := by simp [State.drawMeter]
@[simp] theorem State.drawMeter_resetCause (n : Nat) (p : ParcelNo) (d : Nat) :
    (s.drawMeter n p d).resetCause = s.resetCause := by simp [State.drawMeter]
@[simp] theorem State.drawMeter_straps (n : Nat) (p : ParcelNo) (d : Nat) :
    (s.drawMeter n p d).straps = s.straps := by simp [State.drawMeter]
@[simp] theorem State.drawMeter_calendar (n : Nat) (p : ParcelNo) (d : Nat) :
    (s.drawMeter n p d).calendar = s.calendar := by simp [State.drawMeter]
@[simp] theorem State.drawMeter_tanks (n : Nat) (p : ParcelNo) (d : Nat) :
    (s.drawMeter n p d).tanks = s.tanks := by simp [State.drawMeter]
@[simp] theorem State.drawMeter_att (n : Nat) (p : ParcelNo) (d : Nat) :
    (s.drawMeter n p d).att = s.att := by simp [State.drawMeter]
@[simp] theorem State.drawMeter_parcels (n : Nat) (p : ParcelNo) (d : Nat) :
    (s.drawMeter n p d).parcels = s.parcels := by simp [State.drawMeter]
@[simp] theorem State.drawMeter_restoreLost (n : Nat) (p : ParcelNo) (d : Nat) :
    (s.drawMeter n p d).restoreLost = s.restoreLost := by simp [State.drawMeter]
@[simp] theorem State.drawMeter_engine (n : Nat) (p : ParcelNo) (d : Nat) :
    (s.drawMeter n p d).engine = s.engine := by simp [State.drawMeter]
@[simp] theorem State.drawMeter_store (n : Nat) (p : ParcelNo) (d : Nat) :
    (s.drawMeter n p d).store = s.store := by simp [State.drawMeter]
@[simp] theorem State.drawMeter_vefLoad (n : Nat) (p : ParcelNo) (d : Nat) :
    (s.drawMeter n p d).vefLoad = s.vefLoad := by simp [State.drawMeter]
@[simp] theorem State.drawMeter_vefDischarge (n : Nat) (p : ParcelNo) (d : Nat) :
    (s.drawMeter n p d).vefDischarge = s.vefDischarge := by simp [State.drawMeter]
@[simp] theorem State.drawMeter_lines (n : Nat) (p : ParcelNo) (d : Nat) :
    (s.drawMeter n p d).lines = s.lines := by simp [State.drawMeter]
@[simp] theorem State.drawMeter_ship (n : Nat) (p : ParcelNo) (d : Nat) :
    (s.drawMeter n p d).ship = s.ship := by simp [State.drawMeter]
@[simp] theorem State.drawMeter_shore (n : Nat) (p : ParcelNo) (d : Nat) :
    (s.drawMeter n p d).shore = s.shore := by simp [State.drawMeter]
@[simp] theorem State.drawMeter_survey (n : Nat) (p : ParcelNo) (d : Nat) :
    (s.drawMeter n p d).survey = s.survey := by simp [State.drawMeter]
@[simp] theorem State.drawMeter_freeDraws (n : Nat) (p : ParcelNo) (d : Nat) :
    (s.drawMeter n p d).freeDraws = s.freeDraws := by simp [State.drawMeter]
@[simp] theorem State.drawMeter_pending (n : Nat) (p : ParcelNo) (d : Nat) :
    (s.drawMeter n p d).pending = s.pending := by simp [State.drawMeter]

@[simp] theorem State.returnTank_clock (n : Nat) :
    (s.returnTank n).clock = s.clock := by simp [State.returnTank]
@[simp] theorem State.returnTank_msec (n : Nat) :
    (s.returnTank n).msec = s.msec := by simp [State.returnTank]
@[simp] theorem State.returnTank_resetCause (n : Nat) :
    (s.returnTank n).resetCause = s.resetCause := by simp [State.returnTank]
@[simp] theorem State.returnTank_straps (n : Nat) :
    (s.returnTank n).straps = s.straps := by simp [State.returnTank]
@[simp] theorem State.returnTank_calendar (n : Nat) :
    (s.returnTank n).calendar = s.calendar := by simp [State.returnTank]
@[simp] theorem State.returnTank_att (n : Nat) :
    (s.returnTank n).att = s.att := by simp [State.returnTank]
@[simp] theorem State.returnTank_meters (n : Nat) :
    (s.returnTank n).meters = s.meters := by simp [State.returnTank]
@[simp] theorem State.returnTank_parcels (n : Nat) :
    (s.returnTank n).parcels = s.parcels := by simp [State.returnTank]
@[simp] theorem State.returnTank_restoreLost (n : Nat) :
    (s.returnTank n).restoreLost = s.restoreLost := by simp [State.returnTank]
@[simp] theorem State.returnTank_engine (n : Nat) :
    (s.returnTank n).engine = s.engine := by simp [State.returnTank]
@[simp] theorem State.returnTank_store (n : Nat) :
    (s.returnTank n).store = s.store := by simp [State.returnTank]
@[simp] theorem State.returnTank_vefLoad (n : Nat) :
    (s.returnTank n).vefLoad = s.vefLoad := by simp [State.returnTank]
@[simp] theorem State.returnTank_vefDischarge (n : Nat) :
    (s.returnTank n).vefDischarge = s.vefDischarge := by simp [State.returnTank]
@[simp] theorem State.returnTank_lines (n : Nat) :
    (s.returnTank n).lines = s.lines := by simp [State.returnTank]
@[simp] theorem State.returnTank_ship (n : Nat) :
    (s.returnTank n).ship = s.ship := by simp [State.returnTank]
@[simp] theorem State.returnTank_shore (n : Nat) :
    (s.returnTank n).shore = s.shore := by simp [State.returnTank]
@[simp] theorem State.returnTank_survey (n : Nat) :
    (s.returnTank n).survey = s.survey := by simp [State.returnTank]
@[simp] theorem State.returnTank_freeDraws (n : Nat) :
    (s.returnTank n).freeDraws = s.freeDraws := by simp [State.returnTank]
@[simp] theorem State.returnTank_pending (n : Nat) :
    (s.returnTank n).pending = s.pending := by simp [State.returnTank]

@[simp] theorem State.returnMeter_clock (n : Nat) :
    (s.returnMeter n).clock = s.clock := by simp [State.returnMeter]
@[simp] theorem State.returnMeter_msec (n : Nat) :
    (s.returnMeter n).msec = s.msec := by simp [State.returnMeter]
@[simp] theorem State.returnMeter_resetCause (n : Nat) :
    (s.returnMeter n).resetCause = s.resetCause := by simp [State.returnMeter]
@[simp] theorem State.returnMeter_straps (n : Nat) :
    (s.returnMeter n).straps = s.straps := by simp [State.returnMeter]
@[simp] theorem State.returnMeter_calendar (n : Nat) :
    (s.returnMeter n).calendar = s.calendar := by simp [State.returnMeter]
@[simp] theorem State.returnMeter_tanks (n : Nat) :
    (s.returnMeter n).tanks = s.tanks := by simp [State.returnMeter]
@[simp] theorem State.returnMeter_att (n : Nat) :
    (s.returnMeter n).att = s.att := by simp [State.returnMeter]
@[simp] theorem State.returnMeter_parcels (n : Nat) :
    (s.returnMeter n).parcels = s.parcels := by simp [State.returnMeter]
@[simp] theorem State.returnMeter_restoreLost (n : Nat) :
    (s.returnMeter n).restoreLost = s.restoreLost := by simp [State.returnMeter]
@[simp] theorem State.returnMeter_engine (n : Nat) :
    (s.returnMeter n).engine = s.engine := by simp [State.returnMeter]
@[simp] theorem State.returnMeter_store (n : Nat) :
    (s.returnMeter n).store = s.store := by simp [State.returnMeter]
@[simp] theorem State.returnMeter_vefLoad (n : Nat) :
    (s.returnMeter n).vefLoad = s.vefLoad := by simp [State.returnMeter]
@[simp] theorem State.returnMeter_vefDischarge (n : Nat) :
    (s.returnMeter n).vefDischarge = s.vefDischarge := by simp [State.returnMeter]
@[simp] theorem State.returnMeter_lines (n : Nat) :
    (s.returnMeter n).lines = s.lines := by simp [State.returnMeter]
@[simp] theorem State.returnMeter_ship (n : Nat) :
    (s.returnMeter n).ship = s.ship := by simp [State.returnMeter]
@[simp] theorem State.returnMeter_shore (n : Nat) :
    (s.returnMeter n).shore = s.shore := by simp [State.returnMeter]
@[simp] theorem State.returnMeter_survey (n : Nat) :
    (s.returnMeter n).survey = s.survey := by simp [State.returnMeter]
@[simp] theorem State.returnMeter_freeDraws (n : Nat) :
    (s.returnMeter n).freeDraws = s.freeDraws := by simp [State.returnMeter]
@[simp] theorem State.returnMeter_pending (n : Nat) :
    (s.returnMeter n).pending = s.pending := by simp [State.returnMeter]

@[simp] theorem State.returnSources_clock (p : ParcelNo) :
    (s.returnSources p).clock = s.clock := by
  unfold State.returnSources; rw [foldl_keeps State.clock State.returnMeter_clock, foldl_keeps State.clock State.returnTank_clock]
@[simp] theorem State.returnSources_msec (p : ParcelNo) :
    (s.returnSources p).msec = s.msec := by
  unfold State.returnSources; rw [foldl_keeps State.msec State.returnMeter_msec, foldl_keeps State.msec State.returnTank_msec]
@[simp] theorem State.returnSources_resetCause (p : ParcelNo) :
    (s.returnSources p).resetCause = s.resetCause := by
  unfold State.returnSources; rw [foldl_keeps State.resetCause State.returnMeter_resetCause, foldl_keeps State.resetCause State.returnTank_resetCause]
@[simp] theorem State.returnSources_straps (p : ParcelNo) :
    (s.returnSources p).straps = s.straps := by
  unfold State.returnSources; rw [foldl_keeps State.straps State.returnMeter_straps, foldl_keeps State.straps State.returnTank_straps]
@[simp] theorem State.returnSources_calendar (p : ParcelNo) :
    (s.returnSources p).calendar = s.calendar := by
  unfold State.returnSources; rw [foldl_keeps State.calendar State.returnMeter_calendar, foldl_keeps State.calendar State.returnTank_calendar]
@[simp] theorem State.returnSources_att (p : ParcelNo) :
    (s.returnSources p).att = s.att := by
  unfold State.returnSources; rw [foldl_keeps State.att State.returnMeter_att, foldl_keeps State.att State.returnTank_att]
@[simp] theorem State.returnSources_parcels (p : ParcelNo) :
    (s.returnSources p).parcels = s.parcels := by
  unfold State.returnSources; rw [foldl_keeps State.parcels State.returnMeter_parcels, foldl_keeps State.parcels State.returnTank_parcels]
@[simp] theorem State.returnSources_restoreLost (p : ParcelNo) :
    (s.returnSources p).restoreLost = s.restoreLost := by
  unfold State.returnSources; rw [foldl_keeps State.restoreLost State.returnMeter_restoreLost, foldl_keeps State.restoreLost State.returnTank_restoreLost]
@[simp] theorem State.returnSources_engine (p : ParcelNo) :
    (s.returnSources p).engine = s.engine := by
  unfold State.returnSources; rw [foldl_keeps State.engine State.returnMeter_engine, foldl_keeps State.engine State.returnTank_engine]
@[simp] theorem State.returnSources_store (p : ParcelNo) :
    (s.returnSources p).store = s.store := by
  unfold State.returnSources; rw [foldl_keeps State.store State.returnMeter_store, foldl_keeps State.store State.returnTank_store]
@[simp] theorem State.returnSources_vefLoad (p : ParcelNo) :
    (s.returnSources p).vefLoad = s.vefLoad := by
  unfold State.returnSources; rw [foldl_keeps State.vefLoad State.returnMeter_vefLoad, foldl_keeps State.vefLoad State.returnTank_vefLoad]
@[simp] theorem State.returnSources_vefDischarge (p : ParcelNo) :
    (s.returnSources p).vefDischarge = s.vefDischarge := by
  unfold State.returnSources; rw [foldl_keeps State.vefDischarge State.returnMeter_vefDischarge, foldl_keeps State.vefDischarge State.returnTank_vefDischarge]
@[simp] theorem State.returnSources_lines (p : ParcelNo) :
    (s.returnSources p).lines = s.lines := by
  unfold State.returnSources; rw [foldl_keeps State.lines State.returnMeter_lines, foldl_keeps State.lines State.returnTank_lines]
@[simp] theorem State.returnSources_ship (p : ParcelNo) :
    (s.returnSources p).ship = s.ship := by
  unfold State.returnSources; rw [foldl_keeps State.ship State.returnMeter_ship, foldl_keeps State.ship State.returnTank_ship]
@[simp] theorem State.returnSources_shore (p : ParcelNo) :
    (s.returnSources p).shore = s.shore := by
  unfold State.returnSources; rw [foldl_keeps State.shore State.returnMeter_shore, foldl_keeps State.shore State.returnTank_shore]
@[simp] theorem State.returnSources_survey (p : ParcelNo) :
    (s.returnSources p).survey = s.survey := by
  unfold State.returnSources; rw [foldl_keeps State.survey State.returnMeter_survey, foldl_keeps State.survey State.returnTank_survey]
@[simp] theorem State.returnSources_freeDraws (p : ParcelNo) :
    (s.returnSources p).freeDraws = s.freeDraws := by
  unfold State.returnSources; rw [foldl_keeps State.freeDraws State.returnMeter_freeDraws, foldl_keeps State.freeDraws State.returnTank_freeDraws]
@[simp] theorem State.returnSources_pending (p : ParcelNo) :
    (s.returnSources p).pending = s.pending := by
  unfold State.returnSources; rw [foldl_keeps State.pending State.returnMeter_pending, foldl_keeps State.pending State.returnTank_pending]

/-! ### Suspending, resuming, closing, freeing -/

@[simp] theorem State.suspendWith_clock (p : ParcelNo) (x : SuspendSet) (c : Cause) :
    (s.suspendWith p x c).clock = s.clock := by
  simp only [State.suspendWith]; split <;> simp
@[simp] theorem State.suspendWith_msec (p : ParcelNo) (x : SuspendSet) (c : Cause) :
    (s.suspendWith p x c).msec = s.msec := by
  simp only [State.suspendWith]; split <;> simp
@[simp] theorem State.suspendWith_resetCause (p : ParcelNo) (x : SuspendSet) (c : Cause) :
    (s.suspendWith p x c).resetCause = s.resetCause := by
  simp only [State.suspendWith]; split <;> simp
@[simp] theorem State.suspendWith_straps (p : ParcelNo) (x : SuspendSet) (c : Cause) :
    (s.suspendWith p x c).straps = s.straps := by
  simp only [State.suspendWith]; split <;> simp
@[simp] theorem State.suspendWith_calendar (p : ParcelNo) (x : SuspendSet) (c : Cause) :
    (s.suspendWith p x c).calendar = s.calendar := by
  simp only [State.suspendWith]; split <;> simp
@[simp] theorem State.suspendWith_tanks (p : ParcelNo) (x : SuspendSet) (c : Cause) :
    (s.suspendWith p x c).tanks = s.tanks := by
  simp only [State.suspendWith]; split <;> simp
@[simp] theorem State.suspendWith_att (p : ParcelNo) (x : SuspendSet) (c : Cause) :
    (s.suspendWith p x c).att = s.att := by
  simp only [State.suspendWith]; split <;> simp
@[simp] theorem State.suspendWith_meters (p : ParcelNo) (x : SuspendSet) (c : Cause) :
    (s.suspendWith p x c).meters = s.meters := by
  simp only [State.suspendWith]; split <;> simp
@[simp] theorem State.suspendWith_restoreLost (p : ParcelNo) (x : SuspendSet) (c : Cause) :
    (s.suspendWith p x c).restoreLost = s.restoreLost := by
  simp only [State.suspendWith]; split <;> simp
@[simp] theorem State.suspendWith_vefLoad (p : ParcelNo) (x : SuspendSet) (c : Cause) :
    (s.suspendWith p x c).vefLoad = s.vefLoad := by
  simp only [State.suspendWith]; split <;> simp
@[simp] theorem State.suspendWith_vefDischarge (p : ParcelNo) (x : SuspendSet) (c : Cause) :
    (s.suspendWith p x c).vefDischarge = s.vefDischarge := by
  simp only [State.suspendWith]; split <;> simp
@[simp] theorem State.suspendWith_freeDraws (p : ParcelNo) (x : SuspendSet) (c : Cause) :
    (s.suspendWith p x c).freeDraws = s.freeDraws := by
  simp only [State.suspendWith]; split <;> simp
@[simp] theorem State.suspendWith_pending (p : ParcelNo) (x : SuspendSet) (c : Cause) :
    (s.suspendWith p x c).pending = s.pending := by
  simp only [State.suspendWith]; split <;> simp

@[simp] theorem State.resumeWith_clock (p : ParcelNo) (x : SuspendSet) (rr : PartySet) (c : Cause) :
    (s.resumeWith p x rr c).clock = s.clock := by
  simp only [State.resumeWith]; split <;> simp
@[simp] theorem State.resumeWith_msec (p : ParcelNo) (x : SuspendSet) (rr : PartySet) (c : Cause) :
    (s.resumeWith p x rr c).msec = s.msec := by
  simp only [State.resumeWith]; split <;> simp
@[simp] theorem State.resumeWith_resetCause (p : ParcelNo) (x : SuspendSet) (rr : PartySet) (c : Cause) :
    (s.resumeWith p x rr c).resetCause = s.resetCause := by
  simp only [State.resumeWith]; split <;> simp
@[simp] theorem State.resumeWith_straps (p : ParcelNo) (x : SuspendSet) (rr : PartySet) (c : Cause) :
    (s.resumeWith p x rr c).straps = s.straps := by
  simp only [State.resumeWith]; split <;> simp
@[simp] theorem State.resumeWith_calendar (p : ParcelNo) (x : SuspendSet) (rr : PartySet) (c : Cause) :
    (s.resumeWith p x rr c).calendar = s.calendar := by
  simp only [State.resumeWith]; split <;> simp
@[simp] theorem State.resumeWith_tanks (p : ParcelNo) (x : SuspendSet) (rr : PartySet) (c : Cause) :
    (s.resumeWith p x rr c).tanks = s.tanks := by
  simp only [State.resumeWith]; split <;> simp
@[simp] theorem State.resumeWith_att (p : ParcelNo) (x : SuspendSet) (rr : PartySet) (c : Cause) :
    (s.resumeWith p x rr c).att = s.att := by
  simp only [State.resumeWith]; split <;> simp
@[simp] theorem State.resumeWith_meters (p : ParcelNo) (x : SuspendSet) (rr : PartySet) (c : Cause) :
    (s.resumeWith p x rr c).meters = s.meters := by
  simp only [State.resumeWith]; split <;> simp
@[simp] theorem State.resumeWith_restoreLost (p : ParcelNo) (x : SuspendSet) (rr : PartySet) (c : Cause) :
    (s.resumeWith p x rr c).restoreLost = s.restoreLost := by
  simp only [State.resumeWith]; split <;> simp
@[simp] theorem State.resumeWith_engine (p : ParcelNo) (x : SuspendSet) (rr : PartySet) (c : Cause) :
    (s.resumeWith p x rr c).engine = s.engine := by
  simp only [State.resumeWith]; split <;> simp
@[simp] theorem State.resumeWith_store (p : ParcelNo) (x : SuspendSet) (rr : PartySet) (c : Cause) :
    (s.resumeWith p x rr c).store = s.store := by
  simp only [State.resumeWith]; split <;> simp
@[simp] theorem State.resumeWith_vefLoad (p : ParcelNo) (x : SuspendSet) (rr : PartySet) (c : Cause) :
    (s.resumeWith p x rr c).vefLoad = s.vefLoad := by
  simp only [State.resumeWith]; split <;> simp
@[simp] theorem State.resumeWith_vefDischarge (p : ParcelNo) (x : SuspendSet) (rr : PartySet) (c : Cause) :
    (s.resumeWith p x rr c).vefDischarge = s.vefDischarge := by
  simp only [State.resumeWith]; split <;> simp
@[simp] theorem State.resumeWith_freeDraws (p : ParcelNo) (x : SuspendSet) (rr : PartySet) (c : Cause) :
    (s.resumeWith p x rr c).freeDraws = s.freeDraws := by
  simp only [State.resumeWith]; split <;> simp
@[simp] theorem State.resumeWith_pending (p : ParcelNo) (x : SuspendSet) (rr : PartySet) (c : Cause) :
    (s.resumeWith p x rr c).pending = s.pending := by
  simp only [State.resumeWith]; split <;> simp

@[simp] theorem State.executeClose_clock (p : ParcelNo) (c : Cause) :
    (s.executeClose p c).clock = s.clock := by
  simp only [State.executeClose]; split <;> simp
@[simp] theorem State.executeClose_msec (p : ParcelNo) (c : Cause) :
    (s.executeClose p c).msec = s.msec := by
  simp only [State.executeClose]; split <;> simp
@[simp] theorem State.executeClose_resetCause (p : ParcelNo) (c : Cause) :
    (s.executeClose p c).resetCause = s.resetCause := by
  simp only [State.executeClose]; split <;> simp
@[simp] theorem State.executeClose_straps (p : ParcelNo) (c : Cause) :
    (s.executeClose p c).straps = s.straps := by
  simp only [State.executeClose]; split <;> simp
@[simp] theorem State.executeClose_calendar (p : ParcelNo) (c : Cause) :
    (s.executeClose p c).calendar = s.calendar := by
  simp only [State.executeClose]; split <;> simp
@[simp] theorem State.executeClose_tanks (p : ParcelNo) (c : Cause) :
    (s.executeClose p c).tanks = s.tanks := by
  simp only [State.executeClose]; split <;> simp
@[simp] theorem State.executeClose_att (p : ParcelNo) (c : Cause) :
    (s.executeClose p c).att = s.att := by
  simp only [State.executeClose]; split <;> simp
@[simp] theorem State.executeClose_meters (p : ParcelNo) (c : Cause) :
    (s.executeClose p c).meters = s.meters := by
  simp only [State.executeClose]; split <;> simp
@[simp] theorem State.executeClose_restoreLost (p : ParcelNo) (c : Cause) :
    (s.executeClose p c).restoreLost = s.restoreLost := by
  simp only [State.executeClose]; split <;> simp
@[simp] theorem State.executeClose_store (p : ParcelNo) (c : Cause) :
    (s.executeClose p c).store = s.store := by
  simp only [State.executeClose]; split <;> simp
@[simp] theorem State.executeClose_vefLoad (p : ParcelNo) (c : Cause) :
    (s.executeClose p c).vefLoad = s.vefLoad := by
  simp only [State.executeClose]; split <;> simp
@[simp] theorem State.executeClose_vefDischarge (p : ParcelNo) (c : Cause) :
    (s.executeClose p c).vefDischarge = s.vefDischarge := by
  simp only [State.executeClose]; split <;> simp
@[simp] theorem State.executeClose_freeDraws (p : ParcelNo) (c : Cause) :
    (s.executeClose p c).freeDraws = s.freeDraws := by
  simp only [State.executeClose]; split <;> simp
@[simp] theorem State.executeClose_pending (p : ParcelNo) (c : Cause) :
    (s.executeClose p c).pending = s.pending := by
  simp only [State.executeClose]; split <;> simp

@[simp] theorem State.returnToFree_clock (p : ParcelNo) (c : Cause) :
    (s.returnToFree p c).clock = s.clock := by simp [State.returnToFree]
@[simp] theorem State.returnToFree_msec (p : ParcelNo) (c : Cause) :
    (s.returnToFree p c).msec = s.msec := by simp [State.returnToFree]
@[simp] theorem State.returnToFree_resetCause (p : ParcelNo) (c : Cause) :
    (s.returnToFree p c).resetCause = s.resetCause := by simp [State.returnToFree]
@[simp] theorem State.returnToFree_straps (p : ParcelNo) (c : Cause) :
    (s.returnToFree p c).straps = s.straps := by simp [State.returnToFree]
@[simp] theorem State.returnToFree_calendar (p : ParcelNo) (c : Cause) :
    (s.returnToFree p c).calendar = s.calendar := by simp [State.returnToFree]
@[simp] theorem State.returnToFree_att (p : ParcelNo) (c : Cause) :
    (s.returnToFree p c).att = s.att := by simp [State.returnToFree]
@[simp] theorem State.returnToFree_restoreLost (p : ParcelNo) (c : Cause) :
    (s.returnToFree p c).restoreLost = s.restoreLost := by simp [State.returnToFree]
@[simp] theorem State.returnToFree_engine (p : ParcelNo) (c : Cause) :
    (s.returnToFree p c).engine = s.engine := by simp [State.returnToFree]
@[simp] theorem State.returnToFree_store (p : ParcelNo) (c : Cause) :
    (s.returnToFree p c).store = s.store := by simp [State.returnToFree]
@[simp] theorem State.returnToFree_vefLoad (p : ParcelNo) (c : Cause) :
    (s.returnToFree p c).vefLoad = s.vefLoad := by simp [State.returnToFree]
@[simp] theorem State.returnToFree_vefDischarge (p : ParcelNo) (c : Cause) :
    (s.returnToFree p c).vefDischarge = s.vefDischarge := by simp [State.returnToFree]
@[simp] theorem State.returnToFree_freeDraws (p : ParcelNo) (c : Cause) :
    (s.returnToFree p c).freeDraws = s.freeDraws := by simp [State.returnToFree]
@[simp] theorem State.returnToFree_pending (p : ParcelNo) (c : Cause) :
    (s.returnToFree p c).pending = s.pending := by simp [State.returnToFree]

end Sys2Proof.Machine
end

