-- ==== Sys2Proof/Laws/Checks.lean ====
section
/-!
SUPPORT. What a checkpoint request, a loop reading, a backward hold, the form of an offer, a numbered search, the oldest of
a list of instants, a corrected ullage, a rounded quotient and a source after reset come to, in the terms of Safety.lean.
-/

namespace Sys2Proof.Machine

/-- The content of a checkpoint is of the records and sources alone, which a request does not touch. -/
@[simp] theorem State.requestCheckpoint_checkpointCopy (s : State) (p q : ParcelNo) :
    (s.requestCheckpoint p).checkpointCopy q = s.checkpointCopy q := by
  simp only [State.requestCheckpoint]
  split <;> rfl

/-- Everything a checkpoint request does (R25). -/
theorem State.requestCheckpoint_requested (s : State) (p : ParcelNo) :
    CheckpointRequested p s (s.requestCheckpoint p) := by
  unfold CheckpointRequested
  rw [State.requestCheckpoint_checkpointCopy]
  simp only [State.requestCheckpoint]
  split <;> rfl

@[simp] theorem QueueEntry.withCopy_none (copy : ParcelNo → Checkpoint) (e : QueueEntry) :
    e.withCopy (fun _ => false) copy = e := by
  cases e <;> rfl

/-- With no parcel asking, the queue is as it was. -/
theorem checkpointsPlaced_none (copy : ParcelNo → Checkpoint) (q : List QueueEntry) :
    CheckpointsPlaced (fun _ => false) copy q q := by
  simp [CheckpointsPlaced, funext (QueueEntry.withCopy_none copy)]

/-- What a loop reading makes of the candidate (R207). -/
theorem InputState.sample_candidate (x : InputState) (straps : Straps) (i : InputName) (microamps now : Nat) :
    (x.reads straps i microamps ≠ x.level →
      (x.sample straps i microamps now).candidate = some (x.candidate.getD now))
    ∧ (x.reads straps i microamps = x.level → x.due now = false → (x.sample straps i microamps now).candidate = none)
    ∧ (x.reads straps i microamps = x.level → x.due now = true →
      (x.sample straps i microamps now).candidate = x.candidate) := by
  refine ⟨fun h => ?_, fun h d => ?_, fun h d => ?_⟩ <;> simp [InputState.sample, *]

/-- The form check of OFFER_BASIS is the form of its payload (section 2.1, R197), on a link that may make an offer. -/
theorem offerForm_iff_formed (l : Link) (pl : List Byte) :
    offerForm l pl = true ↔ l ≠ .survey ∧ Req.formed .offerBasis l pl := by
  cases l <;> simp [offerForm, Req.formed, formLen]

/-- What a meter observation makes of a hold on a backward step (R50): a meter whose hold a reassignment ended takes its
next total as given; a sentinel leaves the hold; any other total begins it or ends it. -/
theorem MeterObs.stepHold_cases (o : MeterObs) (m : MeterSource) :
    (m.stepHold = .ended → o.backward m = false)
    ∧ (o.givenTotal = none → o.stepHold m = m.stepHold)
    ∧ (∀ v, o.givenTotal = some v → o.stepHold m = if o.backward m then .holding else .none) := by
  refine ⟨fun h => ?_, fun h => ?_, fun v h => ?_⟩ <;> simp [MeterObs.backward, MeterObs.stepHold, h]

/-- The first entry that carries a number is the one a search for the number finds. -/
theorem FirstNumbered.find?_eq {α : Type} {number : α → Nat} {xs : List α} {n : Nat} {x : α}
    (h : FirstNumbered number xs n x) : xs.find? (fun y => decide (number y = n)) = some x := by
  obtain ⟨before, after, rfl, hx, hb⟩ := h
  rw [List.find?_append, List.find?_eq_none.mpr (by simpa using hb)]
  simp [hx]

/-- Everything `oldestOf` says (R83): an instant of its list, of the greatest age. -/
theorem oldestOf_spec (start : Instant) (ts : List Instant) (best : Instant) :
    oldestOf start best ts ∈ best :: ts ∧ ∀ t ∈ best :: ts, age start t ≤ age start (oldestOf start best ts) := by
  induction ts generalizing best with
  | nil => simp [oldestOf]
  | cons t rest ih =>
    have h1 := ih t
    have h2 := ih best
    simp only [List.mem_cons, forall_eq_or_imp] at h1 h2 ⊢
    unfold oldestOf
    split
    · exact ⟨.inr h1.1, by omega, h1.2⟩
    · exact ⟨h2.1.imp_right .inr, h2.2.1, by omega, h2.2.2⟩

/-- A corrected ullage is brought to the calibration's keys (R68). -/
theorem clampUllage_eq {t : TankTable} (h : firstKey t.calibration ≤ lastKey t.calibration) (u : Int) :
    clampUllage t u = max (firstKey t.calibration) (min (lastKey t.calibration) u) := by
  unfold clampUllage
  split
  · omega
  · split <;> omega

/-- Rounding a negative quotient gives the negative of rounding its magnitude (R61). -/
theorem roundDiv_neg {d : Int} (n : Int) (hd : 0 < d) : roundDiv (-n) d = -roundDiv n d := by
  unfold roundDiv
  by_cases h : n = 0
  · subst h
    have : d / (2 * d) = 0 := Int.ediv_eq_zero_of_lt (by omega) (by omega)
    simp [this]
  · split <;> split
    · omega
    · simp
    · simp
    · omega

@[simp] theorem State.tank_reset (n : Nat) : State.reset.tank n = TankSource.never := by
  rcases Nat.lt_or_ge (n - 1) 16 with h | h <;> simp [State.tank, State.reset, h]

@[simp] theorem State.meter_reset (n : Nat) : State.reset.meter n = MeterSource.never := by
  rcases Nat.lt_or_ge (n - 1) 8 with h | h <;> simp [State.meter, State.reset, h]

end Sys2Proof.Machine
end

