-- ==== Sys2Proof/Laws/Posting.lean ====
section
/-!
SUPPORT. What the accessors of links, parcels, sources and lamps read through each shared operation, what the links hold
after notices, responses and transmissions, and what a change of a parcel record does: the lemmas a statement about a
command is assembled from.
-/

namespace Sys2Proof.Machine

variable (s : State)

/-! ### Links through operations that touch none -/

@[simp] theorem State.link_setParcel (p : ParcelNo) (r : Parcel) (m : Link) :
    (s.setParcel p r).link m = s.link m := by cases m <;> simp [State.link]
@[simp] theorem State.link_setTank (n : Nat) (x : TankSource) (m : Link) :
    (s.setTank n x).link m = s.link m := by cases m <;> simp [State.link]
@[simp] theorem State.link_setMeter (n : Nat) (x : MeterSource) (m : Link) :
    (s.setMeter n x).link m = s.link m := by cases m <;> simp [State.link]
@[simp] theorem State.link_setEngine (e : Engine) (m : Link) :
    (s.setEngine e).link m = s.link m := by cases m <;> simp [State.link]
@[simp] theorem State.link_setStore (st : Store) (m : Link) :
    (s.setStore st).link m = s.link m := by cases m <;> simp [State.link]
@[simp] theorem State.link_setLines (x : Lines) (m : Link) :
    (s.setLines x).link m = s.link m := by cases m <;> simp [State.link]
@[simp] theorem State.link_setRestoreLost (p : ParcelNo) (b : Bool) (m : Link) :
    (s.setRestoreLost p b).link m = s.link m := by cases m <;> simp [State.link]
@[simp] theorem State.link_setVef (d : Direction) (v : Option VefState) (m : Link) :
    (s.setVef d v).link m = s.link m := by cases m <;> simp [State.link]
@[simp] theorem State.link_relamp (p : ParcelNo) (m : Link) :
    (s.relamp p).link m = s.link m := by cases m <;> simp [State.link]
@[simp] theorem State.link_pulse (p : ParcelNo) (m : Link) :
    (s.pulse p).link m = s.link m := by cases m <;> simp [State.link]
@[simp] theorem State.link_alarmRaised  (m : Link) :
    s.alarmRaised.link m = s.link m := by cases m <;> simp [State.link]
@[simp] theorem State.link_alarmFell  (m : Link) :
    s.alarmFell.link m = s.link m := by cases m <;> simp [State.link]
@[simp] theorem State.link_afterAlarm (b : Bool) (m : Link) :
    (s.afterAlarm b).link m = s.link m := by cases m <;> simp [State.link]
@[simp] theorem State.link_requestCheckpoint (p : ParcelNo) (m : Link) :
    (s.requestCheckpoint p).link m = s.link m := by cases m <;> simp [State.link]
@[simp] theorem State.link_placeJob (k : JobKind) (p : ParcelNo) (m : Link) :
    (s.placeJob k p).link m = s.link m := by cases m <;> simp [State.link]
@[simp] theorem State.link_voidCycle (p : ParcelNo) (m : Link) :
    (s.voidCycle p).link m = s.link m := by cases m <;> simp [State.link]
@[simp] theorem State.link_cancelJobs (p : ParcelNo) (m : Link) :
    (s.cancelJobs p).link m = s.link m := by cases m <;> simp [State.link]
@[simp] theorem State.link_engineIdle  (m : Link) :
    s.engineIdle.link m = s.link m := by cases m <;> simp [State.link]
@[simp] theorem State.link_drawTank (n : Nat) (p : ParcelNo) (d : Nat) (m : Link) :
    (s.drawTank n p d).link m = s.link m := by cases m <;> simp [State.link]
@[simp] theorem State.link_drawMeter (n : Nat) (p : ParcelNo) (d : Nat) (m : Link) :
    (s.drawMeter n p d).link m = s.link m := by cases m <;> simp [State.link]
@[simp] theorem State.link_returnTank (n : Nat) (m : Link) :
    (s.returnTank n).link m = s.link m := by cases m <;> simp [State.link]
@[simp] theorem State.link_returnMeter (n : Nat) (m : Link) :
    (s.returnMeter n).link m = s.link m := by cases m <;> simp [State.link]
@[simp] theorem State.link_returnSources (p : ParcelNo) (m : Link) :
    (s.returnSources p).link m = s.link m := by cases m <;> simp [State.link]

/-! ### Parcels through operations that touch none -/

@[simp] theorem State.parcel_setTank (n : Nat) (x : TankSource) (q : ParcelNo) :
    (s.setTank n x).parcel q = s.parcel q := by simp [State.parcel]
@[simp] theorem State.parcel_setMeter (n : Nat) (x : MeterSource) (q : ParcelNo) :
    (s.setMeter n x).parcel q = s.parcel q := by simp [State.parcel]
@[simp] theorem State.parcel_setEngine (e : Engine) (q : ParcelNo) :
    (s.setEngine e).parcel q = s.parcel q := by simp [State.parcel]
@[simp] theorem State.parcel_setStore (st : Store) (q : ParcelNo) :
    (s.setStore st).parcel q = s.parcel q := by simp [State.parcel]
@[simp] theorem State.parcel_setLines (x : Lines) (q : ParcelNo) :
    (s.setLines x).parcel q = s.parcel q := by simp [State.parcel]
@[simp] theorem State.parcel_setRestoreLost (p : ParcelNo) (b : Bool) (q : ParcelNo) :
    (s.setRestoreLost p b).parcel q = s.parcel q := by simp [State.parcel]
@[simp] theorem State.parcel_setVef (d : Direction) (v : Option VefState) (q : ParcelNo) :
    (s.setVef d v).parcel q = s.parcel q := by simp [State.parcel]
@[simp] theorem State.parcel_relamp (p : ParcelNo) (q : ParcelNo) :
    (s.relamp p).parcel q = s.parcel q := by simp [State.parcel]
@[simp] theorem State.parcel_pulse (p : ParcelNo) (q : ParcelNo) :
    (s.pulse p).parcel q = s.parcel q := by simp [State.parcel]
@[simp] theorem State.parcel_alarmRaised  (q : ParcelNo) :
    s.alarmRaised.parcel q = s.parcel q := by simp [State.parcel]
@[simp] theorem State.parcel_alarmFell  (q : ParcelNo) :
    s.alarmFell.parcel q = s.parcel q := by simp [State.parcel]
@[simp] theorem State.parcel_afterAlarm (b : Bool) (q : ParcelNo) :
    (s.afterAlarm b).parcel q = s.parcel q := by simp [State.parcel]
@[simp] theorem State.parcel_requestCheckpoint (p : ParcelNo) (q : ParcelNo) :
    (s.requestCheckpoint p).parcel q = s.parcel q := by simp [State.parcel]
@[simp] theorem State.parcel_placeJob (k : JobKind) (p : ParcelNo) (q : ParcelNo) :
    (s.placeJob k p).parcel q = s.parcel q := by simp [State.parcel]
@[simp] theorem State.parcel_voidCycle (p : ParcelNo) (q : ParcelNo) :
    (s.voidCycle p).parcel q = s.parcel q := by simp [State.parcel]
@[simp] theorem State.parcel_cancelJobs (p : ParcelNo) (q : ParcelNo) :
    (s.cancelJobs p).parcel q = s.parcel q := by simp [State.parcel]
@[simp] theorem State.parcel_engineIdle  (q : ParcelNo) :
    s.engineIdle.parcel q = s.parcel q := by simp [State.parcel]
@[simp] theorem State.parcel_drawTank (n : Nat) (p : ParcelNo) (d : Nat) (q : ParcelNo) :
    (s.drawTank n p d).parcel q = s.parcel q := by simp [State.parcel]
@[simp] theorem State.parcel_drawMeter (n : Nat) (p : ParcelNo) (d : Nat) (q : ParcelNo) :
    (s.drawMeter n p d).parcel q = s.parcel q := by simp [State.parcel]
@[simp] theorem State.parcel_returnTank (n : Nat) (q : ParcelNo) :
    (s.returnTank n).parcel q = s.parcel q := by simp [State.parcel]
@[simp] theorem State.parcel_returnMeter (n : Nat) (q : ParcelNo) :
    (s.returnMeter n).parcel q = s.parcel q := by simp [State.parcel]
@[simp] theorem State.parcel_returnSources (p : ParcelNo) (q : ParcelNo) :
    (s.returnSources p).parcel q = s.parcel q := by simp [State.parcel]
@[simp] theorem State.parcel_setLink (l : Link) (k : LinkState) (q : ParcelNo) :
    (s.setLink l k).parcel q = s.parcel q := by simp [State.parcel]
@[simp] theorem State.parcel_hunt (l : Link) (q : ParcelNo) :
    (s.hunt l).parcel q = s.parcel q := by simp [State.parcel]
@[simp] theorem State.parcel_respond (l : Link) (tag : Byte) (r : Reply) (q : ParcelNo) :
    (s.respond l tag r).parcel q = s.parcel q := by simp [State.parcel]
@[simp] theorem State.parcel_postTo (l : Link) (b : NoticeBody) (q : ParcelNo) :
    (s.postTo l b).parcel q = s.parcel q := by simp [State.parcel]
@[simp] theorem State.parcel_postAll (b : NoticeBody) (q : ParcelNo) :
    (s.postAll b).parcel q = s.parcel q := by simp [State.parcel]
@[simp] theorem State.parcel_transmitAll  (q : ParcelNo) :
    s.transmitAll.parcel q = s.parcel q := by simp [State.parcel]

/-! ### Sources through operations that touch none -/

@[simp] theorem State.tank_setParcel (p : ParcelNo) (r : Parcel) (n : Nat) :
    (s.setParcel p r).tank n = s.tank n := by simp [State.tank]
@[simp] theorem State.meter_setParcel (p : ParcelNo) (r : Parcel) (n : Nat) :
    (s.setParcel p r).meter n = s.meter n := by simp [State.meter]
@[simp] theorem State.tanksOf_setParcel (p : ParcelNo) (r : Parcel) (q : ParcelNo) :
    (s.setParcel p r).tanksOf q = s.tanksOf q := by simp [State.tanksOf]
@[simp] theorem State.metersOf_setParcel (p : ParcelNo) (r : Parcel) (q : ParcelNo) :
    (s.setParcel p r).metersOf q = s.metersOf q := by simp [State.metersOf]
@[simp] theorem State.tank_setLink (l : Link) (k : LinkState) (n : Nat) :
    (s.setLink l k).tank n = s.tank n := by simp [State.tank]
@[simp] theorem State.meter_setLink (l : Link) (k : LinkState) (n : Nat) :
    (s.setLink l k).meter n = s.meter n := by simp [State.meter]
@[simp] theorem State.tanksOf_setLink (l : Link) (k : LinkState) (q : ParcelNo) :
    (s.setLink l k).tanksOf q = s.tanksOf q := by simp [State.tanksOf]
@[simp] theorem State.metersOf_setLink (l : Link) (k : LinkState) (q : ParcelNo) :
    (s.setLink l k).metersOf q = s.metersOf q := by simp [State.metersOf]
@[simp] theorem State.tank_setEngine (e : Engine) (n : Nat) :
    (s.setEngine e).tank n = s.tank n := by simp [State.tank]
@[simp] theorem State.meter_setEngine (e : Engine) (n : Nat) :
    (s.setEngine e).meter n = s.meter n := by simp [State.meter]
@[simp] theorem State.tanksOf_setEngine (e : Engine) (q : ParcelNo) :
    (s.setEngine e).tanksOf q = s.tanksOf q := by simp [State.tanksOf]
@[simp] theorem State.metersOf_setEngine (e : Engine) (q : ParcelNo) :
    (s.setEngine e).metersOf q = s.metersOf q := by simp [State.metersOf]
@[simp] theorem State.tank_setStore (st : Store) (n : Nat) :
    (s.setStore st).tank n = s.tank n := by simp [State.tank]
@[simp] theorem State.meter_setStore (st : Store) (n : Nat) :
    (s.setStore st).meter n = s.meter n := by simp [State.meter]
@[simp] theorem State.tanksOf_setStore (st : Store) (q : ParcelNo) :
    (s.setStore st).tanksOf q = s.tanksOf q := by simp [State.tanksOf]
@[simp] theorem State.metersOf_setStore (st : Store) (q : ParcelNo) :
    (s.setStore st).metersOf q = s.metersOf q := by simp [State.metersOf]
@[simp] theorem State.tank_setLines (x : Lines) (n : Nat) :
    (s.setLines x).tank n = s.tank n := by simp [State.tank]
@[simp] theorem State.meter_setLines (x : Lines) (n : Nat) :
    (s.setLines x).meter n = s.meter n := by simp [State.meter]
@[simp] theorem State.tanksOf_setLines (x : Lines) (q : ParcelNo) :
    (s.setLines x).tanksOf q = s.tanksOf q := by simp [State.tanksOf]
@[simp] theorem State.metersOf_setLines (x : Lines) (q : ParcelNo) :
    (s.setLines x).metersOf q = s.metersOf q := by simp [State.metersOf]
@[simp] theorem State.tank_setRestoreLost (p : ParcelNo) (b : Bool) (n : Nat) :
    (s.setRestoreLost p b).tank n = s.tank n := by simp [State.tank]
@[simp] theorem State.meter_setRestoreLost (p : ParcelNo) (b : Bool) (n : Nat) :
    (s.setRestoreLost p b).meter n = s.meter n := by simp [State.meter]
@[simp] theorem State.tanksOf_setRestoreLost (p : ParcelNo) (b : Bool) (q : ParcelNo) :
    (s.setRestoreLost p b).tanksOf q = s.tanksOf q := by simp [State.tanksOf]
@[simp] theorem State.metersOf_setRestoreLost (p : ParcelNo) (b : Bool) (q : ParcelNo) :
    (s.setRestoreLost p b).metersOf q = s.metersOf q := by simp [State.metersOf]
@[simp] theorem State.tank_hunt (l : Link) (n : Nat) :
    (s.hunt l).tank n = s.tank n := by simp [State.tank]
@[simp] theorem State.meter_hunt (l : Link) (n : Nat) :
    (s.hunt l).meter n = s.meter n := by simp [State.meter]
@[simp] theorem State.tanksOf_hunt (l : Link) (q : ParcelNo) :
    (s.hunt l).tanksOf q = s.tanksOf q := by simp [State.tanksOf]
@[simp] theorem State.metersOf_hunt (l : Link) (q : ParcelNo) :
    (s.hunt l).metersOf q = s.metersOf q := by simp [State.metersOf]
@[simp] theorem State.tank_respond (l : Link) (tag : Byte) (r : Reply) (n : Nat) :
    (s.respond l tag r).tank n = s.tank n := by simp [State.tank]
@[simp] theorem State.meter_respond (l : Link) (tag : Byte) (r : Reply) (n : Nat) :
    (s.respond l tag r).meter n = s.meter n := by simp [State.meter]
@[simp] theorem State.tanksOf_respond (l : Link) (tag : Byte) (r : Reply) (q : ParcelNo) :
    (s.respond l tag r).tanksOf q = s.tanksOf q := by simp [State.tanksOf]
@[simp] theorem State.metersOf_respond (l : Link) (tag : Byte) (r : Reply) (q : ParcelNo) :
    (s.respond l tag r).metersOf q = s.metersOf q := by simp [State.metersOf]
@[simp] theorem State.tank_postTo (l : Link) (b : NoticeBody) (n : Nat) :
    (s.postTo l b).tank n = s.tank n := by simp [State.tank]
@[simp] theorem State.meter_postTo (l : Link) (b : NoticeBody) (n : Nat) :
    (s.postTo l b).meter n = s.meter n := by simp [State.meter]
@[simp] theorem State.tanksOf_postTo (l : Link) (b : NoticeBody) (q : ParcelNo) :
    (s.postTo l b).tanksOf q = s.tanksOf q := by simp [State.tanksOf]
@[simp] theorem State.metersOf_postTo (l : Link) (b : NoticeBody) (q : ParcelNo) :
    (s.postTo l b).metersOf q = s.metersOf q := by simp [State.metersOf]
@[simp] theorem State.tank_postAll (b : NoticeBody) (n : Nat) :
    (s.postAll b).tank n = s.tank n := by simp [State.tank]
@[simp] theorem State.meter_postAll (b : NoticeBody) (n : Nat) :
    (s.postAll b).meter n = s.meter n := by simp [State.meter]
@[simp] theorem State.tanksOf_postAll (b : NoticeBody) (q : ParcelNo) :
    (s.postAll b).tanksOf q = s.tanksOf q := by simp [State.tanksOf]
@[simp] theorem State.metersOf_postAll (b : NoticeBody) (q : ParcelNo) :
    (s.postAll b).metersOf q = s.metersOf q := by simp [State.metersOf]
@[simp] theorem State.tank_transmitAll  (n : Nat) :
    s.transmitAll.tank n = s.tank n := by simp [State.tank]
@[simp] theorem State.meter_transmitAll  (n : Nat) :
    s.transmitAll.meter n = s.meter n := by simp [State.meter]
@[simp] theorem State.tanksOf_transmitAll  (q : ParcelNo) :
    s.transmitAll.tanksOf q = s.tanksOf q := by simp [State.tanksOf]
@[simp] theorem State.metersOf_transmitAll  (q : ParcelNo) :
    s.transmitAll.metersOf q = s.metersOf q := by simp [State.metersOf]
@[simp] theorem State.tank_relamp (p : ParcelNo) (n : Nat) :
    (s.relamp p).tank n = s.tank n := by simp [State.tank]
@[simp] theorem State.meter_relamp (p : ParcelNo) (n : Nat) :
    (s.relamp p).meter n = s.meter n := by simp [State.meter]
@[simp] theorem State.tanksOf_relamp (p : ParcelNo) (q : ParcelNo) :
    (s.relamp p).tanksOf q = s.tanksOf q := by simp [State.tanksOf]
@[simp] theorem State.metersOf_relamp (p : ParcelNo) (q : ParcelNo) :
    (s.relamp p).metersOf q = s.metersOf q := by simp [State.metersOf]
@[simp] theorem State.tank_pulse (p : ParcelNo) (n : Nat) :
    (s.pulse p).tank n = s.tank n := by simp [State.tank]
@[simp] theorem State.meter_pulse (p : ParcelNo) (n : Nat) :
    (s.pulse p).meter n = s.meter n := by simp [State.meter]
@[simp] theorem State.tanksOf_pulse (p : ParcelNo) (q : ParcelNo) :
    (s.pulse p).tanksOf q = s.tanksOf q := by simp [State.tanksOf]
@[simp] theorem State.metersOf_pulse (p : ParcelNo) (q : ParcelNo) :
    (s.pulse p).metersOf q = s.metersOf q := by simp [State.metersOf]
@[simp] theorem State.tank_alarmRaised  (n : Nat) :
    s.alarmRaised.tank n = s.tank n := by simp [State.tank]
@[simp] theorem State.meter_alarmRaised  (n : Nat) :
    s.alarmRaised.meter n = s.meter n := by simp [State.meter]
@[simp] theorem State.tanksOf_alarmRaised  (q : ParcelNo) :
    s.alarmRaised.tanksOf q = s.tanksOf q := by simp [State.tanksOf]
@[simp] theorem State.metersOf_alarmRaised  (q : ParcelNo) :
    s.alarmRaised.metersOf q = s.metersOf q := by simp [State.metersOf]
@[simp] theorem State.tank_alarmFell  (n : Nat) :
    s.alarmFell.tank n = s.tank n := by simp [State.tank]
@[simp] theorem State.meter_alarmFell  (n : Nat) :
    s.alarmFell.meter n = s.meter n := by simp [State.meter]
@[simp] theorem State.tanksOf_alarmFell  (q : ParcelNo) :
    s.alarmFell.tanksOf q = s.tanksOf q := by simp [State.tanksOf]
@[simp] theorem State.metersOf_alarmFell  (q : ParcelNo) :
    s.alarmFell.metersOf q = s.metersOf q := by simp [State.metersOf]
@[simp] theorem State.tank_afterAlarm (b : Bool) (n : Nat) :
    (s.afterAlarm b).tank n = s.tank n := by simp [State.tank]
@[simp] theorem State.meter_afterAlarm (b : Bool) (n : Nat) :
    (s.afterAlarm b).meter n = s.meter n := by simp [State.meter]
@[simp] theorem State.tanksOf_afterAlarm (b : Bool) (q : ParcelNo) :
    (s.afterAlarm b).tanksOf q = s.tanksOf q := by simp [State.tanksOf]
@[simp] theorem State.metersOf_afterAlarm (b : Bool) (q : ParcelNo) :
    (s.afterAlarm b).metersOf q = s.metersOf q := by simp [State.metersOf]
@[simp] theorem State.tank_requestCheckpoint (p : ParcelNo) (n : Nat) :
    (s.requestCheckpoint p).tank n = s.tank n := by simp [State.tank]
@[simp] theorem State.meter_requestCheckpoint (p : ParcelNo) (n : Nat) :
    (s.requestCheckpoint p).meter n = s.meter n := by simp [State.meter]
@[simp] theorem State.tanksOf_requestCheckpoint (p : ParcelNo) (q : ParcelNo) :
    (s.requestCheckpoint p).tanksOf q = s.tanksOf q := by simp [State.tanksOf]
@[simp] theorem State.metersOf_requestCheckpoint (p : ParcelNo) (q : ParcelNo) :
    (s.requestCheckpoint p).metersOf q = s.metersOf q := by simp [State.metersOf]
@[simp] theorem State.tank_placeJob (k : JobKind) (p : ParcelNo) (n : Nat) :
    (s.placeJob k p).tank n = s.tank n := by simp [State.tank]
@[simp] theorem State.meter_placeJob (k : JobKind) (p : ParcelNo) (n : Nat) :
    (s.placeJob k p).meter n = s.meter n := by simp [State.meter]
@[simp] theorem State.tanksOf_placeJob (k : JobKind) (p : ParcelNo) (q : ParcelNo) :
    (s.placeJob k p).tanksOf q = s.tanksOf q := by simp [State.tanksOf]
@[simp] theorem State.metersOf_placeJob (k : JobKind) (p : ParcelNo) (q : ParcelNo) :
    (s.placeJob k p).metersOf q = s.metersOf q := by simp [State.metersOf]
@[simp] theorem State.tank_voidCycle (p : ParcelNo) (n : Nat) :
    (s.voidCycle p).tank n = s.tank n := by simp [State.tank]
@[simp] theorem State.meter_voidCycle (p : ParcelNo) (n : Nat) :
    (s.voidCycle p).meter n = s.meter n := by simp [State.meter]
@[simp] theorem State.tanksOf_voidCycle (p : ParcelNo) (q : ParcelNo) :
    (s.voidCycle p).tanksOf q = s.tanksOf q := by simp [State.tanksOf]
@[simp] theorem State.metersOf_voidCycle (p : ParcelNo) (q : ParcelNo) :
    (s.voidCycle p).metersOf q = s.metersOf q := by simp [State.metersOf]
@[simp] theorem State.tank_cancelJobs (p : ParcelNo) (n : Nat) :
    (s.cancelJobs p).tank n = s.tank n := by simp [State.tank]
@[simp] theorem State.meter_cancelJobs (p : ParcelNo) (n : Nat) :
    (s.cancelJobs p).meter n = s.meter n := by simp [State.meter]
@[simp] theorem State.tanksOf_cancelJobs (p : ParcelNo) (q : ParcelNo) :
    (s.cancelJobs p).tanksOf q = s.tanksOf q := by simp [State.tanksOf]
@[simp] theorem State.metersOf_cancelJobs (p : ParcelNo) (q : ParcelNo) :
    (s.cancelJobs p).metersOf q = s.metersOf q := by simp [State.metersOf]
@[simp] theorem State.tank_engineIdle  (n : Nat) :
    s.engineIdle.tank n = s.tank n := by simp [State.tank]
@[simp] theorem State.meter_engineIdle  (n : Nat) :
    s.engineIdle.meter n = s.meter n := by simp [State.meter]
@[simp] theorem State.tanksOf_engineIdle  (q : ParcelNo) :
    s.engineIdle.tanksOf q = s.tanksOf q := by simp [State.tanksOf]
@[simp] theorem State.metersOf_engineIdle  (q : ParcelNo) :
    s.engineIdle.metersOf q = s.metersOf q := by simp [State.metersOf]
@[simp] theorem State.tank_changeParcel (p : ParcelNo) (r : Parcel) (c : Cause) (n : Nat) :
    (s.changeParcel p r c).tank n = s.tank n := by simp [State.tank]
@[simp] theorem State.meter_changeParcel (p : ParcelNo) (r : Parcel) (c : Cause) (n : Nat) :
    (s.changeParcel p r c).meter n = s.meter n := by simp [State.meter]
@[simp] theorem State.tanksOf_changeParcel (p : ParcelNo) (r : Parcel) (c : Cause) (q : ParcelNo) :
    (s.changeParcel p r c).tanksOf q = s.tanksOf q := by simp [State.tanksOf]
@[simp] theorem State.metersOf_changeParcel (p : ParcelNo) (r : Parcel) (c : Cause) (q : ParcelNo) :
    (s.changeParcel p r c).metersOf q = s.metersOf q := by simp [State.metersOf]

/-! ### What the links hold after a post, a response, a transmission -/

@[simp] theorem State.link_transmitAll (m : Link) : s.transmitAll.link m = (s.link m).transmit := by cases m <;> rfl

@[simp] theorem State.link_postAll (b : NoticeBody) (m : Link) :
    (s.postAll b).link m = (s.link m).place ⟨s.clock, b⟩ := by cases m <;> rfl

@[simp] theorem State.link_hunt_same (l : Link) : (s.hunt l).link l = { s.link l with framer := .hunting false } := by
  simp [State.hunt]

theorem State.link_hunt_ne {l m : Link} (h : m ≠ l) : (s.hunt l).link m = s.link m := by
  simp [State.hunt, State.link_setLink_ne _ h]

@[simp] theorem State.link_respond_same (l : Link) (tag : Byte) (r : Reply) :
    (s.respond l tag r).link l = { s.link l with
      responses := (s.link l).responses ++ [⟨tag, r.code, r.clamped, r.truncated, r.fields⟩] } := by
  simp [State.respond]

theorem State.link_respond_ne {l m : Link} (h : m ≠ l) (tag : Byte) (r : Reply) :
    (s.respond l tag r).link m = s.link m := by
  simp [State.respond, State.link_setLink_ne _ h]

@[simp] theorem LinkState.placeAll_nil (k : LinkState) (now : Instant) : k.placeAll now [] = k := rfl

@[simp] theorem LinkState.placeAll_cons (k : LinkState) (now : Instant) (b : NoticeBody) (bs : List NoticeBody) :
    k.placeAll now (b :: bs) = (k.place ⟨now, b⟩).placeAll now bs := rfl

theorem LinkState.placeAll_append (k : LinkState) (now : Instant) (bs cs : List NoticeBody) :
    k.placeAll now (bs ++ cs) = (k.placeAll now bs).placeAll now cs := List.foldl_append

/-! ### A change of a parcel record (R4, R211) -/

@[simp] theorem State.parcel_changeParcel_same (p : ParcelNo) (r : Parcel) (c : Cause) :
    (s.changeParcel p r c).parcel p = r := by
  simp only [State.changeParcel]; split <;> simp

theorem State.parcel_changeParcel_ne {p q : ParcelNo} (h : q ≠ p) (r : Parcel) (c : Cause) :
    (s.changeParcel p r c).parcel q = s.parcel q := by
  simp only [State.changeParcel]; split <;> simp [State.parcel_setParcel_ne _ h]

/-- Every link takes the notices the change calls for. -/
theorem State.link_changeParcel (p : ParcelNo) (r : Parcel) (c : Cause) (m : Link) :
    (s.changeParcel p r c).link m = (s.link m).placeAll s.clock (stateNotices p (s.parcel p) r c) := by
  simp only [State.changeParcel, Parcel.announces, stateNotices, parcelStateNotice, Bool.or_eq_true,
    decide_eq_true_eq, or_assoc]
  split <;> simp

theorem State.changeParcel_lamp_same (p : ParcelNo) (r : Parcel) (c : Cause) :
    (s.changeParcel p r c).lines.lamp p = if (s.lines.lamp p).pattern = r.pattern then s.lines.lamp p
      else { s.lines.lamp p with pattern := r.pattern, since := s.msec } := by
  simp only [State.changeParcel, State.relamp]
  by_cases h : (s.lines.lamp p).pattern = r.pattern
  · split <;> simp [h]
  · have h' : r.pattern ≠ (s.lines.lamp p).pattern := fun e => h e.symm
    split <;> simp [h']

theorem State.changeParcel_lamp_ne {p q : ParcelNo} (h : q ≠ p) (r : Parcel) (c : Cause) :
    (s.changeParcel p r c).lines.lamp q = s.lines.lamp q := by
  simp only [State.changeParcel, State.relamp]
  split <;> split <;> simp [Lines.lamp_setLamp_ne _ h]

theorem State.changeParcel_lines (p : ParcelNo) (r : Parcel) (c : Cause) :
    (s.changeParcel p r c).lines = { s.lines with lamps := (s.changeParcel p r c).lines.lamps } := by
  simp only [State.changeParcel, State.relamp]
  split <;> split <;> simp [Lines.setLamp]

/-! ### A request served (R193, R195) -/

/-- A request that its link takes and may make: what the owning block answered, its response placed, frames chosen. -/
theorem serve_taken {r : Req} {body : Body} {l : Link} {tag : Byte} {pl : List Byte} {s : State} (h : s.takes l)
    (right : mayRequest r l = true) :
    serve r body l tag pl s
      = ((body l pl (s.hunt l)).1.respond l tag (body l pl (s.hunt l)).2).transmitAll := by
  simp [serve, State.takeFrame, h.1, Nat.not_le.mpr h.2, examine, right]

/-- What `Replied` asks follows from what the block left on the links. -/
theorem replied_of_links {s : State} {l : Link} {k : LinkState} {tag : Byte} {r : Reply} {bs : List NoticeBody}
    {t : State} (same : t.link l = LinkState.placeAll { k with framer := .hunting false } s.clock bs)
    (other : ∀ m, m ≠ l → t.link m = (s.link m).placeAll s.clock bs) :
    RepliedFrom s (t.respond l tag r).transmitAll l k tag r bs := by
  refine ⟨⟨_, rfl, ?_⟩, fun m h => ?_⟩
  · simp [same]
  · simp [State.link_respond_ne _ h, other m h]

end Sys2Proof.Machine
end

