-- ==== Sys2Proof/WellFormed.lean ====
section
/-!
DEFINITION. Which commands a link can bring: a frame's PAYLOAD has at most 248 bytes (R192), and an UNKNOWN_REQUEST
carries a KIND that is not a request code (R195). Every other operand's type holds only what can occur.
-/

namespace Sys2Proof

/-- Whether a payload fits a frame (R192). -/
def payloadFits (payload : List Byte) : Bool := decide (payload.length ≤ 248)

/-- Whether a command can occur as it stands. -/
def Instr.wellFormed : Instr → Bool
  | .powerOn _ | .resetLine _ | .startupVerificationComplete | .jobStart | .openDone | .openFailed
  | .settledByTime _ | .restoredByTime _ | .cycleTimerExpiry _ | .cycleComplete | .pulseEnd _ | .closeDone
  | .closeFailed | .acceptTimeout _ | .verifyPassStart | .verifyComplete | .frameDiscard _ | .interByteGap _
  | .responseListFullDiscard _ | .frameSent _ | .linkBreak _ | .linkBreakEnd _ | .loopLevelChange _ _
  | .inputChange _ | .writeStart | .blockWriteDone _ | .byteReceived _ _ => true
  | .unknownRequest _ kind _ payload => payloadFits payload && (Machine.reqOf kind).isNone
  | .declare _ _ payload | .setParameter _ _ payload | .assignTank _ _ payload | .unassignTank _ _ payload
  | .assignMeter _ _ payload | .unassignMeter _ _ payload | .offerBasis _ _ payload | .openParcel _ _ payload
  | .suspend _ _ payload | .resume _ _ payload | .close _ _ payload | .cancelClose _ _ payload | .regauge _ _ payload
  | .setLineAdjust _ _ payload | .accept _ _ payload | .witness _ _ payload | .dispute _ _ payload
  | .abort _ _ payload | .restoreGrade _ _ payload | .release _ _ payload | .abandon _ _ payload
  | .readParcel _ _ payload | .tankReading _ _ payload | .attitudeReading _ _ payload | .meterReading _ _ payload
  | .tableBegin _ _ payload | .tableData _ _ payload | .tableCommit _ _ payload | .readTable _ _ payload
  | .lockTable _ _ payload | .unlockTable _ _ payload | .verifyStore _ _ payload | .clearHistory _ _ payload
  | .readRecord _ _ payload | .status _ _ payload | .silenceAlarm _ _ payload | .setCalendar _ _ payload =>
    payloadFits payload

end Sys2Proof
end

