-- ==== Sys2Proof/Tests/Slice0.lean ====
section
/-!
SUPPORT. The model's own tests: the well-formedness checks, the manual's worked examples, and, for each statement of
Certificates/Slice0/Obligations.lean that has hypotheses, a state and operands that meet them.
-/

namespace Sys2Proof.Tests

open Sys2Proof Sys2Proof.Machine

set_option Elab.async false

/-! ### States to start from -/

/-- The part after reset with start-up verification behind it. -/
def idle : State := State.reset.setStore { Store.delivered with verify := .idle }

/-- A declared parcel: LOAD, label "A", not witnessed, declared from the ship link. -/
def declared : Parcel := Parcel.declared ⟨.load, [0x41], false, .ship⟩

/-- Parcel 1 in a state. -/
def holding (x : ParcelState) : State := idle.setParcel 0 { declared with state := x }

/-- A common offer of QUAD with both mass bases. -/
def quadOffer : CommonOffer := ⟨false, true, false, none, 850, 1500, true, true, 8653⟩

/-- A job of parcel 1 running on a copy, the parcel in a state. -/
def running (k : JobKind) (x : ParcelState) (voided : Bool) (c : JobCopy) : State :=
  (holding x).setEngine { Engine.reset with running := some ⟨k, 0, 5, 0, voided, c⟩ }

/-- An input of the part whose candidate has stood for 50 ms. -/
def recognizing (s : State) (i : InputName) (level : Bool) : State :=
  { s.setLines (s.lines.setInput i ⟨20000, some (!level), level, some 0⟩) with msec := 50 }

/-- A link of the part in BREAK. -/
def broken (l : Link) : State := idle.setLink l { idle.link l with condition := .broken }

/-- A transfer record. -/
def someRecord : TransferRecord :=
  idle.buildRecord 0 { declared with state := .awaitingAccept } none

/-- The write unit at work on an entry. -/
def writing (e : QueueEntry) (k : WriteKind) (block blocks : Nat) : State :=
  idle.setWriter (some { ActiveWrite.begin e k blocks with block := block })

/-! ### Well-formedness (R192, R195) -/

theorem test_longPayload_refused : Instr.wellFormed (.status .ship 0 (List.replicate 249 0)) = false := by decide +kernel
theorem test_longestPayload_taken : Instr.wellFormed (.status .ship 0 (List.replicate 248 0)) = true := by decide +kernel
theorem test_unknownRequest_of_known_kind_refused :
    Instr.wellFormed (.unknownRequest .ship 0x50 0 []) = false := by decide
theorem test_unknownRequest_of_unknown_kind_taken :
    Instr.wellFormed (.unknownRequest .ship 0x53 0 []) = true := by decide
theorem test_unknownRequest_longPayload_refused :
    Instr.wellFormed (.unknownRequest .ship 0x53 0 (List.replicate 249 0)) = false := by decide +kernel

/-! ### Worked examples of the manual -/

/-- R192: the CRC of the characters "1" to "9". -/
theorem test_crc_of_digits : crc [0x31, 0x32, 0x33, 0x34, 0x35, 0x36, 0x37, 0x38, 0x39] = 0x29B1 := by decide +kernel

/-- Section 11.10: the frame of a STATUS request with TAG 7. -/
theorem test_status_frame : frameBytes 0x50 7 [] = [0xC5, 0x3A, 0x02, 0x50, 0x07, 0xDC, 0xA4] := by decide +kernel

/-- Section 11.10: those bytes, arriving one by one on the survey link, are answered OK with TAG 7. -/
theorem test_status_bytes_answered :
    (((idle.after ([0xC5, 0x3A, 0x02, 0x50, 0x07, 0xDC, 0xA4].map (.byteReceived .survey))).survey.responses.map
      (fun r => (r.tag, r.code))) = [(7, .ok)]) := by decide +kernel

/-- Section 11.10: with 0xDC 0xA5 received, the frame is discarded without a response. -/
theorem test_status_bad_crc_discarded :
    (idle.after ([0xC5, 0x3A, 0x02, 0x50, 0x07, 0xDC, 0xA5].map (.byteReceived .survey))).survey.responses = [] := by
  decide +kernel

/-- Section 10.3: the check word of meter M1's definition. -/
theorem test_check_word :
    checkOf (wordSum [0x4D, 0x31, 0x20, 0x52, 0x55, 0x4E, 0x20, 0x41, 0xFF, 0x6A]) = 0x1D83 := by decide +kernel

/-- Section 11.9: the opening and closing calendar times. -/
theorem test_calendar :
    (Calendar.timeOf ⟨812345600, 40000⟩ 39985, Calendar.timeOf ⟨812345600, 40000⟩ 61550) = (812345598, 812347755) := by
  decide +kernel

/-- The basis of sections 4.10 and 5.7. -/
def workedBasis : Basis := ⟨.quad, none, some 850, 1500, 8653, .vac, .measured, .on, 70, false⟩

/-- Tank 3 of section 4.10. -/
def tank3 : TankCopy :=
  { (default : TankCopy) with
    number := 3
    latest := some ⟨some 1234, some 3250, 0, 0⟩
    att := some ⟨600, 50, 0⟩
    tableValid := true
    table := ⟨20000, [(1000, 2450000), (1500, 2380000)], [(0, 0), (1000, 12)], [(0, 0), (100, -6)]⟩ }

/-- Tank 4 of section 4.10. -/
def tank4 : TankCopy :=
  { tank3 with
    number := 4
    latest := some ⟨some 1500, some 3240, 40, 0⟩
    table := ⟨18000, [(1000, 2460000), (2000, 2320000), (17900, 14000), (18000, 0)], [(0, 0), (1000, 12)],
      [(0, 0), (100, -6)]⟩ }

/-- Section 4.10: Uc, TOV, FWV, GOV, VCF and GSV of the two tanks. -/
theorem test_tank_figures :
    [tank3, tank4].map (fun c =>
      let f := tankFigure workedBasis false [] false c
      (f.uc, [f.tov, f.fwv, f.gov, f.vcf, f.gsv], decide (f.flags = TankFlags.clear)))
    = [(some 1238, [2416680, 0, 2416680, 984948, 2380304], true),
       (some 1504, [2389440, 5600, 2383840, 985035, 2348166], true)] := by decide +kernel

/-- Section 4.10: the mass of tank 3's GSV; section 4.11: the same in air. -/
theorem test_masses :
    (mass workedBasis 2380304, mass { workedBasis with massBasis := .air } 2380304) = (2059677, 2057059) := by
  decide +kernel

/-- Section 4.11: LIN, TAB, and a cool product. -/
theorem test_factor_variants :
    ((volumeFactor { workedBasis with method := .lin } [] 3250).1,
      (volumeFactor { workedBasis with method := .tab } [(3000, 987300), (3500, 982600)] 3250).1,
      (volumeFactor workedBasis [] 1000).1) = (985125, 984950, 1004236) := by decide +kernel

/-- Section 4.11: trimmed by the head, and a gauge below the calibration. -/
theorem test_clamped_tanks :
    (let f := tankFigure workedBasis false [] false { tank3 with att := some ⟨-300, 50, 0⟩ }
     let g := tankFigure workedBasis false [] false { tank3 with latest := some ⟨some 950, some 3250, 0, 0⟩ }
     (f.uc, f.tov, f.flags.trimLimit, f.flags.clamped, g.uc, g.tov, g.flags.clamped))
    = (some 1231, 2417660, true, false, some 1000, 2450000, true) := by decide +kernel

/-- Section 5.7: meter M1 across its wrap. -/
theorem test_meter_figure :
    (let m : MeterCopy := { (default : MeterCopy) with
        number := 1
        ring := [⟨⟨some 999920000, some 3110, some 400, 11700⟩, false, false⟩,
          ⟨⟨some 999980000, some 3100, some 400, 12000⟩, false, false⟩,
          ⟨⟨some 10000, some 3100, some 400, 12300⟩, false, false⟩]
        lastAligned := some 999940000
        acc := 1131000000
        d := -150 }
     let f := meterFigure .cycle workedBasis false [] false 12400 12100 m
     (f.aligned, [f.iv, f.gv, f.vcf, f.pcf, f.dmL, f.accAfter], f.lastAfter, decide (f.flags = MeterFlags.clear)))
    = (some 999990000, [50000, 49925, 986252, 1000280, 49252418, 1180252418], some 999990000, true) := by
  decide +kernel

/-- Section 5.7: a replaced counter does not rise past the kept total, and later it does. -/
theorem test_increments :
    (increment (some 35000) (some 70000), increment (some 95000) (some 70000))
    = ((0, some 70000, true, false), (25000, some 95000, false, false)) := by decide +kernel

/-- Section 9.6: the history of six entries, and with the seventh. -/
theorem test_experience_factor :
    (let six : List (Int × Int) := [(50120000, 50000000), (40080000, 40000000), (60210000, 60000000),
        (45090000, 45000000), (30660000, 30000000), (55143000, 55000000)]
     ((vefOfEntries six).result, (vefOfEntries six).median, (vefOfEntries six).qualifying,
       (vefOfEntries (six ++ [(24870040, 24812700)])).result))
    = (.available 100257, some 100240, 5, .available 100255) := by decide +kernel

/-- Section 7.7: the bands of cycles 17 and 20, the second a half rounded away from zero. -/
theorem test_bands : (bandOf 2000 3000 1183920, bandOf 2000 3000 1418500) = (3552, 4256) := by decide

/-- Section 3.12: the rates over the rings at B, D, F and H. -/
theorem test_rates :
    (let e (total : Nat) (t : Instant) : MeterEntry := ⟨⟨some total, none, none, t⟩, false, false⟩
     [ringRate [e 999995000 10000, e 999999800 10100],
      ringRate [e 999999800 10100, e 999999800 10200, e 9500 10300],
      ringRate [e 9500 10300, e 9500 10400, e 9500 10500],
      ringRate [e 9500 10500, e 9500 10600, e 28000 10700]])
    = [some 28800, some 29100, some 0, some 55500] := by decide +kernel

/-- Section 3.13: the results of one tank frame. -/
theorem test_tank_frame :
    (State.takeTankFrame
      [⟨3, 1, 1234, 3250, 0⟩, ⟨4, 2, 1180, 3240, 0⟩, ⟨17, 0, 900, 3200, 0⟩, ⟨5, 0, 41000, 3100, 0⟩,
        ⟨3, 1, 1236, 3251, 0⟩, ⟨6, 2, 2000, 3000, 65535⟩] []
      (((idle.drawTank 3 0 4).drawTank 4 0 4).drawTank 5 1 4)).2
    = [.tankOk false false, .refused .tagMismatch, .refused .refusedRange, .refused .refusedRange,
        .refused .refusedFormat, .refused .tagMismatch] := by decide +kernel

/-- The last response on a link after one command. -/
def answer (c : Instr) (s : State) (l : Link) : Option (Code × Bool × List Byte) :=
  ((s.after [c]).link l).responses.getLast?.map (fun r => (r.code, r.clamped, r.fields))

/-- R5: TOLERANCE 499 is brought to 500 and flagged; STALENESS 90 s is held as 900 tenths. -/
theorem test_set_parameter :
    ((((holding .declared).after [.setParameter .ship 1 [1, 1, 0, 0, 1, 243]]).parcel 0).params.tolerance,
      (answer (.setParameter .ship 1 [1, 1, 0, 0, 1, 243]) (holding .declared) .ship).map (fun x => (x.1, x.2.1)),
      (((holding .declared).after [.setParameter .ship 1 [1, 4, 0, 0, 0, 90]]).parcel 0).params.staleness)
    = (500, some (.ok, true), 900) := by decide +kernel

/-- Section 3.9: parcels holding 92 slots leave 4; a depth of 6 is REFUSED_FULL and one of 4 is drawn. -/
theorem test_pool :
    (let s := ((List.range' 1 11).foldl (fun s n => s.drawTank n 1 8) (holding .declared)).drawMeter 1 1 4
     (s.poolFree, (answer (.assignTank .ship 1 [1, 13, 6]) s .ship).map (·.1),
       (s.after [.assignTank .ship 1 [1, 13, 4]]).poolFree))
    = (4, some .refusedFull, 0) := by decide +kernel

/-- R13: the second party's RESUME removes RESTART and returns the parcel to TRANSFERRING. -/
theorem test_resume_after_restart :
    (let s := idle.setParcel 0 { declared with state := .suspended, suspendSet := ⟨false, false, false, true⟩ }
     (((s.after [.resume .ship 1 [1]]).parcel 0).state, ((s.after [.resume .ship 1 [1]]).parcel 0).restartResume,
       ((s.after [.resume .ship 1 [1], .resume .shore 2 [1]]).parcel 0).state,
       ((s.after [.resume .ship 1 [1], .resume .shore 2 [1]]).parcel 0).restartResume))
    = (.suspended, ⟨true, false⟩, .transferring, ⟨false, false⟩) := by decide +kernel

/-- R206, R207: with ESD_POL open a loop without current starts ESD's candidate, and 50 ms later ESD is ACTIVE. -/
theorem test_esd_trips :
    ((State.reset.after [.loopLevelChange .esd 0]).lines.esd.candidate,
      (({ State.reset.after [.loopLevelChange .esd 0] with msec := 49 }).after [.inputChange .esd]).lines.esd.level,
      (({ State.reset.after [.loopLevelChange .esd 0] with msec := 50 }).after [.inputChange .esd]).lines.esd.level)
    = (some 0, false, true) := by decide +kernel

/-- R207: a loop that stood at the other level for 50 ms is recognized although it has returned before INPUT_CHANGE is
taken; one that returns at 49 ms is not. -/
theorem test_return_after_50ms :
    (let back (ms : Nat) : State := { idle.after [.loopLevelChange .spare 20000] with msec := ms }
     (((back 50).after [.loopLevelChange .spare 0, .inputChange .spare]).lines.spare.level,
       ((back 49).after [.loopLevelChange .spare 0, .inputChange .spare]).lines.spare.level))
    = (true, false) := by decide +kernel

/-- Section 2.1, R197: the table id of an offer is preceded by its presence byte, and the fields after it move up by
one. -/
theorem test_offer_table_id :
    (shipOfferOf [1, 1, 1, 8, 3, 82, 5, 220, 3, 33, 205, 1] = some
        ⟨⟨true, false, false, some 8, 850, 1500, true, true, 8653⟩, .measured⟩
      ∧ shipOfferOf [1, 1, 0, 3, 82, 5, 220, 3, 33, 205, 1] = none) := by decide +kernel

/-- R128, R197: ALARM_CHANGE carries its band in four bytes without a presence byte. -/
theorem test_alarm_change_fields :
    (NoticeBody.alarmChange 0 true 5 (-7) 2000 1 3).fields
    = [1, 2, 1, 0, 5, 255, 255, 255, 249, 0, 0, 7, 208, 1, 3] := by decide +kernel

/-- R202: a seventeenth notice takes the place of the oldest CYCLE_RESULT, and without one is dropped with NOTICE_LOST. -/
theorem test_notice_queue :
    (let n : Notice := ⟨0, .inputChange .spare true []⟩
     let c : Notice := ⟨0, .cycleResult 0 default 1 0 false false false 0 0 false⟩
     let full : LinkState := { idle.link .ship with notices := List.replicate 16 n }
     ((LinkState.place { full with notices := n :: c :: List.replicate 14 n } n).notices = List.replicate 16 n,
       (full.place n).lost, (full.place n).notices.length))
    = (True, true, 16) := by
  refine Prod.ext (eq_true (by decide +kernel)) (by decide +kernel)

/-- R181, R183: a commit of two blocks leaves image and check word as before after its first block, and brings the new ones
with its second. -/
theorem test_image_until_end :
    (let w := { ActiveWrite.begin (.commit 17 .shore false [1, 2] 3) .commit 2 with image := [1, 2], check := 3 }
     let s := (idle.setWriter (some w)).after [.blockWriteDone true]
     let t := s.after [.blockWriteDone true]
     ((s.store.item 17).image, (s.store.item 17).check, (t.store.item 17).image, (t.store.item 17).check))
    = ([], 0, [1, 2], 3) := by decide +kernel

/-- R184: an unequal second block of a commit ends it INVALID with WRITE_FAULT, reported to its link and the survey link
alone. -/
theorem test_write_fault :
    (let s := (writing (.commit 17 .shore false [] 0) .commit 2 3).after [.blockWriteDone false]
     ((s.store.item 17).status, s.store.writer.isNone, s.ship.tx = .idle, s.shore.tx = .idle, s.survey.tx = .idle))
    = (.invalid, true, True, False, False) := by
  refine Prod.ext (by decide +kernel) (Prod.ext (by decide +kernel) (Prod.ext (eq_true (by decide +kernel))
    (Prod.ext (eq_false (by decide +kernel)) (eq_false (by decide +kernel)))))

/-! ### What meets the hypotheses of each statement -/

theorem witness_IdlePartLetsTimePass :
    State.reset.pending = [] ∧ State.reset.due = [.loopLevelChange .esd 0]
      ∧ (idle.setLines (idle.lines.setInput .esd (InputState.reset 4000))).pending = []
      ∧ (idle.setLines (idle.lines.setInput .esd (InputState.reset 4000))).due = [] := by
  decide +kernel

/-- R102, R110, R144, R183, R187, R207, R212 and the bounds of R104 and R186: an event at the instant it falls due, and not
the moment before. -/
theorem test_events_fall_due :
    (let parcel (r : Parcel) (c : Instant) : State := { idle.setParcel 0 r with clock := c }
     let timed := { declared with state := .transferring, cycleTimer := some 600 }
     let open_ := { declared with state := .awaitingAccept, acceptTimer := some 600 }
     let job (ms : Nat) : State := { running .openJob .opening false default with msec := ms }
     [decide (.jobStart ∈ (idle.placeJob .close 2).due), decide (.jobStart ∈ idle.due),
      decide (.writeStart ∈ (idle.setStore (idle.store.enqueue (.commit 34 .ship true [0, 0] 0xFFFF))).due),
      decide (.verifyPassStart ∈ (idle.setVerify .waiting).due),
      decide (.inputChange .spare ∈ (recognizing idle .spare false).due),
      decide (.inputChange .spare ∈ { recognizing idle .spare false with msec := 49 }.due),
      decide (.cycleTimerExpiry 0 ∈ (parcel timed 600).due), decide (.cycleTimerExpiry 0 ∈ (parcel timed 599).due),
      decide (.acceptTimeout 0 ∈ (parcel open_ 600).due), decide (.acceptTimeout 0 ∈ (parcel open_ 599).due),
      decide (.pulseEnd 3 ∈ { idle.pulse 3 with msec := 100 }.due), decide (.pulseEnd 3 ∈ { idle.pulse 3 with msec := 99 }.due),
      decide (.openFailed ∈ (job 10).due), decide (.openFailed ∈ (job 9).due),
      decide (.verifyComplete ∈ { idle.setVerify (.running 0) with msec := 1500 }.due),
      decide (.verifyComplete ∈ { idle.setVerify (.running 0) with msec := 1499 }.due)]
    = [true, false, true, true, true, false, true, false, true, false, true, false, true, false, true, false]) := by
  decide +kernel

theorem witness_EveryStepKeepsTheLimits :
    State.reset.bounded ∧ State.reset.ringsFit ∧ State.reset.queueFits ∧ State.reset.revisionFits
      ∧ ∃ t, step State.reset = .next t := by
  refine ⟨by unfold State.bounded LinkState.bounded; decide +kernel, ⟨by decide +kernel, ?_, ?_, by decide +kernel⟩,
    by unfold State.queueFits; decide +kernel, fun p n h => ?_, _, rfl⟩
  · simp [TankSource.never]
  · simp [MeterSource.never]
  · have none_ : ∀ q, (State.reset.parcel q).revision = none := by decide +kernel
    simp [none_ p] at h

theorem witness_EveryStepKeepsTheLaws :
    State.reset.lawful ∧ ∃ t, step State.reset = .next t := ⟨by
      unfold State.lawful State.freeCleared State.startupFree State.alarmInTransfer State.alarmLaw State.lampLaw
      decide +kernel, _, rfl⟩

theorem witness_EveryStepKeepsTheClock :
    State.reset.clockLaw ∧ ∃ t, step State.reset = .next t := ⟨by unfold State.clockLaw; decide +kernel, _, rfl⟩

theorem witness_ResetCommandsSetTheState :
    ∃ c cause, (c = Instr.powerOn ⟨true, false, false, true⟩ ∧ cause = ResetCause.powerOn)
      ∨ (c = .resetLine ⟨true, false, false, true⟩ ∧ cause = .resetLine) := ⟨_, _, .inl ⟨rfl, rfl⟩⟩

/-- A checkpoint with tank 1 at depth 4 and meter 8 at depth 2. -/
def savedCopy : Checkpoint := { (default : Checkpoint) with tanks := [(1, 4)], meters := [(8, 2)] }

/-- The part after a reset with parcel 1's checkpoint VALID, parcel 2's INVALID and the others EMPTY. -/
def recovering : State :=
  State.reset.setStore ((Store.delivered.setCheckpoint 0 ⟨.valid, some savedCopy, 5, checkOf 5⟩).setCheckpoint 1
    ⟨.invalid, none, 0, 0⟩)

/-- R56: the checkpoint a restore would take fits in the pool. -/
theorem witness_EveryStepKeepsTheLimits_restore :
    ({ recovering with pending := [.startupVerificationComplete] }).restoreFits := by
  refine ⟨fun p c n d h m => ?_, by decide +kernel⟩
  have hp : ∀ q c, recovering.store.restorable q = some c → c = savedCopy := by
    intro q c
    have : recovering.store.restorable q = if q = 0 then some savedCopy else none := by revert q; decide +kernel
    rw [this]
    split <;> simp [eq_comm]
  obtain rfl := hp p c h
  simp [Checkpoint.sources, savedCopy] at m
  omega

/-- R182: a queue with a link commit, and each parcel's checkpoint beside a finalize that the write unit makes. -/
theorem witness_EveryStepKeepsTheLimits_queue :
    (let s := idle.setParcel 0 { declared with state := .closed, finalizePending := true }
     let e := QueueEntry.finalize 0 someRecord
     (s.setStore { s.store with
        queue := [.commit 17 .shore false [] 0, .checkpoint 0 savedCopy, .checkpoint 1 savedCopy]
        writer := some (ActiveWrite.begin e .record 1) }).queueFits) := by
  unfold State.queueFits
  decide +kernel

/-- R149: a parcel at revision 3 in AWAITING_ACCEPT. -/
theorem witness_EveryStepKeepsTheLimits_revision :
    (idle.setParcel 0 { declared with state := .awaitingAccept, revision := some 3 }).revisionFits := by
  have h : ∀ p, ((idle.setParcel 0 { declared with state := .awaitingAccept, revision := some 3 }).parcel p).revision
      = none ∨ (((idle.setParcel 0 { declared with state := .awaitingAccept, revision := some 3 }).parcel p).revision
        = some 3 ∧ ((idle.setParcel 0 { declared with state := .awaitingAccept, revision := some 3 }).parcel p).state
        = .awaitingAccept) := by decide +kernel
  intro p n hn
  rcases h p with h | ⟨h, hs⟩ <;> simp_all

theorem witness_StartupVerificationRestoresTheParcels :
    recovering.store.startingUp = true ∧ recovering.store.restorable 0 = some savedCopy
      ∧ recovering.store.dropped 1 ∧ (recovering.store.checkpoint 2).status = .empty
      ∧ ((1, 4) ∈ savedCopy.tanks ∧ (8, 2) ∈ savedCopy.meters)
      ∧ (∀ q, (recovering.store.restorable q).isSome = true → q = 0) := by
  unfold Store.dropped
  decide +kernel

theorem witness_DeclareSetsUpARecord :
    idle.serves .ship .declare ∧ ([1, 1, 1, 0x20, 0] : List Byte).length = 4 + u8 [1, 1, 1, 0x20, 0] 2
      ∧ (idle.parcel 0).state = .free ∧ u8 [1, 1, 1, 0x20, 0] 0 = (0 : ParcelNo).val + 1
      ∧ u8 [1, 1, 1, 0x20, 0] 1 = 1 ∧ u8 [1, 1, 1, 0x20, 0] 3 = 0x20 ∧ u8 [1, 1, 1, 0x20, 0] 4 ≤ 1
      ∧ (holding .closed).serves .shore .declare
      ∧ ([0, 2, 8, 0x7E, 65, 65, 65, 65, 65, 65, 65, 1] : List Byte).length = 4 + 8
      ∧ ((holding .closed).parcel 1).state = .free ∧ ∀ q < (1 : ParcelNo), ((holding .closed).parcel q).state ≠ .free := by
  unfold State.serves State.takes
  decide +kernel

/-- R3: direction 0 and 3, an empty label, one of 9, one with a character below 0x20 and above 0x7E, witnessed 2. -/
theorem witness_DeclareSetsUpARecord_refused :
    idle.serves .ship .declare ∧ (idle.parcel 0).state = .free
      ∧ (∀ pl ∈ ([[1, 0, 1, 65, 0], [1, 3, 1, 65, 0], [1, 1, 0, 0], [1, 1, 9, 65, 65, 65, 65, 65, 65, 65, 65, 65, 0],
          [1, 1, 1, 0x1F, 0], [1, 1, 1, 0x7F, 0], [1, 1, 1, 65, 2]] : List (List Byte)),
        pl.length = 4 + u8 pl 2 ∧ u8 pl 0 = (0 : ParcelNo).val + 1
        ∧ ((u8 pl 1 ≠ 1 ∧ u8 pl 1 ≠ 2) ∨ u8 pl 2 = 0 ∨ 8 < u8 pl 2
          ∨ (∃ b ∈ (pl.drop 3).take (u8 pl 2), b.toNat < 0x20 ∨ 0x7E < b.toNat) ∨ 1 < u8 pl (3 + u8 pl 2))) := by
  unfold State.serves State.takes
  decide +kernel

theorem witness_SetParameterStoresTheClampedValue :
    (holding .declared).serves .ship .setParameter ∧ Names [1, 1, 0, 0, 0, 0] 6 0 ∧ Names [1, 13, 0, 0, 0, 4] 6 0
      ∧ Names [1, 0, 0, 0, 0, 0] 6 0 ∧ Names [1, 14, 0, 0, 0, 0] 6 0 ∧ ((holding .declared).parcel 0).state = .declared
      ∧ paramTable[0]? = some (500, 20000, 3000, 1) ∧ paramTable[12]? = some (0, 4, 0, 1)
      ∧ (holding .basisAgreed).serves .shore .setParameter ∧ ((holding .basisAgreed).parcel 0).state = .basisAgreed := by
  unfold State.serves State.takes Names
  decide +kernel

/-- Parcel 1 declared with tank 16 and meter 8 at depth 2. -/
def owning : State := ((holding .declared).drawTank 16 0 2).drawMeter 8 0 2

/-- Parcel 1 declared with twelve tanks at depth 8: the whole pool is drawn. -/
def poolDry : State := (List.range' 1 12).foldl (fun s n => s.drawTank n 0 8) (holding .declared)

theorem witness_AssignmentsDrawARing_tank :
    (holding .declared).serves .ship .assignTank ∧ Names [1, 0, 0] 3 0 ∧ Names [1, 17, 0] 3 0
      ∧ ((holding .declared).parcel 0).state = .declared
      ∧ (((holding .declared).tank 1).owner = none ∧ max 2 (min 8 1) ≤ (holding .declared).poolFree)
      ∧ (Names [1, 1, 1] 3 0 ∧ Names [1, 16, 9] 3 0)
      ∧ (owning.serves .ship .assignTank ∧ (owning.tank 16).owner = some 0 ∧ (owning.parcel 0).state = .declared)
      ∧ ((owning.setParcel 3 declared).serves .ship .assignTank ∧ Names [4, 16, 8] 3 3
        ∧ ((owning.setParcel 3 declared).parcel 3).state = .declared ∧ (0 : ParcelNo) ≠ 3
        ∧ ((owning.setParcel 3 declared).tank 16).owner = some 0)
      ∧ (poolDry.serves .ship .assignTank ∧ (poolDry.tank 13).owner = none ∧ poolDry.poolFree < 2
        ∧ (poolDry.parcel 0).state = .declared) := by
  unfold State.serves State.takes Names
  decide +kernel

theorem witness_AssignmentsDrawARing_meter :
    (holding .declared).serves .shore .assignMeter ∧ Names [1, 0, 0] 3 0 ∧ Names [1, 9, 0] 3 0
      ∧ ((holding .declared).parcel 0).state = .declared
      ∧ (((holding .declared).meter 1).owner = none ∧ max 2 (min 8 1) ≤ (holding .declared).poolFree)
      ∧ (Names [1, 1, 1] 3 0 ∧ Names [1, 8, 9] 3 0)
      ∧ (owning.serves .shore .assignMeter ∧ (owning.meter 8).owner = some 0 ∧ (owning.parcel 0).state = .declared)
      ∧ ((owning.setParcel 3 declared).serves .shore .assignMeter ∧ Names [4, 8, 8] 3 3
        ∧ ((owning.setParcel 3 declared).parcel 3).state = .declared ∧ (0 : ParcelNo) ≠ 3
        ∧ ((owning.setParcel 3 declared).meter 8).owner = some 0)
      ∧ (poolDry.serves .shore .assignMeter ∧ (poolDry.meter 8).owner = none ∧ poolDry.poolFree < 2
        ∧ (poolDry.parcel 0).state = .declared) := by
  unfold State.serves State.takes Names
  decide +kernel

theorem witness_UnassignmentsReturnTheRing :
    owning.serves .ship .unassignTank ∧ owning.serves .shore .unassignMeter
      ∧ (owning.parcel 0).state = .declared ∧ Names [1, 0] 2 0 ∧ Names [1, 17] 2 0 ∧ Names [1, 9] 2 0
      ∧ (Names [1, 16] 2 0 ∧ (owning.tank 16).owner = some 0) ∧ (Names [1, 8] 2 0 ∧ (owning.meter 8).owner = some 0)
      ∧ (Names [1, 1] 2 0 ∧ (owning.tank 1).owner ≠ some 0 ∧ (owning.meter 1).owner ≠ some 0) := by
  unfold State.serves State.takes Names
  decide +kernel

/-- A ship offer's payload: QUAD and LIN, α 850, 15 °C, both mass bases, 8653, FW_MEASURED. -/
def shipPayload : List Byte := [1, 6, 0, 3, 82, 5, 220, 3, 33, 205, 1]

/-- A shore offer's payload in agreement with it: PC_ON, F 70. -/
def shorePayload : List Byte := [1, 6, 0, 3, 82, 5, 220, 3, 33, 205, 1, 0, 70]

/-- The offer those payloads share. -/
def sharedOffer : CommonOffer := ⟨false, true, true, none, 850, 1500, true, true, 8653⟩

/-- Parcel 1 declared, holding that shore offer, or one in another reference temperature. -/
def offered (refTemp : Int) : State :=
  (holding .declared).setParcel 0 { declared with shoreOffer := some ⟨{ sharedOffer with refTemp := refTemp }, .on, 70⟩ }

theorem witness_OffersAreExaminedStoredAndResolved :
    (holding .declared).serves .ship .offerBasis ∧ Req.formed .offerBasis .ship shipPayload
      ∧ parcelOf (u8 shipPayload 0) = some 0
      ∧ shipOfferOf shipPayload = some ⟨sharedOffer, .measured⟩
      ∧ ((holding .declared).parcel 0).state = .declared ∧ ((holding .declared).parcel 0).shoreOffer = none
      ∧ (holding .basisAgreed).serves .shore .offerBasis ∧ Req.formed .offerBasis .shore shorePayload
      ∧ parcelOf (u8 shorePayload 0) = some 0
      ∧ shoreOfferOf shorePayload = some ⟨sharedOffer, .on, 70⟩
      ∧ ((holding .basisAgreed).parcel 0).state = .basisAgreed
      ∧ (offered 1500).serves .ship .offerBasis ∧ ((offered 1500).parcel 0).state = .declared
      ∧ ((offered 1500).parcel 0).shoreOffer = some ⟨sharedOffer, .on, 70⟩
      ∧ (offered 2000).serves .ship .offerBasis ∧ ((offered 2000).parcel 0).state = .declared
      ∧ ((offered 2000).parcel 0).shoreOffer = some ⟨{ sharedOffer with refTemp := 2000 }, .on, 70⟩ := by
  unfold State.serves State.takes Req.formed
  decide +kernel

theorem witness_OffersAreExaminedStoredAndResolved_outcomes :
    resolve ⟨sharedOffer, .measured⟩ ⟨sharedOffer, .on, 70⟩ false
        = .ok ⟨.quad, none, some 850, 1500, 8653, .vac, .measured, .on, 70, false⟩
      ∧ resolve ⟨sharedOffer, .measured⟩ ⟨{ sharedOffer with refTemp := 2000 }, .on, 70⟩ false = .error .refMismatch
      ∧ Req.formed .offerBasis .ship (shipPayload.set 10 3) ∧ Req.formed .offerBasis .shore (shorePayload.set 11 9)
      ∧ Req.formed .offerBasis .ship [1, 1, 1, 8, 3, 82, 5, 220, 3, 33, 205, 2]
      ∧ Req.formed .offerBasis .shore [1, 1, 1, 9, 3, 82, 5, 220, 3, 33, 205, 2, 1, 244]
      ∧ Req.formed .offerBasis .ship [1, 1, 0, 3, 82, 5, 220, 3, 33, 205, 2] :=
  ⟨rfl, rfl, by unfold Req.formed; decide +kernel⟩

/-- R34: the table of item 32 is VALID, and item 31's is not. -/
theorem witness_OffersAreExaminedStoredAndResolved_table :
    (let s := idle.markItem 32 .valid
     s.store.reported 32 = .valid ∧ s.store.reported 31 = .empty
      ∧ s.offeredTableValid ⟨{ quadOffer with tab := true, tableId := some 8 }, .measured⟩ = true
      ∧ s.offeredTableValid ⟨{ quadOffer with tab := true, tableId := some 7 }, .measured⟩ = false) := by
  decide +kernel

theorem witness_ResolutionFollowsItsSteps :
    (let a := sharedOffer
     let tab : CommonOffer := { sharedOffer with tab := true, tableId := some 8 }
     let far : CommonOffer := { sharedOffer with density := 8659 }
     let near : CommonOffer := { sharedOffer with density := 8658 }
     a.refTemp ≠ { a with refTemp := 2000 }.refTemp ∧ a.density + 5 < far.density ∧ ¬(a.density + 5 < near.density)
       ∧ (({ a with air := false }.vac && { a with vac := false }.vac) = false
         ∧ ({ a with air := false }.air && { a with vac := false }.air) = false)
       ∧ (tab.tab = true ∧ tab.tableId = tab.tableId) ∧ (a.quad = true ∧ a.alpha = a.alpha)
       ∧ { a with quad := false }.lin = true ∧ { a with quad := false }.quad = false
       ∧ { a with alpha := 851 }.alpha ≠ a.alpha) := by
  decide +kernel

theorem witness_OpenJoinsTheOpenSet :
    (holding .basisAgreed).serves .ship .openParcel ∧ Names [1] 1 0
      ∧ ((holding .basisAgreed).parcel 0).state = .basisAgreed ∧ (holding .basisAgreed).tanksOf 0 = []
      ∧ (let s := ((holding .basisAgreed).drawTank 1 0 2).drawMeter 1 0 2
        s.serves .ship .openParcel ∧ s.tanksOf 0 ≠ [] ∧ s.metersOf 0 ≠ [] ∧ (s.parcel 0).state = .basisAgreed
          ∧ (s.parcel 0).openSet = ⟨false, false⟩)
      ∧ (let s := (((holding .basisAgreed).drawTank 1 0 2).drawMeter 1 0 2).setParcel 0
          { declared with state := .basisAgreed, openSet := ⟨true, false⟩ }
        s.serves .ship .openParcel ∧ s.serves .shore .openParcel ∧ s.tanksOf 0 ≠ [] ∧ s.metersOf 0 ≠ []
          ∧ (s.parcel 0).state = .basisAgreed ∧ (s.parcel 0).openSet.has .ship = true
          ∧ (s.parcel 0).openSet = ⟨decide (Link.shore ≠ .ship), decide (Link.shore ≠ .shore)⟩) := by
  unfold State.serves State.takes Names
  decide +kernel

theorem witness_JobStartFollowsTheArbiter :
    (let e (j : JobSet) : Engine := ⟨#v[j, j, j, j], none, 3⟩
     (e ⟨true, true, true⟩).running = none ∧ ((e ⟨true, true, true⟩).jobs 0).close = true
      ∧ (∀ q < (0 : ParcelNo), ((e ⟨true, true, true⟩).jobs q).close = false)
      ∧ (∀ q, ((e ⟨true, true, false⟩).jobs q).close = false) ∧ ((e ⟨true, true, false⟩).jobs 0).openJob = true
      ∧ (∀ q, ((e ⟨false, true, false⟩).jobs q).close = false ∧ ((e ⟨false, true, false⟩).jobs q).openJob = false)
      ∧ ((e ⟨false, true, false⟩).jobs 0).cycle = true
      ∧ ∀ q : ParcelNo, ((0 : ParcelNo) - ((e ⟨false, true, false⟩).mark + 1)).val
        ≤ (q - ((e ⟨false, true, false⟩).mark + 1)).val) := by
  decide +kernel

/-- Parcel 1 on expansion table 8 with tank 16 and meter 8, both read, an attitude before and one after the tank's reading,
and every job waiting. -/
def copying : State :=
  let s := ((idle.drawTank 16 0 2).drawMeter 8 0 2).setParcel 0 { declared with
    state := .transferring
    basis := some ⟨.tab, some 8, none, 1500, 8653, .vac, .measured, .on, 70, false⟩
    run := [⟨8, -5, some 999999999, 700⟩] }
  let s := s.setTank 16 { s.tank 16 with latest := some ⟨some 40000, none, 0, 7⟩ }
  let s := s.setStore ((s.store.setItem 32 { s.store.item 32 with status := .valid, image := [0, 0] }).setItem 24
    { s.store.item 24 with status := .valid, image := [0x4D, 0x31, 0x20, 0x52, 0x55, 0x4E, 0x20, 0x41, 0xFF, 0x6A] })
  { s with
    att := ⟨some ⟨0, 0, 9⟩, [⟨5000, 500, 7⟩, ⟨0, 0, 9⟩]⟩
    clock := 10
    engine := ⟨#v[⟨true, true, true⟩, ⟨true, true, true⟩, ⟨true, true, true⟩, ⟨true, true, true⟩], none, 3⟩ }

theorem witness_JobStartFollowsTheArbiter_copy :
    copying.engine.running = none ∧ (copying.engine.jobs 0).close = true ∧ copying.tanksOf 0 = [16]
      ∧ copying.metersOf 0 = [8] ∧ (copying.tank 16).latest = some ⟨some 40000, none, 0, 7⟩
      ∧ copying.att.ring = [⟨5000, 500, 7⟩, ⟨0, 0, 9⟩] ∧ (copying.parcel 0).run = [] ++ ⟨8, -5, some 999999999, 700⟩ :: []
      ∧ copying.store.isValid (16 + 8) = true ∧ copying.store.isValid (24 + 8) = true
      ∧ (copying.parcel 0).basis = some ⟨.tab, some 8, none, 1500, 8653, .vac, .measured, .on, 70, false⟩
      ∧ (((copying.copyTank 900 16).att), ((copying.copyMeter .openJob (copying.parcel 0) 8).d),
          ((copying.copyMeter .cycle (copying.parcel 0) 8).d))
        = (some ⟨5000, 500, 7⟩, -150, -5) := by
  decide +kernel

theorem witness_OpenDoneEntersTransfer :
    (let c : JobCopy := { (default : JobCopy) with att := some ⟨0, 0, 0⟩ }
     c.openCauses = [] ∧ (running .openJob .opening false c).engine.running = some ⟨.openJob, 0, 5, 0, false, c⟩
      ∧ ((running .openJob .opening false c).parcel 0).state = .opening) := by
  decide +kernel

/-- R205: with the calendar set to 1000 at instant 20 a job that starts at 5 without a reading has calendar time
1000 - 1.5, to the nearest away from zero. -/
theorem witness_OpenDoneEntersTransfer_calendar :
    (let c : JobCopy := { (default : JobCopy) with att := some ⟨0, 0, 5⟩ }
     let s := { running .openJob .opening false c with calendar := some ⟨1000, 20⟩ }
     c.openCauses = [] ∧ s.calendar = some ⟨1000, 20⟩ ∧ (s.parcel 0).state = .opening
      ∧ ((s.openingOf c default 5).s0, (s.openingOf c default 5).calendar) = (5, some 998)) := by
  decide +kernel

theorem witness_OpenFailedReturnsToBasisAgreed :
    (default : JobCopy).openCauses ≠ []
      ∧ (running .openJob .opening false default).engine.running = some ⟨.openJob, 0, 5, 0, false, default⟩
      ∧ ((running .openJob .opening false default).parcel 0).state = .opening := by
  decide +kernel

/-- Every cause of R40: a source without a reading, a tank table, a meter definition, the expansion table of TAB. -/
theorem witness_OpenFailedReturnsToBasisAgreed_causes :
    (let basis : Basis := ⟨.tab, some 8, none, 1500, 8653, .vac, .measured, .on, 70, false⟩
     let c : JobCopy := { (default : JobCopy) with
       tanks := [{ (default : TankCopy) with number := 16 }]
       meters := [{ (default : MeterCopy) with number := 8 }]
       basis := some basis }
     (c.openCauses = [.noReading (.tank 16), .noReading (.meter 8), .noReading .att, .tableInvalid 16, .tableInvalid 24,
        .tableInvalid 32]
      ∧ c.closeFaults = [16, 32] ∧ { c with expansionValid := true }.closeFaults = [16])
      ∧ (running .openJob .opening false c).engine.running = some ⟨.openJob, 0, 5, 0, false, c⟩) := by
  decide +kernel

theorem witness_AppliedCycleIsJudged :
    (running .cycle .transferring false default).engine.running = some ⟨.cycle, 0, 5, 0, false, default⟩
      ∧ ((running .cycle .transferring false default).parcel 0).state = .transferring := by
  decide +kernel

theorem witness_DiscardedCycleChangesNothing :
    (running .cycle .transferring true default).engine.running = some ⟨.cycle, 0, 5, 0, true, default⟩
      ∧ (running .cycle .suspended false default).engine.running = some ⟨.cycle, 0, 5, 0, false, default⟩
      ∧ ((running .cycle .suspended false default).parcel 0).state ≠ .transferring := by
  decide +kernel

theorem witness_CloseDonePublishesARevision :
    (default : JobCopy).closeFaults = []
      ∧ (running .close .closing false default).engine.running = some ⟨.close, 0, 5, 0, false, default⟩
      ∧ ((running .close .closing false default).parcel 0).state = .closing := by
  decide +kernel

theorem witness_CloseFailedReturnsTheParcel :
    (let c : JobCopy := { (default : JobCopy) with tanks := [default] }
     c.closeFaults ≠ [] ∧ (running .close .closing false c).engine.running = some ⟨.close, 0, 5, 0, false, c⟩
      ∧ ((running .close .closing false c).parcel 0).state = .closing) := by
  decide +kernel

theorem witness_SuspendAndResumeMoveTheParty :
    (holding .transferring).serves .ship .suspend ∧ Names [1] 1 0
      ∧ ((holding .transferring).parcel 0).state = .transferring
      ∧ (holding .suspended).serves .shore .suspend ∧ (holding .suspended).serves .ship .resume
      ∧ ((holding .suspended).parcel 0).state = .suspended := by
  unfold State.serves State.takes Names
  decide +kernel

theorem witness_CloseExecutesOrIsReserved :
    (holding .transferring).serves .ship .close ∧ Names [1] 1 0
      ∧ ((holding .transferring).parcel 0).state = .transferring ∧ ¬Settled (holding .transferring) 0
      ∧ (let s := (holding .suspended).setParcel 0
          { declared with state := .suspended, flowRef := some (-600), closeReservation := ⟨false, true⟩ }
        s.serves .shore .close ∧ (s.parcel 0).state = .suspended ∧ (s.parcel 0).noFlow s.clock = some 600
          ∧ (s.parcel 0).params.settleTime ≤ 600 ∧ s.serves .shore .cancelClose
          ∧ (s.parcel 0).closeReservation.has .shore = true ∧ s.serves .ship .cancelClose
          ∧ (s.parcel 0).closeReservation.has .ship = false) := by
  refine ⟨?_, ?_, ?_, ?_, ?_⟩
  · unfold State.serves State.takes; decide +kernel
  · unfold Names; decide +kernel
  · decide +kernel
  · rintro (⟨n, h, -⟩ | ⟨x, h, -⟩)
    · exact absurd h (by revert n; decide +kernel)
    · exact absurd h (by rw [show ((holding .transferring).parcel 0).noFlow (holding .transferring).clock = none by
        decide +kernel]; simp)
  · unfold State.serves State.takes; decide +kernel

/-- Parcel 1 in SUSPENDED with a no-flow time of `x` and both marks armed, a close reserved by the parties named. -/
def still (x : Nat) (reserved : PartySet) : State :=
  idle.setParcel 0 { declared with
    state := .suspended
    flowRef := some (-tenths x)
    settleArmed := true
    restoreArmed := true
    closeReservation := reserved }

theorem witness_SettleMarkCarriesOutTheReservation :
    (let s := still 600 ⟨false, false⟩
     (s.parcel 0).state = .suspended ∧ (s.parcel 0).settleArmed = true ∧ (s.parcel 0).noFlow s.clock = some 600
      ∧ (s.parcel 0).params.settleTime ≤ 600 ∧ (s.parcel 0).closeReservation = ⟨false, false⟩)
    ∧ (let s := still 600 ⟨true, false⟩
     (s.parcel 0).state = .suspended ∧ (s.parcel 0).settleArmed = true ∧ (s.parcel 0).noFlow s.clock = some 600
      ∧ (s.parcel 0).params.settleTime ≤ 600 ∧ (s.parcel 0).closeReservation ≠ ⟨false, false⟩) := by
  decide +kernel

theorem witness_RestoreMarkRestoresTheGrade :
    (let s := still 3000 ⟨false, false⟩
     (s.parcel 0).state = .suspended ∧ (s.parcel 0).restoreArmed = true ∧ (s.parcel 0).noFlow s.clock = some 3000
      ∧ (s.parcel 0).params.restoreTime ≤ 3000) := by
  decide +kernel

theorem witness_RestoreGradeRestoresTheGrade :
    (holding .transferring).takes .survey ∧ (holding .transferring).takes .ship
      ∧ (holding .transferring).store.verifying = false ∧ Names [1] 1 0
      ∧ ((holding .transferring).parcel 0).state = .transferring ∧ (holding .closing).takes .survey
      ∧ (holding .closing).store.verifying = false ∧ ((holding .closing).parcel 0).state = .closing := by
  unfold State.takes Names
  decide +kernel

theorem witness_CycleTimerAndPulseEnd :
    (let s := (holding .transferring).setParcel 0 { declared with state := .transferring, cycleTimer := some 0 }
     (s.parcel 0).state = .transferring ∧ (s.parcel 0).cycleTimer = some 0 ∧ 0 ≤ (s.clock - 0).toInt)
    ∧ (let s := { idle.pulse 3 with msec := 100 }
     (s.lines.lamp 3).pulseUntil = some 100 ∧ 100 ≤ s.msec) := by
  decide +kernel

/-- A lamp of a pattern begun at 0, at a millisecond count. -/
def lit (x : LampPattern) (pulse : Option Nat) (ms : Nat) : State :=
  { idle.setLines (idle.lines.setLamp 0 ⟨x, 0, pulse⟩) with msec := ms }

/-- R211, R212: each pattern on either side of its phases, and inverted during a PULSE. -/
theorem witness_CycleTimerAndPulseEnd_lamps :
    [lit .fast none 124, lit .fast none 125, lit .fast none 250, lit .slow none 499, lit .slow none 500,
      lit .steady none 0, lit .dim none 0, lit .off none 0, lit .fast (some 200) 124, lit .slow (some 600) 500,
      lit .steady (some 100) 0, lit .dim (some 100) 0, lit .off (some 100) 0].map (fun s => s.lampDrive 0)
    = [.on, .off, .on, .on, .off, .on, .tenPercent, .off, .off, .on, .off, .ninetyPercent, .on] := by
  decide +kernel

/-- Parcel 1 in AWAITING_ACCEPT with a revision, an acceptance set and an expiry at 0. -/
def judging (revision : Nat) (x : AcceptSet) : State :=
  idle.setParcel 0 { declared with
    state := .awaitingAccept
    revision := some revision
    acceptance := x
    acceptTimer := some 0 }

theorem witness_RegaugesAndLineAdjustments :
    (let s := judging 2 ⟨false, false, false⟩
     s.serves .ship .regauge ∧ s.serves .shore .setLineAdjust ∧ (s.parcel 0).state = .awaitingAccept
      ∧ Names [1] 1 0 ∧ Names [1, 0, 15, 66, 64] 5 0 ∧ s32 [1, 0, 15, 66, 64] 1 = 1000000
      ∧ Names [1, 255, 240, 189, 192] 5 0 ∧ s32 [1, 255, 240, 189, 192] 1 = -1000000
      ∧ Names [1, 0, 15, 66, 65] 5 0 ∧ s32 [1, 0, 15, 66, 65] 1 = 1000001 ∧ (s.parcel 0).revision.getD 0 < 3)
    ∧ (let s := judging 3 ⟨false, false, false⟩
     s.serves .ship .regauge ∧ (s.parcel 0).state = .awaitingAccept ∧ 3 ≤ (s.parcel 0).revision.getD 0)
    ∧ ((holding .suspended).serves .shore .setLineAdjust ∧ ((holding .suspended).parcel 0).state = .suspended) := by
  unfold State.serves State.takes Names
  decide +kernel

theorem witness_AcceptancesAreCounted :
    (let s := judging 0 ⟨true, false, false⟩
     s.serves .shore .accept ∧ s.serves .ship .accept ∧ s.serves .survey .witness ∧ Names [1, 0] 2 0 ∧ Names [1, 1] 2 0
      ∧ (s.parcel 0).state = .awaitingAccept ∧ (s.parcel 0).revision = some (u8 [1, 0] 1)
      ∧ (s.parcel 0).revision ≠ some (u8 [1, 1] 1) ∧ (s.parcel 0).witnessed = false) := by
  unfold State.serves State.takes Names
  decide +kernel

/-- The transfer record of `judging`'s parcel with the figures of one tank and one meter, opened and revised. -/
def recorded : TransferRecord :=
  let s := (idle.drawTank 16 0 2).drawMeter 8 0 2
  { s with calendar := some ⟨100, 0⟩ }.buildRecord 0 { declared with
    opening := some { (default : OpeningFigures) with tanks := [{ (default : TankFigure) with tank := 16, gsv := 7 }] }
    closing := some { (default : ClosingFigures) with
      snapshot := 15
      tanks := [{ (default : TankFigure) with tank := 16, gsv := 9 }]
      meters := [{ (default : MeterFigure) with meter := 8, accAfter := 2500 }] } } none

/-- R151: opening and closing GSV, standard volume and closing calendar time (100 + round(15 / 10)) of a record. -/
theorem test_record_fields :
    recorded.tanks.map (fun e => (e.tank, e.openGsv, e.closeGsv)) = [(16, some 7, some 9)]
      ∧ recorded.meters.map (fun e => (e.meter, e.volume)) = [(8, some 3)] ∧ recorded.closeCalendar = some 102 := by
  decide +kernel

theorem witness_AcceptancesAreCounted_record :
    FirstNumbered (·.tank) [{ (default : TankFigure) with tank := 16, gsv := 9 }] 16
        { (default : TankFigure) with tank := 16, gsv := 9 }
      ∧ FirstNumbered (·.meter) [{ (default : MeterFigure) with meter := 8, accAfter := 2500 }] 8
        { (default : MeterFigure) with meter := 8, accAfter := 2500 } :=
  ⟨⟨[], [], rfl, rfl, by simp⟩, ⟨[], [], rfl, rfl, by simp⟩⟩

theorem witness_DisputeAndTimeoutEndAParcel :
    (let s := judging 0 ⟨false, false, false⟩
     s.serves .ship .dispute ∧ s.serves .shore .dispute ∧ Names [1] 1 0 ∧ (s.parcel 0).state = .awaitingAccept
      ∧ (s.parcel 0).acceptTimer = some 0 ∧ 0 ≤ (s.clock - 0).toInt) := by
  unfold State.serves State.takes Names
  decide +kernel

theorem witness_AbortEndsAParcel :
    (holding .transferring).serves .survey .abort ∧ Names [1] 1 0
      ∧ ((holding .transferring).parcel 0).state = .transferring := by
  unfold State.serves State.takes Names
  decide +kernel

theorem witness_AbandonFreesAParcel :
    (holding .declared).takes .survey ∧ (holding .declared).store.verifying = false ∧ Names [1] 1 0
      ∧ ((holding .declared).parcel 0).state = .declared ∧ (holding .opening).takes .ship
      ∧ (holding .opening).store.verifying = false ∧ ((holding .opening).parcel 0).state = .opening := by
  unfold State.takes Names
  decide +kernel

theorem witness_ReleaseFreesAParcel :
    (let s (pending : Bool) (x : PartySet) : State :=
        idle.setParcel 0 { declared with state := .closed, finalizePending := pending, releaseSet := x }
     Names [1] 1 0 ∧ (s true ⟨false, false⟩).serves .ship .release
      ∧ ((s true ⟨false, false⟩).parcel 0).finalizePending = true
      ∧ (s false ⟨false, false⟩).serves .survey .release ∧ (s false ⟨false, false⟩).serves .ship .release
      ∧ ((s false ⟨false, false⟩).parcel 0).finalizePending = false
      ∧ ((s false ⟨false, false⟩).parcel 0).state = .closed
      ∧ (s false ⟨true, false⟩).serves .shore .release
      ∧ ((s false ⟨true, false⟩).parcel 0).releaseSet = ⟨true, false⟩) := by
  unfold State.serves State.takes Names
  decide +kernel

theorem witness_TankAndAttitudeReadingsAreStored :
    idle.takes .ship ∧ mayRequest .tankReading .ship = true ∧ mayRequest .attitudeReading .ship = true
      ∧ idle.store.startingUp = false
      ∧ (let one : List Byte := [1, 16, 0, 156, 64, 240, 96, 7, 208]
        u8 one 0 = 1 ∧ one.length = 1 + 8 * u8 one 0 ∧ u8 one 1 = 16 ∧ u16 one 3 = 40000 ∧ s16 one 5 = -4000
          ∧ u16 one 7 = 2000)
      ∧ (let two : List Byte := [2, 17, 0, 0, 0, 0, 0, 0, 0, 17, 0, 0, 0, 0, 0, 0, 0]
        u8 two 0 = 2 ∧ two.length = 1 + 8 * u8 two 0 ∧ ¬(u8 two 1 ≤ 16))
      ∧ (let twice : List Byte := [2, 1, 5, 0, 0, 0, 0, 0, 0, 1, 0, 0, 0, 0, 0, 0, 0]
        u8 twice 1 = u8 twice 9 ∧ ¬(u8 twice 2 ≤ 4))
      ∧ (([236, 120, 1, 244] : List Byte).length = 4 ∧ s16 [236, 120, 1, 244] 0 = -5000
        ∧ s16 [236, 120, 1, 244] 2 = 500 ∧ s16 [236, 119, 1, 244] 0 = -5001) := by
  unfold State.takes
  decide +kernel

theorem witness_MeterReadingsAreStored :
    idle.takes .shore ∧ mayRequest .meterReading .shore = true ∧ idle.store.startingUp = false
      ∧ (let one : List Byte := [1, 8, 0, 59, 154, 201, 255, 58, 152, 9, 196]
        u8 one 0 = 1 ∧ one.length = 1 + 10 * u8 one 0 ∧ u8 one 1 = 8 ∧ u32 one 3 = 999999999 ∧ s16 one 7 = 15000
          ∧ u16 one 9 = 2500) := by
  unfold State.takes
  decide +kernel

/-- R50: a total that falls is held with REVERSE, and is held again on an unassigned meter. -/
def heldMeter : State :=
  let fall : MeterObs := ⟨8, 0, 100, 200, 5⟩
  let read (s : State) : State := (s.takeMeterObs [] fall).1
  read (read (idle.setMeter 8 { MeterSource.never with latest := some ⟨some 900, none, none, 0⟩ }))

theorem witness_MeterReadingsAreStored_hold :
    heldMeter.takes .shore ∧ heldMeter.store.startingUp = false
      ∧ (heldMeter.meter 8).stepHold = .holding ∧ ((heldMeter.drawMeter 8 0 2).meter 8).stepHold = .ended
      ∧ (heldMeter.drawMeter 8 0 2).takes .shore
      ∧ stepsBack (some 100) (((heldMeter.drawMeter 8 0 2).meter 8).latest.bind (·.total)) = true := by
  unfold State.takes
  decide +kernel

/-- R50: once the meter is assigned, its fallen total is taken as given with REVERSE clear (assumption 18). -/
theorem test_reassignment_ends_the_backward_hold :
    (heldMeter.meter 8).latest.bind (·.total) = some 900 ∧ (heldMeter.meter 8).reverse = true
      ∧ (let s := ((heldMeter.drawMeter 8 0 2).takeMeterObs [] ⟨8, 0, 100, 200, 5⟩).1
        (s.meter 8).latest.bind (·.total) = some 100 ∧ (s.meter 8).reverse = false
          ∧ (s.meter 8).stepHold = .none) := by
  decide +kernel

theorem witness_ReadsAreServedInPages :
    idle.takes .survey ∧ Names [4, 34] 2 3 ∧ idle.serves .ship .readTable ∧ u8 [34, 0] 0 = 34
      ∧ u8 [5, 0] 0 = 5 ∧ u8 [0, 0] 0 = 0 ∧ u8 [35, 0] 0 = 35
      ∧ idle.store.reported 34 ≠ .writing ∧ (idle.placeCommit 34 .ship true [0, 0] 0xFFFF).store.reported 34 = .writing
      ∧ (idle.placeCommit 34 .ship true [0, 0] 0xFFFF).serves .ship .readTable
      ∧ idle.serves .shore .readRecord ∧ ([0, 0, 0] : List Byte).length = 3 ∧ u16 [0, 1, 0] 0 = 1
      ∧ (∀ r ∈ idle.store.records, r.writing = false → r.record.seq ≠ 1)
      ∧ (idle.setStore { idle.store with records := [⟨.valid, false, someRecord, 0, 0xFFFF⟩] }).serves .shore .readRecord
      ∧ someRecord.seq = 1 := by
  unfold State.serves State.takes Names
  decide +kernel

/-- A ship offer of a payload: TAB with table 8, refTemp 1500, VAC, and its bytes; a shore offer of LIN without one. -/
theorem witness_ReadsAreServedInPages_offers :
    (idle.parcel 3).state = .free ∧ ((holding .declared).parcel 0).state ≠ .free
      ∧ (let pl : List Byte := [1, 1, 1, 8, 3, 82, 5, 220, 1, 33, 205, 1]
        Req.formed .offerBasis .ship pl ∧ (shipOfferOf pl).map (·.common.tab) = some true)
      ∧ (let pl : List Byte := [1, 4, 0, 3, 82, 5, 220, 1, 33, 205, 1, 0, 70]
        Req.formed .offerBasis .shore pl ∧ (shoreOfferOf pl).isSome = true ∧ u8 pl 2 = 0) := by
  unfold Req.formed
  decide +kernel

/-- R38: before a basis is held the shore link is shown that a ship offer is there, and not what it holds. -/
theorem test_offer_hidden :
    (let s (x : ShipOffer) := (holding .declared).setParcel 0 { declared with shipOffer := some x }
      let other : ShipOffer := { sharedOffer with density := 6000 } |> fun c => ⟨c, .measured⟩
      (s ⟨sharedOffer, .measured⟩).parcelReply 0 .shore = (s other).parcelReply 0 .shore
        ∧ (s ⟨sharedOffer, .measured⟩).parcelReply 0 .survey ≠ (s other).parcelReply 0 .survey) := by
  decide +kernel

theorem witness_StagingHoldsTheImage :
    idle.serves .ship .tableBegin ∧ u16 [34, 16, 0] 1 = 4096 ∧ u16 [34, 16, 1] 1 % 2 = 1
      ∧ idle.serves .ship .tableData ∧ (idle.link .ship).staging = none
      ∧ (let s := idle.setStaging .ship (some ⟨17, 10, List.replicate 10 0⟩)
        s.serves .ship .tableData ∧ (s.link .ship).staging = some ⟨17, 10, List.replicate 10 0⟩
          ∧ ([0, 9, 1, 7] : List Byte).length = 3 + u8 [0, 9, 1, 7] 2
          ∧ u16 [0, 9, 1, 7] 0 + u8 [0, 9, 1, 7] 2 ≤ 10 ∧ ¬(u16 [0, 10, 1, 7] 0 + u8 [0, 10, 1, 7] 2 ≤ 10)) := by
  unfold State.serves State.takes
  decide +kernel

/-- The image of section 10.3, staged on the shore link for an item. -/
def staged (s : State) (item : Nat) : State :=
  s.setStaging .shore (some ⟨item, 10, [0x4D, 0x31, 0x20, 0x52, 0x55, 0x4E, 0x20, 0x41, 0xFF, 0x6A]⟩)

/-- The part with item 17 in use, with it locked, with a commit of it queued, and with four commits of others queued. -/
def commitStates : List State :=
  [idle.drawMeter 1 0 2, idle.setStore (idle.store.setItem 17 { Item.delivered with lock := true }),
    idle.placeCommit 17 .shore false [] 0,
    [18, 19, 20, 21].foldl (fun s n => s.placeCommit n .shore false [] 0) idle]

theorem witness_CommitIsExaminedAndQueued :
    (staged idle 17).serves .shore .tableCommit ∧ ([0x1D, 0x83] : List Byte).length = 2
      ∧ mayWriteItem 17 .shore = true ∧ mayWriteItem 1 .shore = false
      ∧ ((staged idle 17).store.item 17).lock = false ∧ (staged idle 17).inUse 17 = false
      ∧ (staged idle 17).store.reported 17 ≠ .writing
      ∧ (staged idle 17).link .shore = { idle.link .shore with
        staging := some ⟨17, 10, [0x4D, 0x31, 0x20, 0x52, 0x55, 0x4E, 0x20, 0x41, 0xFF, 0x6A]⟩ }
      ∧ wordSum [0x4D, 0x31, 0x20, 0x52, 0x55, 0x4E, 0x20, 0x41, 0xFF, 0x6A] + BitVec.ofNat 16 (u16 [0x1D, 0x83] 0)
        = 0xFFFF
      ∧ imageFault 17 [0x4D, 0x31, 0x20, 0x52, 0x55, 0x4E, 0x20, 0x41, 0xFF, 0x6A] = none
      ∧ imageFault 25 [0x4D, 0x31, 0x20, 0x52, 0x55, 0x4E, 0x20, 0x41, 0xFF, 0x6A] = some 0
      ∧ (staged idle 17).store.commitCount < 4
      ∧ commitStates.map (fun s => (s.inUse 17, (s.store.item 17).lock, s.store.isWriting 17, s.store.commitCount))
        = [(true, false, false, 0), (false, true, false, 0), (false, false, true, 1), (false, false, false, 4)] := by
  unfold State.serves State.takes
  decide +kernel

/-- The four kinds of items in use and not (R168, R180), and an item of each kind with its writing link (section 10.1). -/
theorem witness_CommitIsExaminedAndQueued_items :
    (let s := (holding .opening).setParcel 1 { declared with
        shoreOffer := some ⟨{ quadOffer with tab := true, tableId := some 8 }, .on, 70⟩ }
     [25, 32, 33, 34].map s.inUse = [false, true, true, false]
      ∧ (s.setParcel 1 { (s.parcel 1) with state := .free }).inUse 32 = false)
    ∧ [1, 16, 17, 24, 25, 32, 33, 34].map (fun id => allLinks.map (mayWriteItem id))
      = [[true, false, false], [true, false, false], [false, true, false], [false, true, false], [false, true, true],
        [false, true, true], [true, false, false], [true, false, false]]
    ∧ (let w (k : WriteKind) (e : QueueEntry) : Store := (writing e k 1 1).store
      ((w .commit (.commit 17 .shore false [] 0)).reported 17, (w .history (.finalize 0 someRecord)).reported 33,
          (w .record (.finalize 0 someRecord)).reported 33)
        = (.writing, .writing, .empty)) := by
  decide +kernel

theorem witness_LocksAndClears :
    idle.serves .survey .lockTable ∧ idle.serves .survey .unlockTable ∧ u8 [34] 0 = 34 ∧ u8 [35] 0 = 35
      ∧ idle.serves .ship .clearHistory ∧ u8 [2] 0 = 2 ∧ (idle.store.item 34).lock = false ∧ idle.inUse 34 = false
      ∧ idle.store.reported 34 ≠ .writing ∧ idle.store.commitCount < 4
      ∧ (holding .transferring).serves .ship .clearHistory ∧ (holding .transferring).inUse 33 = true
      ∧ ((holding .transferring).store.item 33).lock = false := by
  unfold State.serves State.takes
  decide +kernel

theorem witness_VerificationWaitsPassesAndEnds :
    idle.serves .survey .verifyStore ∧ (idle.setVerify .waiting).store.verify = .waiting
      ∧ (∀ w, (idle.setVerify .waiting).store.writer = some w → w.paused = true)
      ∧ (let s := (idle.setVerify (.running 0)).setStore
          { (Store.delivered.setCheckpoint 1 ⟨.invalid, none, 0, 0⟩) with verify := .running 0 }
        s.store.verify = .running 0 ∧ s.store.writer = none ∧ s.store.dropped 1 ∧ ¬s.store.dropped 0) := by
  refine ⟨by unfold State.serves State.takes; decide +kernel, rfl, ?_, by unfold Store.dropped; decide +kernel⟩
  intro w h
  exact absurd h (by rw [show (idle.setVerify .waiting).store.writer = none from rfl]; simp)

theorem witness_WriteUnitTakesTheOldestEntry :
    (let entries : List QueueEntry :=
        [.commit 34 .ship true [0, 0] 0xFFFF, .checkpoint 3 savedCopy, .finalize 0 someRecord]
     entries.map (fun e => (idle.setStore (idle.store.enqueue e)).store.queue) = entries.map (fun e => [e])
      ∧ idle.store.verify = .idle ∧ idle.store.writer = none) := by
  decide +kernel

/-- R169: a committed history of two entries begins with both IMPORTED. -/
theorem witness_WriteUnitTakesTheOldestEntry_history :
    (let img := historyImage [(100000, 100001), (200000, 200001)]
     let s := (idle.setStore (idle.store.enqueue (.commit 33 .ship false img 0))).after [.writeStart]
     (u16 img 0, s.store.writer.map (·.origins)) = (2, some [.imported, .imported])) := by
  decide +kernel

theorem witness_BlockWritesEndCommitsAndCheckpoints :
    (let e := QueueEntry.commit 34 .ship true [0, 0] 0xFFFF
     (writing e .commit 1 1).store.writer = some { ActiveWrite.begin e .commit 1 with block := 1 }
      ∧ (ActiveWrite.begin e .commit 1).paused = false ∧ (ActiveWrite.begin e .commit 2).block < 2)
    ∧ (let e := QueueEntry.checkpoint 3 savedCopy
     (writing e .checkpoint 16 16).store.writer = some { ActiveWrite.begin e .checkpoint 16 with block := 16 }
      ∧ (ActiveWrite.begin e .checkpoint 16).paused = false) := by
  decide +kernel

theorem witness_FinalizeGoesThroughItsWrites :
    (let e := QueueEntry.finalize 0 someRecord
     (writing e .record 12 12).store.writer = some { ActiveWrite.begin e .record 12 with block := 12 }
      ∧ (writing e .history 2 2).store.writer = some { ActiveWrite.begin e .history 2 with block := 2 }
      ∧ (writing e .clearCheckpoint 1 1).store.writer = some { ActiveWrite.begin e .clearCheckpoint 1 with block := 1 }
      ∧ (writing e .record 12 12).store.verify = .idle ∧ voyageEntry someRecord = none
      ∧ voyageEntry { someRecord with ship := some 100000, shore := some 999999999 } = some (100000, 999999999)) := by
  decide +kernel

theorem witness_FinalizeGoesThroughItsWrites_verification :
    (let e := QueueEntry.finalize 0 someRecord
     let waiting (k : WriteKind) (v : VerifyPhase) : State :=
        (idle.setWriter (some { ActiveWrite.begin e k 2 with block := 2, paused := true })).setVerify v
     (waiting .record (.running 0)).store.verify = .running 0
      ∧ (waiting .record (.running 0)).store.writer = some { ActiveWrite.begin e .record 2 with block := 2, paused := true }
      ∧ (waiting .history (.running 0)).store.writer
        = some { ActiveWrite.begin e .history 2 with block := 2, paused := true }
      ∧ ((writing e .history 2 2).setVerify .waiting).store.verify ≠ .idle) := by
  decide +kernel

theorem witness_StatusCalendarAndSilence :
    idle.takes .ship ∧ idle.takes .survey ∧ ([0, 0, 0, 1] : List Byte).length = 4 ∧ idle.anyAlarm = false
      ∧ (idle.setParcel 3 { declared with
        state := .transferring
        recon := { Recon.initial with alarm := true } }).anyAlarm = true := by
  unfold State.takes
  decide +kernel

theorem witness_EveryRequestHasOneResponse :
    idle.takes .ship ∧ idle.takes .shore ∧ idle.takes .survey := by
  unfold State.takes
  decide +kernel

theorem witness_RequestsMeetTheCommonChecks :
    mayRequest .abort .ship = false ∧ State.reset.takes .ship ∧ State.reset.store.verifying = true
      ∧ State.reset.store.startingUp = true ∧ mayRequest .tankReading .ship = true
      ∧ Req.namesParcel .dispute = true
      ∧ u8 [5] 0 = 5 ∧ parcelOf (u8 [1] 0) = some 0
      ∧ Req.busyIn .dispute ((holding .closing).parcel 0).state = true
      ∧ Req.takenIn .suspend ((holding .closing).parcel 0).state = false
      ∧ Req.busyIn .suspend ((holding .closing).parcel 0).state = false
      ∧ (let s := [0, 1, 2, 3].foldl (fun acc p => acc.setParcel p declared) idle
        s.serves .shore .declare ∧ ∀ p, (s.parcel p).state ≠ .free) := by
  unfold State.serves State.takes
  decide +kernel

theorem witness_RequestsMeetTheCommonChecks_attended :
    (holding .closing).attends .ship .dispute ∧ (holding .closing).attends .ship .suspend
      ∧ State.reset.attends .shore .status ∧ State.reset.attends .shore .readParcel
      ∧ (idle.setVerify .waiting).attends .ship .tankReading := by
  unfold State.attends State.takes
  decide +kernel

theorem witness_RequestsMeetTheCommonChecks_forms :
    Req.formed .dispute .ship [5] ∧ ¬Req.formed .dispute .ship [] ∧ Req.formed .declare .ship [1, 1, 1, 65, 0]
      ∧ ¬Req.formed .status .shore [0] ∧ ¬Req.formed .readParcel .shore [1] ∧ Req.formed .readParcel .shore [5, 0]
      ∧ ¬Req.formed .tankReading .ship [0] ∧ ¬Req.formed .tankReading .ship (17 :: List.replicate 136 0)
      ∧ ¬Req.formed .offerBasis .ship [1, 6, 2, 3, 82, 5, 220, 3, 33, 205, 1, 0, 0] := by
  simp only [Req.formed]
  decide +kernel

theorem witness_FramerFollowsTheBytes :
    (broken .ship).link .ship = { idle.link .ship with condition := .broken }
      ∧ (idle.link .ship).condition = .normal ∧ (idle.link .ship).framer = .hunting false
      ∧ (let k (f : Framer) : LinkState := { idle.link .ship with framer := f }
        (k (.hunting true)).condition = .normal ∧ (k (.hunting true)).framer ≠ .hunting false
          ∧ (k (.hunting true)).lastByte + 20 < 21 ∧ ¬((k (.hunting true)).lastByte + 20 < 20)
          ∧ (k (.receiving [250])).framer = .receiving ((250 : Byte) :: []) ∧ (250 : Byte).toNat ≤ 250
          ∧ (k (.receiving [2, 0x50, 7, 0xDC])).framer = .receiving (2 :: [0x50, 7, 0xDC])
          ∧ ([2, 0x50, 7, 0xDC] ++ [0xA5] : List Byte).length = (2 : Byte).toNat + 3
          ∧ (crc [2, 0x50, 7]).toNat ≠ u16 ([2, 0x50, 7, 0xDC] ++ [0xA5]) 3) := by
  decide +kernel

theorem witness_BytesOfAFrameAreItsCommand :
    (idle.link .survey).condition = .normal ∧ (idle.link .survey).framer = .hunting false
      ∧ (List.replicate 248 (0 : Byte)).length ≤ 248 := by
  decide +kernel

theorem witness_LinksDiscardAndBreak :
    idle.takes .ship
      ∧ ({ idle.link .ship with framer := .receiving [2] }).framer = .receiving [2]
      ∧ ({ idle.link .ship with framer := .receiving [2] }).framer ≠ .hunting false
      ∧ (idle.link .ship).lastByte + 20 < 21
      ∧ ({ idle.link .ship with responses := List.replicate 8 default }).condition = .normal
      ∧ 8 ≤ ({ idle.link .ship with responses := List.replicate 8 default }).responses.length
      ∧ ((broken .ship).link .ship).condition = .broken := by
  unfold State.takes
  decide +kernel

theorem witness_BytesOfAFrameAreItsCommand_unknownKind :
    ∀ r : Req, r.code ≠ (0x53 : Byte).toNat := by
  intro r
  cases r <;> decide

theorem witness_ResponsesGoBeforeNotices :
    (let k (rs : List Response) (ns : List Notice) (x : Transmitter) : LinkState :=
        { idle.link .ship with responses := rs, notices := ns, tx := x }
     let n (b : NoticeBody) : Notice := ⟨0, b⟩
     let cycle : NoticeBody := .cycleResult 0 default 1 0 false false false 0 0 false
     (k [default, default] [] (.response [])).condition = .normal ∧ (k [default] [] (.notice [])).tx ≠ .idle
      ∧ (k [default] [n default] (.response [])).responses.drop 1 = [] ∧ ((broken .ship).link .ship).condition = .broken
      ∧ (k [] (List.replicate 15 (n default)) .idle).notices.length < 16
      ∧ 16 ≤ (k [] (n default :: n cycle :: List.replicate 14 (n default)) .idle).notices.length
      ∧ cycle.isCycleResult = true ∧ (default : NoticeBody).isCycleResult = false) := by
  decide +kernel

theorem witness_InputsAreRecognized :
    (let s := recognizing idle .spare false
     (s.lines.input .spare).candidate = some 0 ∧ 0 + 50 ≤ s.msec)
    ∧ (let s := recognizing idle (.mv 3) true
     (s.lines.input (.mv 3)).candidate = some 0 ∧ 0 + 50 ≤ s.msec ∧ (s.lines.input (.mv 3)).level = true) := by
  decide +kernel

theorem witness_InputsAreRecognized_return :
    (let s := recognizing idle .spare false
     let x := (s.lines.input .spare).sample s.straps .spare 0 s.msec
     (s.lines.input .spare).candidate = some 0 ∧ 0 + 50 ≤ s.msec ∧ x.lastRead.getD false = false)
    ∧ (let s := { recognizing idle .spare false with msec := 49 }
     (s.lines.input .spare).candidate = some 0 ∧ s.msec < 0 + 50)
    ∧ (idle.lines.input .spare).candidate = none := by
  decide +kernel

theorem witness_ShutdownAndValvesReachTheParcels :
    (let s := recognizing (holding .transferring) .esd false
     (s.lines.input .esd).candidate = some 0 ∧ 0 + 50 ≤ s.msec ∧ (s.lines.input .esd).level = false
      ∧ (s.parcel 0).state = .transferring ∧ (s.parcel 1).inTransfer = false)
    ∧ (let s := recognizing (idle.setParcel 0 { declared with
          state := .suspended
          suspendSet := ⟨false, false, true, false⟩ }) .esd true
     (s.lines.input .esd).candidate = some 0 ∧ (s.lines.input .esd).level = true
      ∧ (s.parcel 0).suspendSet.esd = true ∧ (s.parcel 1).suspendSet.esd = false)
    ∧ (let s := recognizing (idle.setParcel 0 { declared with
          state := .transferring
          params := { declared.params with valveInput := 4 }
          closeReservation := ⟨true, false⟩ }) (.mv 3) false
     (s.lines.input (.mv 3)).candidate = some 0 ∧ (s.lines.input (.mv 3)).level = false
      ∧ (s.parcel 0).params.valveInput = (3 : ParcelNo).val + 1
      ∧ (s.parcel 0).closeReservation ≠ ⟨false, false⟩ ∧ (s.parcel 0).inTransfer = true) := by
  decide +kernel

theorem witness_DivisionsAreNearestAndLookupsInterpolate :
    (0 : Int) < 2 ∧ 2 * (roundDiv 5 2 * 2 - 5).natAbs = (2 : Int).natAbs
      ∧ ([(0, 0), (1000, 12)] : List (Int × Int)).Pairwise (fun a b => a.1 < b.1)
      ∧ (let e (total : Option Nat) (t : Instant) : MeterEntry := ⟨⟨total, none, none, t⟩, false, false⟩
        (e (some 1) 0).reading.total = some 1 ∧ (e (some 0) 5).reading.total = some 0
          ∧ (e (some 1) 0).reading.arrival ≠ (e (some 0) 5).reading.arrival ∧ (e none 0).reading.total = none) := by
  decide +kernel

/-- R76: LIN with α 2000 at 135 °C above the reference computes 730,000; 75 °C above it the limit itself. -/
theorem witness_DivisionsAreNearestAndLookupsInterpolate_factors :
    (let b : Basis := ⟨.lin, none, some 2000, 1500, 8653, .vac, .measured, .on, 500, false⟩
     b.alpha = some 2000 ∧ b.method ≠ .tab ∧ { b with method := .tab }.method = .tab
      ∧ 1000000 - roundDiv (2000 * (15000 - b.refTemp)) 100 = 730000
      ∧ 1000000 - roundDiv (2000 * (9000 - b.refTemp)) 100 = 850000
      ∧ b.pressure = .on ∧ b.compress ≤ 500 ∧ { b with pressure := .off }.pressure = .off) := by
  decide +kernel

theorem witness_GrossObservedVolumeIsBounded :
    tank4.table.calibration.Pairwise (fun x y => x.1 < y.1) ∧ ∀ row ∈ tank4.table.calibration, 0 ≤ row.2 := by
  decide +kernel

/-- The worked tank 4 (section 4.10) has a reading, an ullage and a VALID table, and Uc within its keys; without a table or
an ullage its steps are not made; its dip is not 0, tank 3's is. -/
theorem witness_GrossObservedVolumeIsBounded_cases :
    (∃ r u, tank4.latest = some r ∧ r.ullage = some u ∧ 0 < r.dip) ∧ tank4.tableValid = true
      ∧ (tank4.table.calibration.head?).map (·.1) = some 1000 ∧ (tank4.table.calibration.getLast?).map (·.1) = some 18000
      ∧ (∃ r, tank3.latest = some r ∧ r.dip = 0) ∧ workedBasis.freeWater = .measured ∧ workedBasis.method ≠ .tab
      ∧ (({ tank4 with latest := none }).latest = none ∧ ({ tank4 with tableValid := false }).tableValid = false)
      ∧ (tankFigure workedBasis true [] false tank4).uc = some 1504
      ∧ (([tank3, tank4] : List TankCopy)[1]? = some tank4) := by
  refine ⟨⟨_, _, rfl, rfl, by decide⟩, rfl, by decide, by decide, ⟨_, rfl, rfl⟩, rfl, by decide, ⟨rfl, rfl⟩,
    by decide +kernel, rfl⟩

/-- A job with a tank read at 10 and an attitude at 5, and a meter whose one entry carries a total. -/
theorem witness_MeterTotalsAreAlignedAndAdded_record :
    (let c : JobCopy := { (default : JobCopy) with
        tanks := [{ tank4 with latest := some ⟨some 1, none, 0, 10⟩ }]
        att := some ⟨0, 0, 5⟩
        meters := [{ (default : MeterCopy) with ring := [⟨⟨some 7, none, none, 9⟩, false, false⟩] }] }
     ((∃ x ∈ c.tanks, ∃ r, x.latest = some r ∧ r.arrival = 10) ∧ ∃ r, c.att = some r ∧ r.arrival = 5)
      ∧ c.snapshot 20 = 5 ∧ (∃ m, c.meters[0]? = some m ∧ (align 20 5 m.ring).used = some ⟨some 7, none, none, 9⟩)
      ∧ (default : JobCopy).snapshot 20 = 20 ∧ (align 20 5 []).used = none
      ∧ JobKind.cycle ≠ .openJob ∧ { workedBasis with method := .tab }.method = .tab) := by
  refine ⟨⟨⟨_, .head _, _, rfl, rfl⟩, _, rfl, rfl⟩, by decide +kernel, ⟨_, rfl, by decide +kernel⟩, by decide +kernel,
    by decide +kernel, by decide, rfl⟩

theorem witness_MeterTotalsAreAlignedAndAdded :
    (let a : MeterReading := ⟨some 999999999, none, none, 12000⟩
     let b : MeterReading := ⟨some 0, none, none, 12300⟩
     a.total = some 999999999 ∧ b.total = some 0 ∧ 999999999 < 1000000000 ∧ a.arrival ≠ b.arrival
      ∧ age 12100 a.arrival ≤ age b.arrival a.arrival)
    ∧ totalDelta 499999999 0 < 500000000 ∧ 500000000 ≤ totalDelta 500000000 0 := by
  decide +kernel

theorem witness_MeterTotalsAreAlignedAndAdded_brackets :
    (let e (total : Option Nat) (t : Instant) : MeterEntry := ⟨⟨total, none, none, t⟩, false, false⟩
     let early (t : Instant) : Prop := age 20 10 ≤ age 20 t
     [e (some 1) 5, e none 9, e (some 2) 10, e (some 3) 11].filter (fun e => e.reading.total.isSome)
        = [e (some 1) 5] ++ e (some 2) 10 :: e (some 3) 11 :: []
      ∧ early 5 ∧ early 10 ∧ ¬early 11 ∧ [e none 9].filter (fun e => e.reading.total.isSome) = []) := by
  decide +kernel

theorem witness_ExperienceFactorIsComputed :
    ([(100000, 100000)] : List (Int × Int)) ≠ []
      ∧ (let kept := List.replicate 5 ((100000, 100000) : Int × Int)
        5 ≤ kept.length ∧ roundDiv ((kept.map (·.1)).sum * 100000) (kept.map (·.2)).sum = 100000) := by
  decide +kernel

/-- A VALID history of one entry, and an image of it. -/
theorem witness_ExperienceFactorIsComputed_history :
    (let img : List Byte := [0, 1, 0, 1, 134, 160, 0, 1, 134, 161]
     u16 img 0 = 1 ∧ (u32 img 2 : Int) = 100000 ∧ (u32 img 6 : Int) = 100001
        ∧ historyImage [(100000, 100001)] = img ∧ historyOf img = [(100000, 100001)])
    ∧ Item.delivered.status = .empty ∧ Status.invalid ≠ .valid := by
  decide +kernel

/-- A factor held for a direction (R164). -/
theorem witness_ExperienceFactorIsComputed_held :
    (idle.computeVef .discharge).vef .discharge = some ⟨.unavailable .fewEntries, 0, none, [], 0, none⟩
      ∧ (idle.computeVef .discharge).vef .load = none := by
  decide +kernel

theorem witness_RunsOfCyclesMoveGradeAndAlarm :
    (let x := Params.defaults
     let mixed : List CycleOutcome := [.indeterminate, .notJudgedBelowMinimum, .indeterminate, .indeterminate]
     Recon.initial.indeterminate + mixed.count .indeterminate + 1 = x.downshiftN ∧ Recon.initial.alarm = false
      ∧ Recon.initial.divergent + [CycleOutcome.divergent, .indeterminate, .divergent].count .divergent + 1
        = x.confirmCount
      ∧ ({ Recon.initial with alarm := true }).clear
          + [CycleOutcome.within true, .within true].count (.within true) + 1 = x.clearCount
      ∧ 0 < x.clearCount) := by
  decide +kernel

theorem witness_OutcomesFollowBandAndCauses :
    (let least : Int := max (10 * (Params.defaults.floor : Int)) 10000
     least = 20000 ∧ (19999 : Int) < least ∧ least ≤ 20000 ∧ (0 : Int) ≤ 2000
      ∧ (-2000 : Int) ≤ -2000 ∧ 2 * ((1000 : Int).natAbs : Int) ≤ 2000 + 1 ∧ 2000 + 1 < 2 * ((-1001 : Int).natAbs : Int)
      ∧ (2000 : Int) < 2001) := by
  decide +kernel

end Sys2Proof.Tests
end

section
/-!
PROOFS. What every parcel request does alike: the examination of its payload (R2), what an answer and a refusal leave of
the part, and which fields a change of a parcel record may touch.
-/

namespace Sys2Proof.Machine

/-! ### Changes of links alone -/

theorem OnlyLinks.trans {s t u : State} (h : OnlyLinks s t) (g : OnlyLinks t u) : OnlyLinks s u := by
  unfold OnlyLinks at *
  rw [g, h]

theorem State.setLink_onlyLinks (s : State) (l : Link) (k : LinkState) : OnlyLinks s (s.setLink l k) := by
  cases l <;> rfl

theorem State.hunt_onlyLinks (s : State) (l : Link) : OnlyLinks s (s.hunt l) := s.setLink_onlyLinks l _

/-- Placing a response and choosing the next frames is a matter of the links. -/
theorem State.answered_onlyLinks (s : State) (l : Link) (tag : Byte) (r : Reply) :
    OnlyLinks s (s.respond l tag r).transmitAll :=
  (s.setLink_onlyLinks l _).trans rfl

/-- `Within` does not see what the links hold before and after. -/
theorem Within.of_onlyLinks {p : ParcelNo} {s s' t t' : State} (hs : OnlyLinks s s') (ht : OnlyLinks t t')
    (h : Within p s' t) : Within p s t' := by
  obtain ⟨rest, others, lamp⟩ := h
  unfold OnlyLinks at hs ht
  generalize s'.ship = a, s'.shore = b, s'.survey = c at hs
  generalize t'.ship = x, t'.shore = y, t'.survey = z at ht
  subst hs ht
  exact ⟨congrArg (fun u : State => { u with ship := x, shore := y, survey := z }) rest, others, lamp⟩

/-- `OnlyParcel` does not see what the links hold before and after. -/
theorem OnlyParcel.of_onlyLinks {p : ParcelNo} {s s' t t' : State} (hs : OnlyLinks s s') (ht : OnlyLinks t t')
    (h : OnlyParcel p s' t) : OnlyParcel p s t' := by
  obtain ⟨within, engine, store, silence, alarmOut⟩ := h
  refine ⟨within.of_onlyLinks hs ht, ?_⟩
  unfold OnlyLinks at hs ht
  rw [hs] at engine store silence alarmOut
  rw [ht]
  exact ⟨engine, store, silence, alarmOut⟩

/-- `LampFollows` does not see what the links hold before and after. -/
theorem LampFollows.of_onlyLinks {p : ParcelNo} {s s' t t' : State} (hs : OnlyLinks s s') (ht : OnlyLinks t t')
    (h : LampFollows p s' t) : LampFollows p s t' := by
  unfold OnlyLinks at hs ht
  rw [hs] at h
  rw [ht]
  exact h

/-! ### A change of a parcel record -/

/-- A change of a parcel record touches that record, its lamp and the links (R4, R211). -/
theorem State.changeParcel_onlyParcel (s : State) (p : ParcelNo) (r : Parcel) (c : Cause) :
    OnlyParcel p s (s.changeParcel p r c) := by
  have lines := s.changeParcel_lines p r c
  refine ⟨⟨?_, fun q h => s.parcel_changeParcel_ne h r c, ?_, fun q h => s.changeParcel_lamp_ne h r c⟩,
    s.changeParcel_engine p r c, s.changeParcel_store p r c, ?_, ?_⟩
  · simp only [State.changeParcel, State.relamp]
    split <;> split <;> rfl
  all_goals rw [lines]

/-- The lamp follows the record put in place (R211). -/
theorem State.changeParcel_lampFollows (s : State) (p : ParcelNo) (r : Parcel) (c : Cause) :
    LampFollows p s (s.changeParcel p r c) := by
  simpa [LampFollows] using s.changeParcel_lamp_same p r c

/-! ### The examination and the answer of a parcel request (R2, R195) -/

/-- A payload of the right form that names a parcel reaches the request's own rule, unless a verification is on. -/
theorem withParcel_of_names {pl : List Byte} {n : Nat} {p : ParcelNo} {s : State} (h : Names pl n p)
    (idle : s.store.verifying = false) (k : ParcelNo → State × Reply) : withParcel (formLen n) pl s k = k p := by
  obtain ⟨form, named⟩ := h
  simp [withParcel, idle, formLen, form, named]

theorem State.parcelFields_congr {s t : State} {p : ParcelNo} (h : t.parcel p = s.parcel p) :
    t.parcelFields p = s.parcelFields p := by
  simp [State.parcelFields, h]

/-- A refused request: its response stands on its link, and no block changed anything. -/
theorem turnedAway_of_refuse {r : Req} {body : Body} {l : Link} {tag : Byte} {pl : List Byte} {s : State} {c : Code}
    (takes : s.takes l) (right : mayRequest r l = true) (h : body l pl (s.hunt l) = refuse (s.hunt l) c) :
    TurnedAway s (serve r body l tag pl s) l tag c := by
  rw [serve_taken takes right, h]
  refine ⟨replied_of_links ?_ fun m hm => ?_, (s.hunt_onlyLinks l).trans (State.answered_onlyLinks _ _ _ _)⟩
  · simp [refuse]
  · simp [refuse, State.link_hunt_ne _ hm]

/-- The links after a parcel request that its block answered from the state `t`, having posted `bs`. -/
theorem repliedFor_of_links {s t : State} {l : Link} {p : ParcelNo} {c : Code} {more : List Byte} {tag : Byte}
    {bs : List NoticeBody} (links : ∀ m, t.link m = ((s.hunt l).link m).placeAll s.clock bs) :
    RepliedFor s (t.respond l tag (Reply.withFields c (t.parcelFields p ++ more))).transmitAll l tag p c more bs := by
  have fields (r : Reply) : (t.respond l tag r).transmitAll.parcelFields p = t.parcelFields p :=
    State.parcelFields_congr (by simp)
  unfold RepliedFor
  rw [fields]
  refine replied_of_links ?_ fun m hm => ?_
  · rw [links, State.link_hunt_same]
  · rw [links, State.link_hunt_ne _ hm]

end Sys2Proof.Machine
end

section
/-!
PROOFS. The return of a parcel to FREE (R24): its sources given back (R53, R56), its record cleared; and ABANDON, which
does that and no more (R21).
-/

namespace Sys2Proof.Machine

/-! ### The sources of a parcel given back -/

/-- A tank channel whose ring is taken away and its slots returned (R53, R56). -/
def TankSource.returned (t : TankSource) : TankSource := { t with owner := none, depth := 0, ring := [] }

/-- A meter run whose ring is taken away, its slots returned and its rate dropped (R53, R56). -/
def MeterSource.returned (m : MeterSource) : MeterSource :=
  { m with owner := none, depth := 0, ring := [], rate := none }

theorem State.mem_tanksOf (s : State) (p : ParcelNo) (n : Nat) : n ∈ s.tanksOf p ↔ (s.tank n).owner = some p := by
  have named : (s.tank n).owner = some p → 1 ≤ n ∧ n < 17 := by
    intro owned
    by_contra outside
    have never : s.tank n = TankSource.never := by
      rcases Nat.eq_zero_or_pos n with zero | pos
      · simp [State.tank, zero]
      · simp [State.tank, show n ≠ 0 by omega, show ¬ n - 1 < 16 by omega]
    simp [never, TankSource.never] at owned
  simpa [State.tanksOf, tankNumbers] using named

theorem State.mem_metersOf (s : State) (p : ParcelNo) (n : Nat) :
    n ∈ s.metersOf p ↔ (s.meter n).owner = some p := by
  have named : (s.meter n).owner = some p → 1 ≤ n ∧ n < 9 := by
    intro owned
    by_contra outside
    have never : s.meter n = MeterSource.never := by
      rcases Nat.eq_zero_or_pos n with zero | pos
      · simp [State.meter, zero]
      · simp [State.meter, show n ≠ 0 by omega, show ¬ n - 1 < 8 by omega]
    simp [never, MeterSource.never] at owned
  simpa [State.metersOf, meterNumbers] using named

/-- A fold of updates, each of one number of `xs`, makes the update `g` of exactly those: an update made twice is
the update made once. -/
theorem read_foldl_update {α : Type} {read : State → Nat → α} {f : State → Nat → State} {g : α → α}
    {xs : List Nat} (idem : ∀ a, g (g a) = g a) (same : ∀ s, ∀ n ∈ xs, read (f s n) n = g (read s n))
    (other : ∀ s n m, m ≠ n → read (f s n) m = read s m) (s : State) (m : Nat) :
    read (xs.foldl f s) m = if m ∈ xs then g (read s m) else read s m := by
  induction xs generalizing s with
  | nil => simp
  | cons n rest ih =>
    rw [List.foldl_cons, ih fun s k hk => same s k (List.mem_cons_of_mem n hk)]
    by_cases h : m = n
    · subst h
      simp [same s m List.mem_cons_self, idem]
    · simp [other s n m h, h]

theorem State.tank_returnTank_same (s : State) {n : Nat} (lo : 1 ≤ n) (hi : n ≤ 16) :
    (s.returnTank n).tank n = (s.tank n).returned := s.tank_setTank_same lo hi _

theorem State.tank_returnTank_ne (s : State) (n m : Nat) (h : m ≠ n) : (s.returnTank n).tank m = s.tank m :=
  s.tank_setTank_ne h _

theorem State.meter_returnMeter_same (s : State) {n : Nat} (lo : 1 ≤ n) (hi : n ≤ 8) :
    (s.returnMeter n).meter n = (s.meter n).returned := s.meter_setMeter_same lo hi _

theorem State.meter_returnMeter_ne (s : State) (n m : Nat) (h : m ≠ n) : (s.returnMeter n).meter m = s.meter m :=
  s.meter_setMeter_ne h _

theorem State.tank_returnSources (s : State) (p : ParcelNo) (n : Nat) :
    (s.returnSources p).tank n = if (s.tank n).owner = some p then (s.tank n).returned else s.tank n := by
  have kept : (s.returnSources p).tanks = ((s.tanksOf p).foldl State.returnTank s).tanks :=
    foldl_keeps State.tanks State.returnMeter_tanks _ _
  have taken (u : State) (k : Nat) (hk : k ∈ s.tanksOf p) : (u.returnTank k).tank k = (u.tank k).returned := by
    obtain ⟨lo, hi⟩ := List.mem_range'_1.mp (List.mem_of_mem_filter hk)
    exact u.tank_returnTank_same lo (by omega)
  have folded := read_foldl_update (g := TankSource.returned) (fun _ => rfl) taken State.tank_returnTank_ne s n
  simpa only [State.mem_tanksOf, State.tank_congr kept] using folded

theorem State.meter_returnSources (s : State) (p : ParcelNo) (n : Nat) :
    (s.returnSources p).meter n = if (s.meter n).owner = some p then (s.meter n).returned else s.meter n := by
  have kept : ((s.tanksOf p).foldl State.returnTank s).meters = s.meters :=
    foldl_keeps State.meters State.returnTank_meters _ _
  have taken (u : State) (k : Nat) (hk : k ∈ s.metersOf p) : (u.returnMeter k).meter k = (u.meter k).returned := by
    obtain ⟨lo, hi⟩ := List.mem_range'_1.mp (List.mem_of_mem_filter hk)
    exact u.meter_returnMeter_same lo (by omega)
  have folded := read_foldl_update (g := MeterSource.returned) (fun _ => rfl) taken State.meter_returnMeter_ne
    ((s.tanksOf p).foldl State.returnTank s) n
  simpa only [State.mem_metersOf, State.meter_congr kept, State.returnSources] using folded

/-- A state with its sources set to given ones. -/
def State.withSources (tanks : Vector TankSource 16) (meters : Vector MeterSource 8) (s : State) : State :=
  { s with tanks := tanks, meters := meters }

/-- Giving sources back changes sources alone. -/
theorem State.returnSources_eq (s : State) (p : ParcelNo) :
    s.returnSources p = { s with tanks := (s.returnSources p).tanks, meters := (s.returnSources p).meters } := by
  have tank (ts ms) (u : State) (n : Nat) : (u.returnTank n).withSources ts ms = u.withSources ts ms := by
    simp [State.withSources]
  have meter (ts ms) (u : State) (n : Nat) : (u.returnMeter n).withSources ts ms = u.withSources ts ms := by
    simp [State.withSources]
  calc s.returnSources p
    _ = (s.returnSources p).withSources (s.returnSources p).tanks (s.returnSources p).meters := rfl
    _ = s.withSources (s.returnSources p).tanks (s.returnSources p).meters :=
      (foldl_keeps _ (meter _ _) _ _).trans (foldl_keeps _ (tank _ _) _ _)

/-! ### The return to FREE (R24) -/

theorem State.returnToFree_freed (s : State) (p : ParcelNo) (c : Cause) : Freed p s (s.returnToFree p c) := by
  unfold State.returnToFree
  refine ⟨State.parcel_changeParcel_same .., fun n => ?_, fun n => ?_, ?_, ?_⟩
  · rw [State.tank_changeParcel, State.tank_returnSources]
    rfl
  · rw [State.meter_changeParcel, State.meter_returnSources]
    rfl
  · simpa [LampFollows] using (s.returnSources p).changeParcel_lampFollows p Parcel.cleared c
  · rw [State.changeParcel_tanks, State.changeParcel_meters, ← State.returnSources_eq]
    exact State.changeParcel_onlyParcel ..

theorem State.link_returnToFree (s : State) (p : ParcelNo) (c : Cause) (m : Link) :
    (s.returnToFree p c).link m = (s.link m).placeAll s.clock (stateNotices p (s.parcel p) Parcel.cleared c) := by
  simp [State.returnToFree, State.link_changeParcel]

/-- `Freed` does not see what the links hold before and after. -/
theorem Freed.of_onlyLinks {p : ParcelNo} {s s' t t' : State} (hs : OnlyLinks s s') (ht : OnlyLinks t t')
    (h : Freed p s' t) : Freed p s t' := by
  obtain ⟨record, tanks, meters, lamp, only⟩ := h
  have from_sources : OnlyLinks { s with tanks := t'.tanks, meters := t'.meters }
      { s' with tanks := t.tanks, meters := t.meters } := by
    unfold OnlyLinks at *
    rw [hs, ht]
  have kept := only.of_onlyLinks from_sources ht
  have follows := lamp.of_onlyLinks hs ht
  unfold OnlyLinks at hs ht
  rw [hs] at tanks meters
  rw [ht] at kept follows ⊢
  exact ⟨record, tanks, meters, follows, kept⟩

/-- A request that its owning block answers by the return of the parcel to FREE. -/
theorem serve_freed {r : Req} {body : Body} {l : Link} {tag : Byte} {pl : List Byte} {s : State} {p : ParcelNo}
    {cause : Cause} (takes : s.takes l) (right : mayRequest r l = true)
    (h : body l pl (s.hunt l) = ((s.hunt l).returnToFree p cause).answerParcel p .ok []) :
    Freed p s (serve r body l tag pl s)
      ∧ RepliedFor s (serve r body l tag pl s) l tag p .ok []
        (stateNotices p (s.parcel p) Parcel.cleared cause) := by
  rw [serve_taken takes right, h, State.answerParcel]
  refine ⟨((s.hunt l).returnToFree_freed p cause).of_onlyLinks (s.hunt_onlyLinks l)
    (State.answered_onlyLinks _ _ _ _), repliedFor_of_links fun m => ?_⟩
  simpa using (s.hunt l).link_returnToFree p cause m

/-! ### ABANDON (R21) -/

theorem ParcelState.declarable_iff (x : ParcelState) : x.declarable = true ↔ x = .declared ∨ x = .basisAgreed := by
  cases x <;> decide

theorem exec_abandon (l : Link) (tag : Byte) (pl : List Byte) (s : State) :
    exec (.abandon l tag pl) s = .next (serve .abandon reqAbandon l tag pl s) := rfl

theorem reqAbandon_of_names {pl : List Byte} {p : ParcelNo} {s : State} (l : Link) (h : Names pl 1 p)
    (idle : s.store.verifying = false) :
    reqAbandon l pl s = if (s.parcel p).state.declarable then
      (s.returnToFree p (.request .abandon l)).answerParcel p .ok [] else refuse s .refusedState :=
  withParcel_of_names h idle _

/-- Settles O34: where the declaration may be changed ABANDON is the return to FREE, and elsewhere a refusal. -/
theorem abandonFreesAParcel : Obligations.AbandonFreesAParcel := by
  intro s l tag pl p takes idle named
  have body := reqAbandon_of_names (s := s.hunt l) l named (by simpa using idle)
  simp only [State.parcel_hunt, ParcelState.declarable_iff] at body
  refine ⟨fun state => ⟨_, exec_abandon l tag pl s, ?taken⟩,
    fun notDeclared notAgreed => ⟨_, exec_abandon l tag pl s, ?refused⟩⟩
  case taken =>
    obtain ⟨freed, replied⟩ := serve_freed (r := .abandon) (tag := tag) takes rfl (body.trans (if_pos state))
    have ⟨cleared, _, _, _, _, _, store, _⟩ := freed
    rw [cleared]
    exact ⟨freed, store, rfl, rfl, replied⟩
  case refused =>
    exact turnedAway_of_refuse takes rfl (body.trans (if_neg (not_or.mpr ⟨notDeclared, notAgreed⟩)))

end Sys2Proof.Machine
end

section
/-!
PROOFS. The judgement of a cycle (section 7.2): which sources and items each cause names (R116), the band and the half
band (R115), and the outcome as the first case that applies (R117).
-/

namespace Sys2Proof.Machine

/-! ### The causes (R116) -/

theorem Freshness.isStale_iff (f : Freshness) : f.isStale = true ↔ f = .never ∨ f = .stale := by
  cases f <;> decide

/-- What is named by the members that pass a test. -/
theorem mem_map_filter_iff {α β : Type} {f : α → β} {test : α → Bool} {xs : List α} {y : β} :
    y ∈ (xs.filter test).map f ↔ ∃ x ∈ xs, f x = y ∧ test x = true := by
  simp only [List.mem_map, List.mem_filter, and_assoc, and_comm (a := test _ = true)]

section
variable (c : JobCopy) (b : Basis) (tanks : List TankFigure) (meters : List MeterFigure)

theorem JobCopy.tank_mem_stale (n : Nat) :
    .tank n ∈ (c.causes b tanks meters).stale
      ↔ ∃ t ∈ c.tanks, t.number = n ∧ (t.fresh = .never ∨ t.fresh = .stale) := by
  simp [JobCopy.causes, mem_map_filter_iff, Freshness.isStale_iff]

theorem JobCopy.att_mem_stale :
    .att ∈ (c.causes b tanks meters).stale ↔ c.attFresh = .never ∨ c.attFresh = .stale := by
  simp [JobCopy.causes, mem_map_filter_iff, Freshness.isStale_iff]

theorem JobCopy.meter_mem_stale (n : Nat) :
    .meter n ∈ (c.causes b tanks meters).stale
      ↔ ∃ m ∈ c.meters, m.number = n ∧ (m.fresh = .never ∨ m.fresh = .stale) := by
  simp [JobCopy.causes, mem_map_filter_iff, Freshness.isStale_iff]

theorem JobCopy.tank_mem_suspect (n : Nat) :
    .tank n ∈ (c.causes b tanks meters).suspect ↔ ∃ t ∈ c.tanks, t.number = n ∧ t.suspect = true := by
  simp [JobCopy.causes, mem_map_filter_iff]

theorem JobCopy.att_not_mem_suspect : .att ∉ (c.causes b tanks meters).suspect := by
  simp [JobCopy.causes]

theorem JobCopy.meter_mem_suspect (n : Nat) :
    .meter n ∈ (c.causes b tanks meters).suspect ↔ ∃ m ∈ c.meters, m.number = n ∧ m.suspect = true := by
  simp [JobCopy.causes, mem_map_filter_iff]

theorem JobCopy.mem_unbracketed (n : Nat) :
    n ∈ (c.causes b tanks meters).unbracketed ↔ ∃ f ∈ meters, f.meter = n ∧ f.flags.unbracketed = true :=
  mem_map_filter_iff

theorem JobCopy.mem_clamped (n : Nat) :
    n ∈ (c.causes b tanks meters).clamped ↔ ∃ f ∈ tanks, f.tank = n ∧ f.flags.clamped = true :=
  mem_map_filter_iff

theorem JobCopy.mem_table (n : Nat) :
    n ∈ (c.causes b tanks meters).table ↔ (∃ t ∈ c.tanks, t.number = n ∧ t.tableValid = false)
      ∨ (b.method = .tab ∧ c.expansionValid = false ∧ n = 24 + b.tableId.getD 0) := by
  simp [JobCopy.causes, mem_map_filter_iff, and_assoc]

end

theorem Causes.any_eq_false_iff (x : Causes) : x.any = false ↔ x = ⟨[], [], [], [], []⟩ := by
  obtain ⟨stale, suspect, unbracketed, clamped, table⟩ := x
  simp [Causes.any, and_assoc]

/-! ### The band (R115) -/

theorem cycleBand_grade1 (x : Params) (q : Int) :
    cycleBand 1 x q = some (max (x.floor : Int) (roundDiv (q * x.tolerance) 1000000)) := rfl

/-- At grade 2 the tolerance is doubled. -/
theorem cycleBand_grade2 (x : Params) (q : Int) :
    cycleBand 2 x q = some (max (x.floor : Int) (roundDiv (q * (2 * x.tolerance)) 1000000)) := by
  simp [cycleBand, bandOf]

theorem cycleBand_grade3 (x : Params) (q : Int) : cycleBand 3 x q = none := rfl

theorem halfBand_of_nonneg {b : Int} (h : 0 ≤ b) : halfBand b = (b + 1) / 2 := by
  rw [halfBand, roundDiv, if_pos h]
  omega

/-- A magnitude is at most the half band where its double passes the band by at most 1. -/
theorem le_halfBand_iff {b : Int} (h : 0 ≤ b) (m : Int) : m ≤ halfBand b ↔ 2 * m ≤ b + 1 := by
  rw [halfBand_of_nonneg h]
  omega

/-! ### The outcome (R117) -/

section
variable {x : Params} {b q delta : Int}

theorem outcomeOf_grade3 (cause : Bool) : outcomeOf x none q delta cause = .notJudgedGrade3 := rfl

theorem outcomeOf_below (cause : Bool) (h : q < minimumQ x) :
    outcomeOf x (some b) q delta cause = .notJudgedBelowMinimum := if_pos h

theorem outcomeOf_cause (h : minimumQ x ≤ q) : outcomeOf x (some b) q delta true = .indeterminate :=
  if_neg (not_lt.mpr h)

/-- A cycle of a sufficient Q that no cause holds back is judged by its Δ. -/
theorem outcomeOf_judged (h : minimumQ x ≤ q) :
    outcomeOf x (some b) q delta false = if (delta.natAbs : Int) ≤ b
      then .within (decide ((delta.natAbs : Int) ≤ halfBand b)) else .divergent :=
  if_neg (not_lt.mpr h)

theorem outcomeOf_within (h : minimumQ x ≤ q) (lo : -b ≤ delta) (hi : delta ≤ b) :
    outcomeOf x (some b) q delta false = .within (decide ((delta.natAbs : Int) ≤ halfBand b)) := by
  rw [outcomeOf_judged h, if_pos (by omega)]

theorem outcomeOf_divergent (h : minimumQ x ≤ q) (beyond : delta < -b ∨ b < delta) :
    outcomeOf x (some b) q delta false = .divergent := by
  rw [outcomeOf_judged h, if_neg (by omega)]

end

/-- Settles O60: each cause by its own lists, the band by grade, and the outcome by the order of R117. -/
theorem outcomesFollowBandAndCauses : Obligations.OutcomesFollowBandAndCauses := by
  refine ⟨fun c b tanks meters => ?causes, fun x q _ => ?band, fun x b q delta cause nonneg => ?outcome⟩
  case causes =>
    exact ⟨c.tank_mem_stale b tanks meters, c.att_mem_stale b tanks meters, c.meter_mem_stale b tanks meters,
      c.tank_mem_suspect b tanks meters, c.att_not_mem_suspect b tanks meters, c.meter_mem_suspect b tanks meters,
      c.mem_unbracketed b tanks meters, c.mem_clamped b tanks meters, c.mem_table b tanks meters,
      Causes.any_eq_false_iff _⟩
  case band =>
    exact ⟨cycleBand_grade1 x q, cycleBand_grade2 x q, cycleBand_grade3 x q,
      congrArg (Option.map halfBand) (cycleBand_grade3 x q), fun _ => halfBand_of_nonneg⟩
  case outcome =>
    refine ⟨outcomeOf_grade3 cause, outcomeOf_below cause, outcomeOf_cause,
      fun least lo hi => ⟨fun clean => ?_, fun unclean => ?_⟩, outcomeOf_divergent⟩
    · rw [outcomeOf_within least lo hi, decide_eq_true ((le_halfBand_iff nonneg _).mpr clean)]
    · rw [outcomeOf_within least lo hi, decide_eq_false (mt (le_halfBand_iff nonneg _).mp (not_le.mpr unclean))]

end Sys2Proof.Machine
end

section
/-!
PROOFS. What every command keeps: the lists, rings, write queue and revisions within their limits (R149, R156, R182, R190),
the laws of the records, the alarm output and the lamps (R1, R27, R129, R209, R211), and the clock. Each shared operation is
shown once to keep all of them; a command is a chain of such operations.
-/

namespace Sys2Proof.Machine

/-! ### The laws of one record -/

/-- The laws of one record: a FREE one is cleared (R1), and ALARM is held in transfer alone (R129). -/
def Parcel.lawOk (r : Parcel) : Prop :=
  (r.state = .free → r = Parcel.cleared) ∧ (r.recon.alarm = true → r.inTransfer = true)

/-- Finalize pending stands only in CLOSED and DISPUTED (R154). -/
def Parcel.pendingOk (r : Parcel) : Prop :=
  r.finalizePending = true → r.state = .closed ∨ r.state = .disputed

/-- The revision of one record is within R149. -/
def Parcel.revisionOk (r : Parcel) : Prop :=
  ∀ n, r.revision = some n →
    n ≤ 3 ∧ (n = 3 → r.state = .awaitingAccept ∨ r.state = .closed ∨ r.state = .disputed)

/-- A record may take the place of another without a word about the queue or the alarm output: it meets the laws that the
other met, and holds ALARM and finalize pending as the other did. `starting` says that start-up verification runs. -/
structure Parcel.Follows (starting : Bool) (old new : Parcel) : Prop where
  law : old.lawOk → new.lawOk
  free : old.lawOk → starting = true → old.state = .free → new.state = .free
  alarm : old.lawOk → new.recon.alarm = old.recon.alarm
  pending : old.lawOk → old.pendingOk → new.pendingOk ∧ new.finalizePending = old.finalizePending
  revision : old.revisionOk → new.revisionOk

theorem Parcel.inTransfer_iff (r : Parcel) : r.inTransfer = true ↔ r.state = .transferring ∨ r.state = .suspended := by
  unfold Parcel.inTransfer
  split <;> simp_all

theorem Parcel.lawOk_cleared : Parcel.cleared.lawOk := ⟨fun _ => rfl, fun h => absurd h (by decide)⟩

/-- A record in its state, with its alarm, its revision and its finalize as they were. -/
theorem Parcel.Follows.of_same {starting : Bool} {old new : Parcel} (notFree : old.lawOk → old.state ≠ .free)
    (state : new.state = old.state) (alarm : new.recon.alarm = old.recon.alarm)
    (pending : new.finalizePending = old.finalizePending) (revision : new.revision = old.revision) :
    Parcel.Follows starting old new where
  law h := ⟨fun f => absurd (state.symm.trans f) (notFree h), fun a => by
    have := h.2 (alarm.symm.trans a)
    rw [Parcel.inTransfer_iff] at *
    rwa [state]⟩
  free h _ f := absurd f (notFree h)
  alarm _ := alarm
  pending _ h := ⟨fun x => by rw [state]; exact h (pending.symm.trans x), pending⟩
  revision h n x := by rw [state]; exact h n (revision.symm.trans x)

/-- A record that moves on before or between transfers: no ALARM, no finalize, and no third revision stands there. -/
theorem Parcel.Follows.of_moving {starting : Bool} {old new : Parcel}
    (from_ : old.state = .declared ∨ old.state = .basisAgreed ∨ old.state = .opening ∨ old.state = .closing)
    (to_ : new.state ≠ .free) (alarm : new.recon.alarm = old.recon.alarm)
    (pending : new.finalizePending = old.finalizePending) (revision : new.revision = old.revision) :
    Parcel.Follows starting old new where
  law h := ⟨fun f => absurd f to_, fun a => by
    have := h.2 (alarm.symm.trans a)
    rw [Parcel.inTransfer_iff] at this
    rcases from_ with e | e | e | e <;> simp [e] at this⟩
  free _ _ f := by rcases from_ with e | e | e | e <;> simp [e] at f
  alarm _ := alarm
  pending _ h := ⟨fun x => by
    have := h (pending.symm.trans x)
    rcases from_ with e | e | e | e <;> simp [e] at this, pending⟩
  revision h n x := by
    obtain ⟨most, last⟩ := h n (revision.symm.trans x)
    refine ⟨most, fun e => ?_⟩
    have := last e
    rcases from_ with e | e | e | e <;> simp [e] at this

/-- A record that moves within the transfer. -/
theorem Parcel.Follows.of_transfer {starting : Bool} {old new : Parcel} (from_ : old.inTransfer = true)
    (to_ : new.inTransfer = true) (alarm : new.recon.alarm = old.recon.alarm)
    (pending : new.finalizePending = old.finalizePending) (revision : new.revision = old.revision) :
    Parcel.Follows starting old new := by
  rw [Parcel.inTransfer_iff] at from_
  have notFree : new.state ≠ .free := fun e => by simp [Parcel.inTransfer_iff, e] at to_
  exact {
    law := fun h => ⟨fun f => absurd f notFree, fun _ => to_⟩
    free := fun _ _ f => by rcases from_ with e | e <;> simp [e] at f
    alarm := fun _ => alarm
    pending := fun _ h => ⟨fun x => by
      have := h (pending.symm.trans x)
      rcases from_ with e | e <;> simp [e] at this, pending⟩
    revision := fun h n x => by
      obtain ⟨most, last⟩ := h n (revision.symm.trans x)
      refine ⟨most, fun e => ?_⟩
      have := last e
      rcases from_ with e | e <;> simp [e] at this }

/-! ### The relation every command keeps -/

/-- The time and the commands that wait are as they were. -/
structure SameTime (s t : State) : Prop where
  clock : t.clock = s.clock
  msec : t.msec = s.msec
  pending : t.pending = s.pending

/-- The limits and laws of the part, but for the rings, hold of `t` where they hold of `s`. -/
structure Upholds (s t : State) : Prop where
  bounded : s.bounded → t.bounded
  laws : s.lawful → t.lawful
  queue : s.lawful → s.queueFits → t.queueFits
  revision : s.revisionFits → t.revisionFits

/-- What the shared operations keep: the time, the limits and laws, and the room for a response on every link. -/
structure Keeps (s t : State) : Prop extends SameTime s t, Upholds s t where
  rings : s.ringsFit → t.ringsFit
  responses : ∀ l, (t.link l).responses.length ≤ (s.link l).responses.length

theorem SameTime.refl (s : State) : SameTime s s := ⟨rfl, rfl, rfl⟩

theorem SameTime.trans {s t u : State} (h : SameTime s t) (g : SameTime t u) : SameTime s u :=
  ⟨g.clock.trans h.clock, g.msec.trans h.msec, g.pending.trans h.pending⟩

theorem Upholds.refl (s : State) : Upholds s s := ⟨id, id, fun _ => id, id⟩

theorem Upholds.trans {s t u : State} (h : Upholds s t) (g : Upholds t u) : Upholds s u :=
  ⟨g.bounded ∘ h.bounded, g.laws ∘ h.laws, fun l q => g.queue (h.laws l) (h.queue l q), g.revision ∘ h.revision⟩

theorem Keeps.refl (s : State) : Keeps s s := ⟨SameTime.refl s, Upholds.refl s, id, fun _ => Nat.le_refl _⟩

theorem Keeps.trans {s t u : State} (h : Keeps s t) (g : Keeps t u) : Keeps s u :=
  ⟨h.toSameTime.trans g.toSameTime, h.toUpholds.trans g.toUpholds, g.rings ∘ h.rings,
    fun l => (g.responses l).trans (h.responses l)⟩

/-! ### The laws by record -/

theorem State.bounded_iff (s : State) : s.bounded ↔ (∀ l, (s.link l).bounded) ∧ s.store.records.length ≤ 8 := by
  refine ⟨fun h => ⟨fun l => ?_, h.2.2.2⟩, fun h => ⟨h.1 .ship, h.1 .shore, h.1 .survey, h.2⟩⟩
  cases l with
  | ship => exact h.1
  | shore => exact h.2.1
  | survey => exact h.2.2.1

theorem State.lawful_iff (s : State) :
    s.lawful ↔ (∀ p, (s.parcel p).lawOk) ∧ s.startupFree ∧ s.alarmLaw ∧ s.lampLaw := by
  constructor
  · rintro ⟨cleared, free, alarm, output, lamps⟩
    exact ⟨fun p => ⟨cleared p, alarm p⟩, free, output, lamps⟩
  · rintro ⟨laws, free, output, lamps⟩
    exact ⟨fun p => (laws p).1, free, fun p => (laws p).2, output, lamps⟩

theorem State.anyAlarm_iff (s : State) : s.anyAlarm = true ↔ ∃ p, (s.parcel p).recon.alarm = true := by
  simp only [State.anyAlarm, allParcels, List.any_eq_true]
  refine ⟨fun ⟨p, _, h⟩ => ⟨p, h⟩, fun ⟨p, h⟩ => ⟨p, ?_, h⟩⟩
  fin_cases p <;> simp

theorem State.anyAlarm_congr {s t : State} (h : ∀ p, (t.parcel p).recon.alarm = (s.parcel p).recon.alarm) :
    t.anyAlarm = s.anyAlarm := by
  simp [State.anyAlarm, h]

/-- What a parcel record's change leaves alone: all that the limits and laws speak of but the records, the write queue, the
lamps and the alarm output. -/
structure SameButQueue (s t : State) : Prop extends SameTime s t where
  tanks : t.tanks = s.tanks
  meters : t.meters = s.meters
  att : t.att.ring = s.att.ring
  starting : t.store.startingUp = s.store.startingUp
  records : t.store.records.length ≤ s.store.records.length
  responses : ∀ l, (t.link l).responses.length ≤ (s.link l).responses.length
  notices : ∀ l, (s.link l).notices.length ≤ 16 → (t.link l).notices.length ≤ 16

/-- As `SameButQueue`, with the write queue and the entry of the write unit as they were. -/
structure SameRest (s t : State) : Prop extends SameButQueue s t where
  queue : t.store.queue = s.store.queue
  writer : t.store.writer.toList.map (·.entry) = s.store.writer.toList.map (·.entry)

theorem SameButQueue.bounded {s t : State} (h : SameButQueue s t) (b : s.bounded) : t.bounded := by
  rw [State.bounded_iff] at *
  exact ⟨fun l => ⟨(h.responses l).trans (b.1 l).1, h.notices l (b.1 l).2⟩, h.records.trans b.2⟩

theorem State.depthSum_congr {s t : State} (tanks : t.tanks = s.tanks) (meters : t.meters = s.meters) :
    t.depthSum = s.depthSum := by
  simp [State.depthSum, State.tank_congr tanks, State.meter_congr meters]

theorem SameButQueue.rings {s t : State} (h : SameButQueue s t) (r : s.ringsFit) : t.ringsFit := by
  simpa [State.ringsFit, State.depthSum_congr h.tanks h.meters, State.tank_congr h.tanks,
    State.meter_congr h.meters, h.att] using r

/-- A record replaced by one that follows it, the lamp of its parcel with it and the alarm output as it was. -/
theorem SameRest.keeps {s t : State} (h : SameRest s t)
    (parcels : ∀ q, Parcel.Follows s.store.startingUp (s.parcel q) (t.parcel q))
    (lamps : ∀ q, (s.lines.lamp q).pattern = (s.parcel q).pattern → (t.lines.lamp q).pattern = (t.parcel q).pattern)
    (alarm : AlarmKept s t) : Keeps s t where
  toSameTime := h.toSameTime
  bounded := h.bounded
  rings := h.rings
  responses := h.responses
  laws l := by
    rw [State.lawful_iff] at *
    obtain ⟨laws, free, output, lit⟩ := l
    refine ⟨fun q => (parcels q).law (laws q), fun up q => ?_, ?_, fun q => lamps q (lit q)⟩
    · rw [h.starting] at up
      exact (parcels q).free (laws q) up (free up q)
    · unfold State.alarmLaw at *
      rw [alarm.1, alarm.2, output, State.anyAlarm_congr fun q => (parcels q).alarm (laws q)]
  queue l x := by
    rw [State.lawful_iff] at l
    unfold State.queueFits Store.commitCount at *
    rw [h.queue]
    refine ⟨x.1, fun q => ?_⟩
    obtain ⟨checkpoints, finalizes, pending⟩ := x.2 q
    obtain ⟨ok, same⟩ := (parcels q).pending (l.1 q) pending
    refine ⟨checkpoints, ?_, ok⟩
    rw [h.writer, same]
    exact finalizes
  revision x q := (parcels q).revision (x q)

theorem Parcel.Follows.refl (starting : Bool) (r : Parcel) : Parcel.Follows starting r r :=
  ⟨id, fun _ _ => id, fun _ => rfl, fun _ h => ⟨h, rfl⟩, id⟩

/-- Nothing that the limits and laws speak of differs. -/
theorem SameRest.keeps_aside {s t : State} (h : SameRest s t) (parcels : t.parcels = s.parcels)
    (lamps : ∀ q, (t.lines.lamp q).pattern = (s.lines.lamp q).pattern) (alarm : AlarmKept s t) : Keeps s t :=
  h.keeps (fun q => State.parcel_congr parcels q ▸ Parcel.Follows.refl _ _)
    (fun q e => by rw [lamps, State.parcel_congr parcels, e]) alarm

end Sys2Proof.Machine
end

section
/-!
PROOFS. The shared operations of Machine/Posting.lean and Machine/Events.lean keep the limits and laws of the part.
-/

namespace Sys2Proof.Machine

/-! ### Links -/

theorem dropCycleResult_length {ns : List Notice} (h : ns.any (fun m => m.body.isCycleResult) = true) :
    (dropCycleResult ns).length + 1 = ns.length := by
  induction ns with
  | nil => simp at h
  | cons n rest ih =>
    by_cases c : n.body.isCycleResult = true
    · simp [dropCycleResult, c]
    · simp only [List.any_cons, c, Bool.false_or] at h
      simp [dropCycleResult, c, ih h]

@[simp] theorem LinkState.place_responses (k : LinkState) (n : Notice) : (k.place n).responses = k.responses := by
  unfold LinkState.place
  split
  · rfl
  · split
    · rfl
    · split <;> rfl

/-- A notice never brings a queue above 16 (R202). -/
theorem LinkState.place_notices (k : LinkState) (n : Notice) (h : k.notices.length ≤ 16) :
    (k.place n).notices.length ≤ 16 := by
  unfold LinkState.place
  split
  · exact h
  · split
    next short => simpa using short
    next full =>
      split
      next some_ =>
        have := dropCycleResult_length some_
        simp only [List.length_append, List.length_singleton]
        omega
      · exact h

@[simp] theorem LinkState.transmit_responses (k : LinkState) : k.transmit.responses = k.responses := by
  unfold LinkState.transmit
  split
  · split
    · rfl
    · split <;> rfl
  · rfl

theorem LinkState.transmit_notices (k : LinkState) : k.transmit.notices.length ≤ k.notices.length := by
  unfold LinkState.transmit
  split
  · split
    · exact Nat.le_refl _
    · split
      next e => simp [e]
      · exact Nat.le_refl _
  · exact Nat.le_refl _

/-- A change of links alone that adds no response and keeps the notice queues within 16. -/
theorem OnlyLinks.keeps {s t : State} (h : OnlyLinks s t)
    (responses : ∀ l, (t.link l).responses.length ≤ (s.link l).responses.length)
    (notices : ∀ l, (s.link l).notices.length ≤ 16 → (t.link l).notices.length ≤ 16) : Keeps s t := by
  have rest : SameRest s t :=
    { responses := responses, notices := notices
      clock := by rw [h], msec := by rw [h], pending := by rw [h], tanks := by rw [h], meters := by rw [h]
      att := by rw [h], starting := by rw [h], records := by rw [h], queue := by rw [h], writer := by rw [h] }
  exact rest.keeps_aside (by rw [h]) (fun q => by rw [h]) ⟨by rw [h], by rw [h]⟩

theorem State.setLink_keeps (s : State) (l : Link) {k : LinkState}
    (responses : k.responses.length ≤ (s.link l).responses.length)
    (notices : (s.link l).notices.length ≤ 16 → k.notices.length ≤ 16) : Keeps s (s.setLink l k) := by
  refine (s.setLink_onlyLinks l k).keeps (fun m => ?_) fun m => ?_ <;> rw [State.link_setLink] <;> split
  next e => exact e ▸ responses
  · exact Nat.le_refl _
  next e => exact e ▸ notices
  · exact id

theorem State.hunt_keeps (s : State) (l : Link) : Keeps s (s.hunt l) :=
  s.setLink_keeps l (Nat.le_refl _) id

theorem State.postTo_keeps (s : State) (l : Link) (b : NoticeBody) : Keeps s (s.postTo l b) :=
  s.setLink_keeps l (by simp) ((s.link l).place_notices _)

theorem State.postAll_keeps (s : State) (b : NoticeBody) : Keeps s (s.postAll b) :=
  ((s.postTo_keeps .ship b).trans (State.postTo_keeps _ .shore b)).trans (State.postTo_keeps _ .survey b)

theorem State.transmitAll_keeps (s : State) : Keeps s s.transmitAll :=
  OnlyLinks.keeps rfl (fun l => by simp) fun l h => by
    rw [State.link_transmitAll]
    exact (s.link l).transmit_notices.trans h

/-! ### Lines, store and engine beside the laws -/

/-- A change of the lines that leaves the lamps' patterns and the alarm output as they were. -/
theorem State.setLines_keeps (s : State) {x : Lines} (lamps : ∀ q, (x.lamp q).pattern = (s.lines.lamp q).pattern)
    (silence : x.silence = s.lines.silence) (alarmOut : x.alarmOut = s.lines.alarmOut) : Keeps s (s.setLines x) :=
  SameRest.keeps_aside ⟨⟨⟨rfl, rfl, rfl⟩, rfl, rfl, rfl, rfl, Nat.le_refl _,
    fun l => by rw [State.link_setLines], fun l h => by rwa [State.link_setLines]⟩, rfl, rfl⟩ rfl lamps ⟨silence, alarmOut⟩

theorem State.setEngine_keeps (s : State) (e : Engine) : Keeps s (s.setEngine e) :=
  SameRest.keeps_aside ⟨⟨⟨rfl, rfl, rfl⟩, rfl, rfl, rfl, rfl, Nat.le_refl _,
    fun l => by rw [State.link_setEngine], fun l h => by rwa [State.link_setEngine]⟩, rfl, rfl⟩ rfl (fun _ => rfl) ⟨rfl, rfl⟩

theorem State.setRestoreLost_keeps (s : State) (p : ParcelNo) (b : Bool) : Keeps s (s.setRestoreLost p b) :=
  SameRest.keeps_aside ⟨⟨⟨rfl, rfl, rfl⟩, rfl, rfl, rfl, rfl, Nat.le_refl _,
    fun l => by rw [State.link_setRestoreLost], fun l h => by rwa [State.link_setRestoreLost]⟩, rfl, rfl⟩ rfl (fun _ => rfl)
    ⟨rfl, rfl⟩

theorem State.setVef_keeps (s : State) (d : Direction) (v : Option VefState) : Keeps s (s.setVef d v) := by
  cases d <;> exact SameRest.keeps_aside ⟨⟨⟨rfl, rfl, rfl⟩, rfl, rfl, rfl, rfl, Nat.le_refl _,
    fun l => by rw [State.link_setVef], fun l h => by rwa [State.link_setVef]⟩, rfl, rfl⟩ rfl (fun _ => rfl) ⟨rfl, rfl⟩

/-- The write queue with the entry the write unit is at, and the bound on finalizes they are held to (R154, R182). -/
theorem State.setStore_keeps (s : State) {st : Store} (starting : st.startingUp = true → s.store.startingUp = true)
    (records : s.store.records.length ≤ 8 → st.records.length ≤ 8)
    (queue : s.lawful → s.queueFits → (s.setStore st).queueFits) : Keeps s (s.setStore st) where
  clock := rfl
  msec := rfl
  pending := rfl
  bounded h := ⟨h.1, h.2.1, h.2.2.1, records h.2.2.2⟩
  laws h := ⟨h.1, fun up => h.2.1 (starting up), h.2.2⟩
  queue := queue
  revision := id
  rings := id
  responses l := by rw [State.link_setStore]

/-- A change of the store that leaves its queue and its writer's entry. -/
theorem State.setStore_keeps_of_queue (s : State) {st : Store}
    (starting : st.startingUp = true → s.store.startingUp = true)
    (records : s.store.records.length ≤ 8 → st.records.length ≤ 8)
    (queue : st.queue = s.store.queue)
    (writer : st.writer.toList.map (·.entry) = s.store.writer.toList.map (·.entry)) : Keeps s (s.setStore st) := by
  refine s.setStore_keeps starting records fun _ h => ?_
  unfold State.queueFits Store.commitCount at *
  simpa [queue, writer] using h

/-! ### Parcel records -/

/-- A record replaced by one that follows it and calls for the same pattern. -/
theorem State.setParcel_keeps (s : State) (p : ParcelNo) {r : Parcel}
    (follows : Parcel.Follows s.store.startingUp (s.parcel p) r) (pattern : r.pattern = (s.parcel p).pattern) :
    Keeps s (s.setParcel p r) := by
  have rest : SameRest s (s.setParcel p r) := ⟨⟨⟨rfl, rfl, rfl⟩, rfl, rfl, rfl, rfl, Nat.le_refl _,
    fun l => by rw [State.link_setParcel], fun l h => by rwa [State.link_setParcel]⟩, rfl, rfl⟩
  refine rest.keeps (fun q => ?_) (fun q lit => ?_) ⟨rfl, rfl⟩ <;> rw [State.parcel_setParcel] <;> split
  next e => exact e ▸ follows
  · exact Parcel.Follows.refl _ _
  next e => exact lit.trans (e ▸ pattern.symm)
  · exact lit

theorem LinkState.placeAll_responses (k : LinkState) (now : Instant) (bs : List NoticeBody) :
    (k.placeAll now bs).responses = k.responses := by
  induction bs generalizing k with
  | nil => rfl
  | cons b rest ih => simp [ih]

theorem LinkState.placeAll_notices (k : LinkState) (now : Instant) (bs : List NoticeBody)
    (h : k.notices.length ≤ 16) : (k.placeAll now bs).notices.length ≤ 16 := by
  induction bs generalizing k with
  | nil => exact h
  | cons b rest ih => exact ih _ (k.place_notices _ h)

/-- What `changeParcel` leaves alone. -/
theorem State.changeParcel_sameRest (s : State) (p : ParcelNo) (r : Parcel) (c : Cause) :
    SameRest s (s.changeParcel p r c) where
  clock := by simp
  msec := by simp
  pending := by simp
  tanks := by simp
  meters := by simp
  att := by simp
  starting := by simp
  records := by simp
  queue := by simp
  writer := by simp
  responses l := by rw [State.link_changeParcel, LinkState.placeAll_responses]
  notices l h := by
    rw [State.link_changeParcel]
    exact LinkState.placeAll_notices _ _ _ h

theorem State.parcel_changeParcel (s : State) (p q : ParcelNo) (r : Parcel) (c : Cause) :
    (s.changeParcel p r c).parcel q = if q = p then r else s.parcel q := by
  split
  next e => rw [e, State.parcel_changeParcel_same]
  next e => rw [s.parcel_changeParcel_ne e]

/-- After a change the changed parcel's lamp shows its pattern, and the others show what they showed. -/
theorem State.changeParcel_lit (s : State) (p : ParcelNo) (r : Parcel) (c : Cause) (q : ParcelNo)
    (lit : (s.lines.lamp q).pattern = (s.parcel q).pattern) :
    ((s.changeParcel p r c).lines.lamp q).pattern = ((s.changeParcel p r c).parcel q).pattern := by
  by_cases e : q = p
  · subst e
    rw [State.changeParcel_lamp_same, State.parcel_changeParcel_same]
    split
    · assumption
    · rfl
  · rw [s.changeParcel_lamp_ne e, s.parcel_changeParcel_ne e, lit]

theorem State.changeParcel_alarmKept (s : State) (p : ParcelNo) (r : Parcel) (c : Cause) :
    AlarmKept s (s.changeParcel p r c) := (s.changeParcel_onlyParcel p r c).2.2.2

/-- A change of a record to one that follows it. -/
theorem State.changeParcel_keeps (s : State) (p : ParcelNo) {r : Parcel} (c : Cause)
    (follows : Parcel.Follows s.store.startingUp (s.parcel p) r) : Keeps s (s.changeParcel p r c) := by
  refine (s.changeParcel_sameRest p r c).keeps (fun q => ?_) (s.changeParcel_lit p r c) (s.changeParcel_alarmKept p r c)
  rw [State.parcel_changeParcel]
  split
  next e => exact e ▸ follows
  · exact Parcel.Follows.refl _ _

/-! ### Checkpoints and jobs -/

theorem countP_map_same {α : Type} {p : α → Bool} {f : α → α} (h : ∀ x, p (f x) = p x) (xs : List α) :
    (xs.map f).countP p = xs.countP p := by
  rw [List.countP_map]
  exact List.countP_congr fun x _ => by simp [h]

/-- Whether a queue entry is a link commit. -/
def QueueEntry.isCommit : QueueEntry → Bool
  | .commit .. => true
  | .checkpoint .. | .finalize .. => false

theorem Store.commitCount_eq (st : Store) : st.commitCount = st.queue.countP QueueEntry.isCommit := by
  rw [Store.commitCount, List.countP_eq_length_filter]
  congr 2
  funext e
  cases e <;> rfl

/-- A checkpoint request keeps each parcel to one checkpoint entry (R25) and leaves the other entries. -/
theorem State.requestCheckpoint_keeps (s : State) (p : ParcelNo) : Keeps s (s.requestCheckpoint p) := by
  unfold State.requestCheckpoint
  set copy := s.checkpointCopy p
  split
  case isTrue waits =>
    refine s.setStore_keeps id id fun _ h => ?_
    unfold State.queueFits at *
    simp only [Store.commitCount_eq, State.setStore_store, State.parcel_setStore] at *
    have replaced (e : QueueEntry) (isEntry : e.isCheckpointOf p = true) : ∃ old, e = .checkpoint p old := by
      cases e with
      | checkpoint q old => exact ⟨old, by simpa [QueueEntry.isCheckpointOf] using isEntry⟩
      | commit => simp [QueueEntry.isCheckpointOf] at isEntry
      | finalize => simp [QueueEntry.isCheckpointOf] at isEntry
    rw [countP_map_same fun e => ?commits]
    refine ⟨h.1, fun q => ?_⟩
    rw [countP_map_same fun e => ?checkpoints, countP_map_same fun e => ?finalizes]
    · exact h.2 q
    all_goals
      split
      next isEntry => obtain ⟨old, rfl⟩ := replaced e isEntry; rfl
      · rfl
  case isFalse none_ =>
    refine s.setStore_keeps id id fun _ h => ?_
    unfold State.queueFits at *
    simp only [Store.commitCount_eq, State.setStore_store, State.parcel_setStore, Store.enqueue_queue,
      Store.enqueue_writer, List.countP_append, List.countP_singleton] at *
    refine ⟨by simpa [QueueEntry.isCommit] using h.1, fun q => ?_⟩
    refine ⟨?_, by simpa [QueueEntry.isFinalizeOf] using h.2 q |>.2⟩
    by_cases e : p = q
    · subst e
      have zero : s.store.queue.countP (QueueEntry.isCheckpointOf p) = 0 := by
        simpa [List.countP_eq_zero] using none_
      simp [zero, QueueEntry.isCheckpointOf]
    · simpa [QueueEntry.isCheckpointOf, e] using (h.2 q).1

theorem State.placeJob_keeps (s : State) (k : JobKind) (p : ParcelNo) : Keeps s (s.placeJob k p) := by
  unfold State.placeJob
  split
  · exact Keeps.refl s
  · exact s.setEngine_keeps _

theorem State.voidCycle_keeps (s : State) (p : ParcelNo) : Keeps s (s.voidCycle p) := s.setEngine_keeps _

theorem State.cancelJobs_keeps (s : State) (p : ParcelNo) : Keeps s (s.cancelJobs p) := s.setEngine_keeps _

theorem State.engineIdle_keeps (s : State) : Keeps s s.engineIdle := s.setEngine_keeps _

/-! ### Suspending and resuming (R11 to R14) -/

theorem State.suspendWith_keeps (s : State) (p : ParcelNo) (x : SuspendSet) (c : Cause)
    (inTransfer : (s.parcel p).inTransfer = true) : Keeps s (s.suspendWith p x c) := by
  simp only [State.suspendWith]
  split
  · refine ((s.changeParcel_keeps p c ?_).trans (State.voidCycle_keeps _ p)).trans (State.requestCheckpoint_keeps _ p)
    exact .of_transfer inTransfer rfl rfl rfl rfl
  · exact s.changeParcel_keeps p c (.of_transfer inTransfer inTransfer rfl rfl rfl)

/-- A record of which nothing that the laws speak of differs, FREE ones apart. -/
theorem State.resumeWith_keeps (s : State) (p : ParcelNo) (x : SuspendSet) (rr : PartySet) (c : Cause)
    (notFree : (s.parcel p).lawOk → (s.parcel p).state ≠ .free) : Keeps s (s.resumeWith p x rr c) := by
  simp only [State.resumeWith]
  split
  next h =>
    refine s.changeParcel_keeps p c (.of_transfer ?_ rfl rfl rfl rfl)
    exact (Parcel.inTransfer_iff _).mpr (.inr h.1)
  · exact s.changeParcel_keeps p c (.of_same notFree rfl rfl rfl rfl)

end Sys2Proof.Machine
end

section
/-!
PROOFS. The operations that move the alarm output with a record, those that end a parcel's life, and those on the sources
keep the limits and laws of the part.
-/

namespace Sys2Proof.Machine

/-! ### The alarm output with a record (R129, R209) -/

/-- A change of one record with the alarm output after it: the laws of the record, of the output and of the queue are what
is left to show. -/
theorem SameButQueue.keeps_record {s t : State} {p : ParcelNo} {r : Parcel} (h : SameButQueue s t)
    (parcel : ∀ q, t.parcel q = if q = p then r else s.parcel q)
    (lamps : ∀ q, (s.lines.lamp q).pattern = (s.parcel q).pattern → (t.lines.lamp q).pattern = (t.parcel q).pattern)
    (free_ : s.store.startingUp = true → (s.parcel p).state = .free → r.state = .free)
    (law : (s.parcel p).lawOk → r.lawOk)
    (revision : (s.parcel p).revisionOk → r.revisionOk)
    (alarm : s.lawful → t.alarmLaw) (queue : s.lawful → s.queueFits → t.queueFits) : Keeps s t where
  toSameTime := h.toSameTime
  bounded := h.bounded
  rings := h.rings
  responses := h.responses
  queue := queue
  laws l := by
    have output := alarm l
    rw [State.lawful_iff] at *
    obtain ⟨laws, free, _, lit⟩ := l
    refine ⟨fun q => ?_, fun up q => ?_, output, fun q => lamps q (lit q)⟩
    · rw [parcel]
      split
      next e => exact law (e ▸ laws q)
      · exact laws q
    · rw [h.starting] at up
      rw [parcel]
      split
      · exact free_ up (free up p)
      · exact free up q
  revision x q := by
    rw [parcel]
    split
    next e => exact revision (x p)
    · exact x q

/-- The write queue is held to the limits of R182 where no record but that of `p` differs. -/
theorem SameRest.queueFits_record {s t : State} {p : ParcelNo} {r : Parcel} (h : SameRest s t)
    (parcel : ∀ q, t.parcel q = if q = p then r else s.parcel q)
    (pending : (s.parcel p).pendingOk → r.pendingOk ∧ r.finalizePending = (s.parcel p).finalizePending)
    (x : s.queueFits) : t.queueFits := by
  unfold State.queueFits Store.commitCount at *
  rw [h.queue, h.writer]
  refine ⟨x.1, fun q => ?_⟩
  obtain ⟨checkpoints, finalizes, ended⟩ := x.2 q
  rw [parcel]
  split
  next e =>
    subst e
    obtain ⟨ok, same⟩ := pending ended
    exact ⟨checkpoints, same ▸ finalizes, ok⟩
  · exact ⟨checkpoints, finalizes, ended⟩

@[simp] theorem State.afterAlarm_lamps (s : State) (was : Bool) : (s.afterAlarm was).lines.lamps = s.lines.lamps := by
  cases was
  · rfl
  · simp only [State.afterAlarm, State.alarmFell, if_true]
    split <;> rfl

@[simp] theorem State.afterAlarm_lamp (s : State) (was : Bool) (q : ParcelNo) :
    (s.afterAlarm was).lines.lamp q = s.lines.lamp q := by
  simp [Lines.lamp]

/-- With the alarm of one parcel now NORMAL, the output follows (R209). -/
theorem alarmLaw_afterAlarm {s t : State} {p : ParcelNo} (law : s.alarmLaw) (kept : AlarmKept s t)
    (normal : (t.parcel p).recon.alarm = false) (others : ∀ q, q ≠ p → t.parcel q = s.parcel q) :
    (t.afterAlarm (s.parcel p).recon.alarm).alarmLaw := by
  unfold State.alarmLaw at *
  have alarms (q : ParcelNo) (e : (s.parcel p).recon.alarm = false) :
      (t.parcel q).recon.alarm = (s.parcel q).recon.alarm := by
    by_cases same : q = p
    · rw [same, normal, e]
    · rw [others q same]
  cases was : (s.parcel p).recon.alarm with
  | false => simpa [State.afterAlarm, kept.1, kept.2, State.anyAlarm_congr fun q => alarms q was] using law
  | true =>
    have before : s.anyAlarm = true := s.anyAlarm_iff.mpr ⟨p, was⟩
    simp only [State.afterAlarm, State.alarmFell, if_true]
    cases left : t.anyAlarm with
    | true => simpa [kept.1, kept.2, left, before] using law
    | false =>
      have : (t.setLines { t.lines with silence := false, alarmOut := false }).anyAlarm = false := by
        rw [← left]
        exact State.anyAlarm_congr fun q => by rw [State.parcel_setLines]
      simp [this]

theorem Parcel.alarmNormal_alarm (r : Parcel) : r.alarmNormal.recon.alarm = false := rfl

theorem State.afterAlarm_sameRest (s : State) (was : Bool) : SameRest s (s.afterAlarm was) where
  clock := by simp
  msec := by simp
  pending := by simp
  tanks := by simp
  meters := by simp
  att := by simp
  starting := by simp
  records := by simp
  queue := by simp
  writer := by simp
  responses l := by simp
  notices l h := by simpa using h

theorem SameButQueue.trans {s t u : State} (h : SameButQueue s t) (g : SameButQueue t u) : SameButQueue s u where
  toSameTime := h.toSameTime.trans g.toSameTime
  tanks := g.tanks.trans h.tanks
  meters := g.meters.trans h.meters
  att := g.att.trans h.att
  starting := g.starting.trans h.starting
  records := g.records.trans h.records
  responses l := (g.responses l).trans (h.responses l)
  notices l := g.notices l ∘ h.notices l

theorem SameRest.trans {s t u : State} (h : SameRest s t) (g : SameRest t u) : SameRest s u :=
  ⟨h.toSameButQueue.trans g.toSameButQueue, g.queue.trans h.queue, g.writer.trans h.writer⟩

/-- A change with the output after it. -/
theorem State.changeParcel_afterAlarm_keeps (s : State) (p : ParcelNo) {r : Parcel} (c : Cause)
    (normal : r.recon.alarm = false) (notFree : (s.parcel p).state ≠ .free) (to_ : r.state ≠ .free)
    (pending : (s.parcel p).pendingOk → r.pendingOk ∧ r.finalizePending = (s.parcel p).finalizePending)
    (revision : (s.parcel p).revisionOk → r.revisionOk) :
    Keeps s ((s.changeParcel p r c).afterAlarm (s.parcel p).recon.alarm) := by
  have same := (s.changeParcel_sameRest p r c).trans (State.afterAlarm_sameRest _ (s.parcel p).recon.alarm)
  have parcel (q : ParcelNo) : ((s.changeParcel p r c).afterAlarm (s.parcel p).recon.alarm).parcel q
      = if q = p then r else s.parcel q := by
    rw [State.parcel_afterAlarm, State.parcel_changeParcel]
  refine same.keeps_record parcel (fun q lit => ?_) (fun _ e => absurd e notFree)
    (fun _ => ⟨fun e => absurd e to_, fun e => absurd e (by simp [normal])⟩) revision (fun lawful => ?_)
    fun _ => same.queueFits_record parcel pending
  · rw [State.afterAlarm_lamp, State.parcel_afterAlarm]
    exact s.changeParcel_lit p r c q lit
  · exact alarmLaw_afterAlarm lawful.2.2.2.1 (s.changeParcel_alarmKept p r c)
      (by rw [State.parcel_changeParcel_same, normal]) fun q h => s.parcel_changeParcel_ne h r c

/-- The steps of a close: the record, the alarm output, the CYCLE, the CLOSE job (R20). -/
theorem State.executeClose_eq (s : State) (p : ParcelNo) (c : Cause) :
    s.executeClose p c =
      (if (s.parcel p).state = .transferring then
        ((s.changeParcel p (s.parcel p).closingRecord c).afterAlarm (s.parcel p).recon.alarm).voidCycle p
      else (s.changeParcel p (s.parcel p).closingRecord c).afterAlarm (s.parcel p).recon.alarm).placeJob .close p := rfl

/-- A close executes from a transfer (R20). -/
theorem State.executeClose_keeps (s : State) (p : ParcelNo) (c : Cause) (inTransfer : (s.parcel p).inTransfer = true) :
    Keeps s (s.executeClose p c) := by
  rw [Parcel.inTransfer_iff] at inTransfer
  have notFree : (s.parcel p).state ≠ .free := fun e => by simp [e] at inTransfer
  have changed := s.changeParcel_afterAlarm_keeps p (r := (s.parcel p).closingRecord) c rfl notFree (by simp [Parcel.closingRecord])
    (fun ok => ⟨fun x => ?pending, rfl⟩) fun ok n x => ?revision
  case pending =>
    have := ok x
    rcases inTransfer with e | e <;> simp [e] at this
  case revision =>
    obtain ⟨most, last⟩ := ok n x
    refine ⟨most, fun e => ?_⟩
    have := last e
    rcases inTransfer with e | e <;> simp [e] at this
  rw [State.executeClose_eq]
  refine Keeps.trans ?_ (State.placeJob_keeps _ _ _)
  split
  · exact changed.trans (State.voidCycle_keeps _ _)
  · exact changed

/-! ### The outcome of a parcel (R23, R153) -/

/-- The record of a parcel that enters CLOSED or DISPUTED with its transfer record (R23). -/
def Parcel.ended (r : Parcel) (x : TransferRecord) (cause : Option DisputeCause) : Parcel :=
  { r with
    state := if cause.isSome then .disputed else .closed
    disputeCause := cause
    cycleTimer := none
    acceptTimer := none
    closeReservation := PartySet.empty
    releaseSet := PartySet.empty
    record := some x
    finalizePending := true }

/-- The store with the finalize of a transfer record queued and its sequence number taken (R153). -/
def Store.withFinalize (st : Store) (p : ParcelNo) (x : TransferRecord) : Store :=
  { st.enqueue (.finalize p x) with nextSeq := seqAfter st.nextSeq }

theorem State.enterOutcome_eq (s : State) (p : ParcelNo) (r : Parcel) (cause : Option DisputeCause) (ev : Cause) :
    s.enterOutcome p r cause ev =
      (s.changeParcel p (r.ended (s.buildRecord p r cause) cause) ev).setStore
        (s.store.withFinalize p (s.buildRecord p r cause)) := by
  rw [← s.changeParcel_store p (r.ended (s.buildRecord p r cause) cause) ev]
  rfl

theorem Parcel.ended_state (r : Parcel) (x : TransferRecord) (cause : Option DisputeCause) :
    (r.ended x cause).state = .closed ∨ (r.ended x cause).state = .disputed := by
  cases cause
  · exact .inl rfl
  · exact .inr rfl

/-- One more finalize of a parcel that had none pending is within R154. -/
theorem queueFits_withFinalize {s t : State} {p : ParcelNo} {r : Parcel} {x : TransferRecord}
    (parcel : ∀ q, t.parcel q = if q = p then r else s.parcel q) (store : t.store = s.store.withFinalize p x)
    (from_ : (s.parcel p).state.abortable = true) (pending : r.finalizePending = true)
    (ended : r.state = .closed ∨ r.state = .disputed) (fits : s.queueFits) : t.queueFits := by
  unfold State.queueFits at *
  simp only [Store.commitCount_eq, parcel, store, Store.withFinalize, Store.enqueue_queue, Store.enqueue_writer,
    List.countP_append, List.countP_singleton] at *
  refine ⟨by simpa [QueueEntry.isCommit] using fits.1, fun q => ?_⟩
  obtain ⟨checkpoints, finalizes, was⟩ := fits.2 q
  refine ⟨by simpa [QueueEntry.isCheckpointOf] using checkpoints, ?_⟩
  by_cases e : q = p
  · subst e
    have none_ : (s.parcel q).finalizePending = false := by
      by_contra h
      rcases was (by simpa using h) with e | e <;> simp [e, ParcelState.abortable] at from_
    simp only [none_, Bool.false_eq_true, if_false] at finalizes
    simp only [if_true, pending, QueueEntry.isFinalizeOf, decide_true]
    exact ⟨by omega, fun _ => ended⟩
  · have other : QueueEntry.isFinalizeOf q (.finalize p x) = false := by
      simp [QueueEntry.isFinalizeOf, Ne.symm e]
    simp only [e, if_false, other, Bool.false_eq_true, Nat.add_zero]
    exact ⟨finalizes, was⟩

/-- A parcel enters CLOSED or DISPUTED with one finalize queued, from a state with none pending. -/
theorem State.enterOutcome_afterAlarm_keeps (s : State) (p : ParcelNo) {r : Parcel} (cause : Option DisputeCause)
    (ev : Cause) {was : Bool} (from_ : (s.parcel p).state.abortable = true)
    (normal : (s.parcel p).lawOk → r.recon.alarm = false) (wasAlarm : (s.parcel p).lawOk → was = (s.parcel p).recon.alarm)
    (revision : r.revision = (s.parcel p).revision) :
    Keeps s ((s.enterOutcome p r cause ev).afterAlarm was) := by
  have notFree : (s.parcel p).state ≠ .free := fun e => by simp [e, ParcelState.abortable] at from_
  rw [State.enterOutcome_eq]
  generalize hx : s.buildRecord p r cause = x
  have isEnded := r.ended_state x cause
  have changed := s.changeParcel_sameRest p (r.ended x cause) ev
  generalize ht : s.changeParcel p (r.ended x cause) ev = t at *
  have queued : SameButQueue t (t.setStore (s.store.withFinalize p x)) :=
    ⟨⟨rfl, rfl, rfl⟩, rfl, rfl, rfl, by simp [← ht, Store.withFinalize, Store.startingUp],
      by simp [← ht, Store.withFinalize], fun l => by simp, fun l h => by simpa using h⟩
  have same := (changed.toSameButQueue.trans queued).trans (State.afterAlarm_sameRest _ was).toSameButQueue
  have parcel (q : ParcelNo) : ((t.setStore (s.store.withFinalize p x)).afterAlarm was).parcel q
      = if q = p then r.ended x cause else s.parcel q := by
    rw [State.parcel_afterAlarm, State.parcel_setStore, ← ht, State.parcel_changeParcel]
  refine same.keeps_record parcel (fun q lit => ?_) (fun _ e => absurd e notFree) (fun law => ⟨fun e => ?_, fun a => ?_⟩) (fun ok n e => ?_)
    (fun lawful => ?_) fun _ => queueFits_withFinalize (x := x) parcel (by simp) from_ rfl isEnded
  · rw [State.afterAlarm_lamp, parcel]
    have lit' := s.changeParcel_lit p (r.ended x cause) ev q lit
    rwa [State.parcel_changeParcel, ht] at lit'
  · simp [e] at isEnded
  · exact absurd (normal law) (by simpa [Parcel.ended] using a)
  · exact ⟨(ok n (revision.symm.trans e)).1, fun _ => .inr isEnded⟩
  · have laws := ((State.lawful_iff s).mp lawful).1
    rw [wasAlarm (laws p)]
    refine alarmLaw_afterAlarm lawful.2.2.2.1 ?_ ?_ fun q h => ?_
    · rw [← ht]
      exact s.changeParcel_alarmKept p _ ev
    · rw [State.parcel_setStore, ← ht, State.parcel_changeParcel_same]
      exact normal (laws p)
    · rw [State.parcel_setStore, ← ht, s.parcel_changeParcel_ne h]

end Sys2Proof.Machine
end

section
/-!
PROOFS. What the sources draw of the pool and give back, and what each observation stores, keep the rings within their depths
and the depths within the pool (R51, R53 to R56).
-/

namespace Sys2Proof.Machine

/-! ### Sources alone -/

/-- A change of the sources alone. -/
theorem keeps_of_sources {s t : State} (h : t = { s with tanks := t.tanks, meters := t.meters, att := t.att })
    (rings : s.ringsFit → t.ringsFit) : Keeps s t := by
  have link (l : Link) : t.link l = s.link l := by rw [h]; cases l <;> rfl
  have parcel (q : ParcelNo) : t.parcel q = s.parcel q := State.parcel_congr (by rw [h]) q
  refine ⟨⟨by rw [h], by rw [h], by rw [h]⟩,
    ⟨fun b => ?bounded, fun l => ?laws, fun _ q => ?queue, fun r p => ?revision⟩, rings, fun l => by rw [link l]⟩
  case bounded =>
    rw [State.bounded_iff] at *
    exact ⟨fun l => link l ▸ b.1 l, by rw [h]; exact b.2⟩
  case laws =>
    rw [h]
    exact l
  case queue =>
    rw [h]
    exact q
  case revision =>
    rw [parcel]
    exact r p

/-- The depth drawn by a tank channel. -/
def TankSource.drawn (t : TankSource) : Nat := heldDepth t.owner t.depth

/-- The depth drawn by a meter run. -/
def MeterSource.drawn (m : MeterSource) : Nat := heldDepth m.owner m.depth

/-- The depths of all assigned sources as two sums (R55). -/
theorem State.depthSum_eq (s : State) :
    s.depthSum = (tankNumbers.map (fun n => (s.tank n).drawn)).sum + (meterNumbers.map (fun n => (s.meter n).drawn)).sum :=
  rfl

/-- A sum over distinct numbers of which one term differs. -/
theorem sum_map_update {xs : List Nat} {f g : Nat → Nat} {n : Nat} (nodup : xs.Nodup) (mem : n ∈ xs)
    (other : ∀ m, m ≠ n → g m = f m) : (xs.map g).sum + f n = (xs.map f).sum + g n := by
  induction xs with
  | nil => simp at mem
  | cons x rest ih =>
    obtain ⟨notIn, nodup⟩ := List.nodup_cons.mp nodup
    simp only [List.map_cons, List.sum_cons]
    rcases List.mem_cons.mp mem with e | inRest
    · subst e
      have : rest.map g = rest.map f := List.map_congr_left fun m hm => other m fun e => notIn (e ▸ hm)
      rw [this]
      omega
    · have := ih nodup inRest
      have := other x fun e => notIn (e ▸ inRest)
      omega

theorem tankNumbers_nodup : tankNumbers.Nodup := List.nodup_range'
theorem meterNumbers_nodup : meterNumbers.Nodup := List.nodup_range'

theorem State.setTank_of_out (s : State) {n : Nat} (out : ¬(1 ≤ n ∧ n ≤ 16)) (x : TankSource) : s.setTank n x = s := by
  unfold State.setTank
  split
  · rfl
  · have : 16 ≤ n - 1 := by omega
    rw [Vector.setIfInBounds_eq_of_size_le this]

theorem State.setMeter_of_out (s : State) {n : Nat} (out : ¬(1 ≤ n ∧ n ≤ 8)) (x : MeterSource) : s.setMeter n x = s := by
  unfold State.setMeter
  split
  · rfl
  · have : 8 ≤ n - 1 := by omega
    rw [Vector.setIfInBounds_eq_of_size_le this]

theorem State.depthSum_setTank (s : State) {n : Nat} (lo : 1 ≤ n) (hi : n ≤ 16) (x : TankSource) :
    (s.setTank n x).depthSum + (s.tank n).drawn = s.depthSum + x.drawn := by
  have sum := sum_map_update (f := fun m => (s.tank m).drawn) (g := fun m => ((s.setTank n x).tank m).drawn)
    tankNumbers_nodup (List.mem_range'_1.mpr ⟨lo, by omega⟩) fun m h => by simp only [s.tank_setTank_ne h]
  have meters : (meterNumbers.map fun m => ((s.setTank n x).meter m).drawn)
      = meterNumbers.map fun m => (s.meter m).drawn := by
    simp [State.meter_congr (s.setTank_meters n x)]
  simp only [s.tank_setTank_same lo hi x] at sum
  rw [State.depthSum_eq, State.depthSum_eq, meters]
  omega

theorem State.depthSum_setMeter (s : State) {n : Nat} (lo : 1 ≤ n) (hi : n ≤ 8) (x : MeterSource) :
    (s.setMeter n x).depthSum + (s.meter n).drawn = s.depthSum + x.drawn := by
  have sum := sum_map_update (f := fun m => (s.meter m).drawn) (g := fun m => ((s.setMeter n x).meter m).drawn)
    meterNumbers_nodup (List.mem_range'_1.mpr ⟨lo, by omega⟩) fun m h => by simp only [s.meter_setMeter_ne h]
  have tanks : (tankNumbers.map fun m => ((s.setMeter n x).tank m).drawn)
      = tankNumbers.map fun m => (s.tank m).drawn := by
    simp [State.tank_congr (s.setMeter_tanks n x)]
  simp only [s.meter_setMeter_same lo hi x] at sum
  rw [State.depthSum_eq, State.depthSum_eq, tanks]
  omega

/-- A tank channel replaced by one whose ring fits the depth it draws, where the pool has the depth (R53, R55). -/
theorem State.setTank_ringsFit (s : State) (n : Nat) {x : TankSource} (ring : x.ring.length ≤ x.drawn)
    (pool : 1 ≤ n → n ≤ 16 → s.depthSum + x.drawn ≤ 96 + (s.tank n).drawn) (fits : s.ringsFit) :
    (s.setTank n x).ringsFit := by
  by_cases named : 1 ≤ n ∧ n ≤ 16
  · obtain ⟨lo, hi⟩ := named
    obtain ⟨_, tanks, meters, att⟩ := fits
    have sum := s.depthSum_setTank lo hi x
    have := pool lo hi
    refine ⟨by omega, fun m => ?_, fun m => ?_, by simpa using att⟩
    · by_cases e : m = n
      · rw [e, s.tank_setTank_same lo hi]
        exact ring
      · rw [s.tank_setTank_ne e]
        exact tanks m
    · rw [State.meter_congr (s.setTank_meters n x)]
      exact meters m
  · rwa [s.setTank_of_out named]

/-- A meter run likewise. -/
theorem State.setMeter_ringsFit (s : State) (n : Nat) {x : MeterSource} (ring : x.ring.length ≤ x.drawn)
    (pool : 1 ≤ n → n ≤ 8 → s.depthSum + x.drawn ≤ 96 + (s.meter n).drawn) (fits : s.ringsFit) :
    (s.setMeter n x).ringsFit := by
  by_cases named : 1 ≤ n ∧ n ≤ 8
  · obtain ⟨lo, hi⟩ := named
    obtain ⟨_, tanks, meters, att⟩ := fits
    have sum := s.depthSum_setMeter lo hi x
    have := pool lo hi
    refine ⟨by omega, fun m => ?_, fun m => ?_, by simpa using att⟩
    · rw [State.tank_congr (s.setMeter_tanks n x)]
      exact tanks m
    · by_cases e : m = n
      · rw [e, s.meter_setMeter_same lo hi]
        exact ring
      · rw [s.meter_setMeter_ne e]
        exact meters m
  · rwa [s.setMeter_of_out named]

theorem State.setTank_sources (s : State) (n : Nat) (x : TankSource) :
    s.setTank n x = { s with
      tanks := (s.setTank n x).tanks, meters := (s.setTank n x).meters, att := (s.setTank n x).att } := by
  unfold State.setTank
  split <;> rfl

theorem State.setMeter_sources (s : State) (n : Nat) (x : MeterSource) :
    s.setMeter n x = { s with
      tanks := (s.setMeter n x).tanks, meters := (s.setMeter n x).meters, att := (s.setMeter n x).att } := by
  unfold State.setMeter
  split <;> rfl

theorem State.setTank_keeps (s : State) (n : Nat) {x : TankSource} (ring : s.ringsFit → x.ring.length ≤ x.drawn)
    (pool : 1 ≤ n → n ≤ 16 → s.ringsFit → s.depthSum + x.drawn ≤ 96 + (s.tank n).drawn) : Keeps s (s.setTank n x) :=
  keeps_of_sources (s.setTank_sources n x) fun fits =>
    s.setTank_ringsFit n (ring fits) (fun lo hi => pool lo hi fits) fits

theorem State.setMeter_keeps (s : State) (n : Nat) {x : MeterSource} (ring : s.ringsFit → x.ring.length ≤ x.drawn)
    (pool : 1 ≤ n → n ≤ 8 → s.ringsFit → s.depthSum + x.drawn ≤ 96 + (s.meter n).drawn) :
    Keeps s (s.setMeter n x) :=
  keeps_of_sources (s.setMeter_sources n x) fun fits =>
    s.setMeter_ringsFit n (ring fits) (fun lo hi => pool lo hi fits) fits

/-! ### Draws and returns -/

theorem TankSource.drawn_returned (t : TankSource) : t.returned.drawn = 0 := rfl

theorem MeterSource.drawn_returned (m : MeterSource) : m.returned.drawn = 0 := rfl

theorem State.returnTank_keeps (s : State) (n : Nat) : Keeps s (s.returnTank n) := by
  refine s.setTank_keeps n (x := (s.tank n).returned) (fun _ => by simp [TankSource.returned]) fun _ _ fits => ?_
  have := fits.1
  rw [TankSource.drawn_returned]
  omega

theorem State.returnMeter_keeps (s : State) (n : Nat) : Keeps s (s.returnMeter n) := by
  refine s.setMeter_keeps n (x := (s.meter n).returned) (fun _ => by simp [MeterSource.returned]) fun _ _ fits => ?_
  have := fits.1
  rw [MeterSource.drawn_returned]
  omega

/-- A fold of steps that each keep the limits and laws. -/
theorem foldl_keeps_laws {α : Type} {f : State → α → State} (h : ∀ s x, Keeps s (f s x)) (xs : List α) (s : State) :
    Keeps s (xs.foldl f s) := by
  induction xs generalizing s with
  | nil => exact Keeps.refl s
  | cons x rest ih => exact (h s x).trans (ih _)

theorem State.returnSources_keeps (s : State) (p : ParcelNo) : Keeps s (s.returnSources p) :=
  (foldl_keeps_laws State.returnTank_keeps _ s).trans (foldl_keeps_laws State.returnMeter_keeps _ _)

theorem State.drawTank_keeps (s : State) (n : Nat) (p : ParcelNo) {d : Nat} (depth : 1 ≤ d)
    (pool : s.ringsFit → d ≤ s.poolFree) : Keeps s (s.drawTank n p d) := by
  refine s.setTank_keeps n (fun _ => ?_) fun _ _ fits => ?_
  · simp only [TankSource.drawn, heldDepth, Option.isSome_some, if_true]
    split <;> simp [depth]
  · have := pool fits
    have := fits.1
    simp only [State.poolFree, TankSource.drawn, heldDepth, Option.isSome_some, if_true] at *
    omega

theorem State.drawMeter_keeps (s : State) (n : Nat) (p : ParcelNo) {d : Nat} (depth : 1 ≤ d)
    (pool : s.ringsFit → d ≤ s.poolFree) : Keeps s (s.drawMeter n p d) := by
  refine s.setMeter_keeps n (fun _ => ?_) fun _ _ fits => ?_
  · simp only [MeterSource.drawn, heldDepth, Option.isSome_some, if_true]
    split <;> simp [depth]
  · have := pool fits
    have := fits.1
    simp only [State.poolFree, MeterSource.drawn, heldDepth, Option.isSome_some, if_true] at *
    omega

/-! ### Observations (R47, R51, R54) -/

/-- A ring never holds more than its depth once it is pushed (R54). -/
theorem pushRing_length_le {α : Type} (depth : Nat) (ring : List α) (e : α) : (pushRing depth ring e).length ≤ depth := by
  simp only [pushRing, List.length_drop, List.length_append, List.length_singleton]
  omega

theorem TankSource.store_drawn (t : TankSource) (o : TankObs) (now : Instant) : (t.store o now).drawn = t.drawn := rfl

theorem TankSource.store_ring_le {t : TankSource} (h : t.ring.length ≤ t.drawn) (o : TankObs) (now : Instant) :
    (t.store o now).ring.length ≤ t.drawn := by
  simp only [TankSource.store]
  split
  next owned =>
    simpa [TankSource.drawn, heldDepth, owned] using pushRing_length_le t.depth t.ring _
  · exact h

theorem MeterSource.withRate_eq (m : MeterSource) :
    m.withRate = { m with rate := (m.newRate.map some).getD m.rate } := by
  unfold MeterSource.withRate
  split
  next h => rw [h]; rfl
  next h => rw [h]; rfl

theorem MeterSource.store_ring_le {m : MeterSource} (h : m.ring.length ≤ m.drawn) (o : MeterObs) (now : Instant) :
    (m.store o now).ring.length ≤ m.drawn := by
  simp only [MeterSource.store]
  split
  next owned =>
    simpa [MeterSource.drawn, heldDepth, owned] using pushRing_length_le m.depth m.ring _
  · exact h

theorem State.takeTankObs_keeps (s : State) (seen : List Nat) (o : TankObs) : Keeps s (s.takeTankObs seen o).1 := by
  unfold State.takeTankObs
  split
  · exact Keeps.refl s
  · exact s.setTank_keeps _ (fun fits => TankSource.store_ring_le (fits.2.1 _) o s.clock) fun _ _ fits => by
      rw [TankSource.store_drawn]
      exact Nat.add_le_add_right fits.1 _

theorem State.takeTankFrame_keeps (os : List TankObs) (seen : List Nat) (s : State) :
    Keeps s (State.takeTankFrame os seen s).1 := by
  induction os generalizing seen s with
  | nil => exact Keeps.refl s
  | cons o rest ih => exact (s.takeTankObs_keeps seen o).trans (ih _ _)

theorem ParcelState.takesFlow_not_free {x : ParcelState} (h : x.takesFlow = true) : x ≠ .free := by
  rintro rfl
  cases h

/-- A flow report touches the no-flow timer alone (R16, R17). -/
theorem State.flowing_keeps (s : State) (owner : Option ParcelNo) (rate : Option Nat) : Keeps s (s.flowing owner rate) := by
  unfold State.flowing
  split
  · split
    · simp only [State.reportFlow]
      split
      next takes =>
        exact s.setParcel_keeps _ (.of_same (fun _ => ParcelState.takesFlow_not_free takes) rfl rfl rfl rfl) rfl
      · exact Keeps.refl s
    · exact Keeps.refl s
  · exact Keeps.refl s

theorem State.takeMeterObs_keeps (s : State) (seen : List Nat) (o : MeterObs) : Keeps s (s.takeMeterObs seen o).1 := by
  unfold State.takeMeterObs
  split
  · exact Keeps.refl s
  · refine Keeps.trans ?_ (State.flowing_keeps _ _ _)
    refine s.setMeter_keeps _ (fun fits => ?_) fun _ _ fits => ?_
    · rw [MeterSource.withRate_eq]
      exact MeterSource.store_ring_le (fits.2.2.1 _) o s.clock
    · rw [MeterSource.withRate_eq]
      exact Nat.add_le_add_right fits.1 _

theorem State.takeMeterFrame_keeps (os : List MeterObs) (seen : List Nat) (s : State) :
    Keeps s (State.takeMeterFrame os seen s).1 := by
  induction os generalizing seen s with
  | nil => exact Keeps.refl s
  | cons o rest ih => exact (s.takeMeterObs_keeps seen o).trans (ih _ _)

end Sys2Proof.Machine
end

section
/-!
PROOFS. The operations of the store keep the limits and laws of the part: the entries queued, taken and ended by the write
unit (R154, R181 to R184), the record slots (R156) and the verification (R186, R187).
-/

namespace Sys2Proof.Machine

/-- A change of the store, beside which only what no law speaks of may differ. -/
theorem keeps_of_store {s t : State}
    (h : t = { s with store := t.store, freeDraws := t.freeDraws, restoreLost := t.restoreLost })
    (starting : t.store.startingUp = true → s.store.startingUp = true)
    (records : s.store.records.length ≤ 8 → t.store.records.length ≤ 8)
    (queue : s.lawful → s.queueFits → t.queueFits) : Keeps s t := by
  have link (l : Link) : t.link l = s.link l := by rw [h]; cases l <;> rfl
  have parcel (q : ParcelNo) : t.parcel q = s.parcel q := State.parcel_congr (by rw [h]) q
  refine ⟨⟨by rw [h], by rw [h], by rw [h]⟩, ⟨fun b => ?bounded, fun l => ?laws, queue, fun r p => ?revision⟩,
    fun r => ?rings, fun l => by rw [link l]⟩
  case bounded =>
    rw [State.bounded_iff] at *
    exact ⟨fun l => link l ▸ b.1 l, records b.2⟩
  case laws =>
    obtain ⟨cleared, free, alarm, output, lamps⟩ := l
    have free' : t.startupFree := fun up p => by
      rw [parcel]
      exact free (starting up) p
    rw [h] at free' ⊢
    exact ⟨cleared, free', alarm, output, lamps⟩
  case revision =>
    rw [parcel]
    exact r p
  case rings =>
    rw [h]
    exact r

/-! ### The write queue (R181, R182) -/

/-- A link commit placed where fewer than 4 wait. -/
theorem State.placeCommit_keeps (s : State) (item : Nat) (l : Link) (clear : Bool) (image : List Byte) (check : Word16)
    (room : s.store.commitsFull = false) : Keeps s (s.placeCommit item l clear image check) := by
  refine s.setStore_keeps (by simp [Store.startingUp]) (by simp) fun _ fits => ?_
  have few : s.store.commitCount < 4 := by simpa [Store.commitsFull] using room
  unfold State.queueFits at *
  simp only [Store.commitCount_eq, State.setStore_store, State.parcel_setStore, Store.enqueue_queue,
    Store.enqueue_writer, Store.setItem_queue, Store.setItem_writer, List.countP_append, List.countP_singleton] at *
  refine ⟨?_, fun q => by simpa [QueueEntry.isCheckpointOf, QueueEntry.isFinalizeOf] using fits.2 q⟩
  simp only [QueueEntry.isCommit, if_true]
  omega

/-! ### The write unit (R154, R156, R183, R184) -/

theorem takeSlot_length (records : List StoredRecord) (x : TransferRecord) (sum : Word16) :
    (takeSlot records x sum).length ≤ 8 := by
  simp only [takeSlot, List.length_append, List.length_drop, List.length_singleton]
  omega

/-- What `beginEntry` makes of a state: the entry at the write unit, and beside it the store's items, records and
checkpoints and the count of free values. -/
theorem State.beginEntry_spec (s : State) (e : QueueEntry) :
    s.beginEntry e = { s with store := (s.beginEntry e).store, freeDraws := (s.beginEntry e).freeDraws }
      ∧ (s.beginEntry e).store.queue = s.store.queue ∧ (s.beginEntry e).store.verify = s.store.verify
      ∧ (s.beginEntry e).store.writer.map (·.entry) = some e
      ∧ (s.store.records.length ≤ 8 → (s.beginEntry e).store.records.length ≤ 8) := by
  cases e with
  | commit item l clear image check =>
    simp [State.beginEntry, State.setWriter, State.markItem, State.setStore, ActiveWrite.begin]
  | checkpoint p copy =>
    simp [State.beginEntry, State.setWriter, State.markCheckpoint, State.setStore, ActiveWrite.begin]
  | finalize p x =>
    simp [State.beginEntry, State.setWriter, State.setStore, ActiveWrite.begin, takeSlot_length]

/-- The write unit takes an entry: what it counts for moves from the queue to the unit. -/
theorem State.startWrite_keeps (s : State) : Keeps s s.startWrite := by
  unfold State.startWrite
  split
  case h_2 => exact Keeps.refl s
  case h_1 e rest _ none_ queue =>
    obtain ⟨only, queued, verify, entry, records⟩ :=
      (s.setStore { s.store with queue := rest }).beginEntry_spec e
    generalize ht : (s.setStore { s.store with queue := rest }).beginEntry e = t at *
    refine keeps_of_store (by rw [only]; rfl) (by simp [Store.startingUp, verify]) records fun _ fits => ?_
    have writer : t.store.writer.toList.map (·.entry) = [e] := by
      obtain ⟨w, at_, is⟩ := Option.map_eq_some_iff.mp entry
      simp [at_, is]
    have parcel (q : ParcelNo) : t.parcel q = s.parcel q := State.parcel_congr (by rw [only]; rfl) q
    unfold State.queueFits at *
    simp only [Store.commitCount_eq, writer, queued, parcel, State.setStore_store, queue, none_, List.countP_cons,
      List.countP_nil, Option.toList_none, List.map_nil] at *
    refine ⟨by omega, fun q => ?_⟩
    obtain ⟨checkpoints, finalizes, pending⟩ := fits.2 q
    exact ⟨by omega, by omega, pending⟩

/-- The write unit goes on with the entry it is at. -/
theorem State.setWriter_keeps (s : State) {w w' : ActiveWrite} (at_ : s.store.writer = some w)
    (entry : w'.entry = w.entry) : Keeps s (s.setWriter (some w')) :=
  s.setStore_keeps_of_queue id id rfl (by simp [at_, entry])

theorem State.setWriter_none_keeps (s : State) : Keeps s (s.setWriter none) := by
  refine s.setStore_keeps id id fun _ fits => ?_
  unfold State.queueFits at *
  refine ⟨fits.1, fun q => ?_⟩
  obtain ⟨checkpoints, finalizes, pending⟩ := fits.2 q
  exact ⟨checkpoints, (Nat.add_le_add_left (Nat.zero_le _) _).trans finalizes, pending⟩

/-- A change of items and checkpoints. -/
theorem State.setStore_keeps_content (s : State) {st : Store} (verify : st.verify = s.store.verify)
    (records : st.records.length ≤ s.store.records.length) (queue : st.queue = s.store.queue)
    (writer : st.writer = s.store.writer) : Keeps s (s.setStore st) :=
  s.setStore_keeps_of_queue (by simp [Store.startingUp, verify]) records.trans queue (by rw [writer])

theorem State.setCheckpoint_keeps (s : State) (p : ParcelNo) (c : CheckpointItem) :
    Keeps s (s.setStore (s.store.setCheckpoint p c)) :=
  s.setStore_keeps_content rfl (Nat.le_refl _) rfl rfl

theorem State.settleRecord_keeps (s : State) (good : Bool) :
    Keeps s (s.setStore { s.store with records := settleRecord s.store.records good }) :=
  s.setStore_keeps_content rfl (by simp [settleRecord]) rfl rfl

theorem State.markItem_keeps (s : State) (id : Nat) (x : Status) : Keeps s (s.markItem id x) :=
  s.setStore_keeps_content (by simp) (by simp) (by simp) (by simp)

theorem State.markCheckpoint_keeps (s : State) (p : ParcelNo) (x : Status) : Keeps s (s.markCheckpoint p x) :=
  s.setStore_keeps_content rfl (Nat.le_refl _) rfl rfl

theorem State.settleItem_keeps (s : State) (id : Nat) (x : Status) (w : ActiveWrite) (pending : Bool) :
    Keeps s (s.settleItem id x w pending) :=
  s.setStore_keeps_content (by simp) (by simp) (by simp) (by simp)

theorem State.computeVefOf_keeps (s : State) (id : Nat) : Keeps s (s.computeVefOf id) := by
  unfold State.computeVefOf
  split
  · exact s.setVef_keeps _ _
  · exact Keeps.refl s

theorem State.postResult_keeps (s : State) (l : Link) (b : NoticeBody) : Keeps s (s.postResult l b) := by
  unfold State.postResult
  split
  · exact s.postTo_keeps _ _
  · exact (s.postTo_keeps _ _).trans (State.postTo_keeps _ _ _)

@[simp] theorem State.markItem_writer (s : State) (id : Nat) (x : Status) :
    (s.markItem id x).store.writer = s.store.writer := by simp [State.markItem]

@[simp] theorem State.markCheckpoint_writer (s : State) (p : ParcelNo) (x : Status) :
    (s.markCheckpoint p x).store.writer = s.store.writer := rfl

@[simp] theorem State.settleItem_writer (s : State) (id : Nat) (x : Status) (w : ActiveWrite) (pending : Bool) :
    (s.settleItem id x w pending).store.writer = s.store.writer := by simp [State.settleItem]

/-- A record with finalize pending back to no (R154). -/
def Parcel.finalized (r : Parcel) : Parcel := { r with finalizePending := false }

theorem State.finishFinalize_eq (s : State) (p : ParcelNo) (x : TransferRecord) (w : ActiveWrite) (cleared : Bool) :
    s.finishFinalize p x w cleared = ((s.setParcel p (s.parcel p).finalized).setWriter none).postAll
      (.outcomeStored p x.seq x.cause w.appended w.recordStored w.historyStored cleared) := rfl

section
variable (s : State) (p : ParcelNo) (x : TransferRecord) {w w0 : ActiveWrite}

theorem State.beginClear_keeps (at_ : s.store.writer = some w0) (entry : w.entry = w0.entry) :
    Keeps s (s.beginClear p w) :=
  (s.markCheckpoint_keeps p _).trans (State.setWriter_keeps _ (w := w0) at_ entry)

theorem State.beginHistory_keeps (at_ : s.store.writer = some w0) (entry : w.entry = w0.entry) :
    Keeps s (s.beginHistory p x w) := by
  simp only [State.beginHistory]
  split
  · exact (s.markItem_keeps _ _).trans (State.setWriter_keeps _ (w := w0) (by simpa using at_) entry)
  · exact s.beginClear_keeps p at_ entry

theorem State.nextFinalizeWrite_keeps (at_ : s.store.writer = some w0) (entry : w.entry = w0.entry) :
    Keeps s (s.nextFinalizeWrite p x w) := by
  unfold State.nextFinalizeWrite
  split
  · exact s.beginHistory_keeps p x at_ entry
  · exact s.beginClear_keeps p at_ entry
  all_goals exact s.setWriter_none_keeps

theorem State.continueFinalize_keeps (at_ : s.store.writer = some w0) (entry : w.entry = w0.entry) :
    Keeps s (s.continueFinalize p x w) := by
  unfold State.continueFinalize
  split
  · exact s.nextFinalizeWrite_keeps p x at_ entry
  · exact s.setWriter_keeps at_ entry

/-- A finalize completes: finalize pending ends with the entry it stood for (R154). -/
theorem State.finishFinalize_keeps (cleared : Bool) (at_ : s.store.writer = some w0) (entry : w0.entry = .finalize p x) :
    Keeps s (s.finishFinalize p x w cleared) := by
  rw [State.finishFinalize_eq]
  refine Keeps.trans ?_ (State.postAll_keeps _ _)
  have same : SameButQueue s ((s.setParcel p (s.parcel p).finalized).setWriter none) :=
    ⟨⟨rfl, rfl, rfl⟩, rfl, rfl, rfl, rfl, Nat.le_refl _, fun l => by simp [State.setWriter],
      fun l h => by simpa [State.setWriter] using h⟩
  have parcel (q : ParcelNo) : ((s.setParcel p (s.parcel p).finalized).setWriter none).parcel q
      = if q = p then (s.parcel p).finalized else s.parcel q := by
    rw [State.setWriter, State.parcel_setStore, State.parcel_setParcel]
  have lines : ((s.setParcel p (s.parcel p).finalized).setWriter none).lines = s.lines := rfl
  have queue : ((s.setParcel p (s.parcel p).finalized).setWriter none).store = { s.store with writer := none } := rfl
  generalize (s.setParcel p (s.parcel p).finalized).setWriter none = t at *
  have shown (q : ParcelNo) : (t.parcel q).pattern = (s.parcel q).pattern
      ∧ (t.parcel q).recon.alarm = (s.parcel q).recon.alarm := by
    rw [parcel]
    split
    next e => rw [e]; exact ⟨rfl, rfl⟩
    · exact ⟨rfl, rfl⟩
  refine same.keeps_record parcel (fun q lit => ?lamps) (fun _ => id) (fun law => ⟨fun free => ?law, law.2⟩) id
    (fun lawful => ?alarm) fun _ fits => ?queue
  case lamps =>
    rw [lines, (shown q).1]
    exact lit
  case law =>
    rw [law.1 free]
    rfl
  case alarm =>
    have output : s.alarmLaw := lawful.2.2.2.1
    unfold State.alarmLaw at *
    rw [lines, State.anyAlarm_congr fun q => (shown q).2]
    exact output
  case queue =>
    unfold State.queueFits at *
    rw [queue]
    refine ⟨fits.1, fun q => ?_⟩
    obtain ⟨checkpoints, finalizes, pending⟩ := fits.2 q
    refine ⟨checkpoints, ?_⟩
    rw [parcel]
    simp only [at_, Option.toList_some, List.map_cons, List.map_nil, entry, List.countP_singleton,
      QueueEntry.isFinalizeOf, decide_eq_true_eq, Option.toList_none, List.countP_nil] at *
    by_cases e : q = p
    · subst e
      refine ⟨?_, fun h => by simp [Parcel.finalized] at h⟩
      simp only [if_true] at *
      split at finalizes <;> omega
    · simp only [e, Ne.symm e, if_false] at *
      exact ⟨finalizes, pending⟩

end

/-- A write ends, well or not (R183, R184). -/
theorem State.endWrite_keeps (s : State) {w : ActiveWrite} (good : Bool) (at_ : s.store.writer = some w) :
    Keeps s (s.endWrite w good) := by
  unfold State.endWrite
  split
  case h_1 =>
    exact (((s.settleItem_keeps _ _ _ _).trans (State.setWriter_none_keeps _)).trans
      (State.computeVefOf_keeps _ _)).trans (State.postResult_keeps _ _ _)
  case h_2 =>
    dsimp only
    split
    · exact (s.setWriter_none_keeps.trans (State.setCheckpoint_keeps _ _ _)).trans (State.setRestoreLost_keeps _ _ _)
    · exact s.setWriter_none_keeps
  case h_3 =>
    refine Keeps.trans (s.settleRecord_keeps good) (State.continueFinalize_keeps _ _ _ (w0 := w) at_ ?_)
    rfl
  case h_4 =>
    refine Keeps.trans ((s.settleItem_keeps _ _ w _).trans (State.setVef_keeps _ _ _))
      (State.continueFinalize_keeps _ _ _ (w0 := w) (by simpa [State.computeVef] using at_) ?_)
    rfl
  case h_5 p x _ _ entry _ _ =>
    dsimp only
    split
    · exact (s.setCheckpoint_keeps _ _).trans (State.finishFinalize_keeps _ _ _ (w0 := w) good at_ entry)
    · exact s.finishFinalize_keeps _ _ good at_ entry

theorem State.blockDone_keeps (s : State) (equal : Bool) : Keeps s (s.blockDone equal) := by
  unfold State.blockDone
  split
  case h_2 => exact Keeps.refl s
  case h_1 w at_ =>
    split
    · exact Keeps.refl s
    · split
      · split
        · exact s.setWriter_keeps at_ rfl
        · exact (s.endWrite_keeps true at_).trans (State.transmitAll_keeps _)
      · exact (s.endWrite_keeps false at_).trans (State.transmitAll_keeps _)

/-! ### Verification (R186, R187) -/

theorem State.setVerify_keeps (s : State) {v : VerifyPhase} (running : ∀ since, v ≠ .startup since) :
    Keeps s (s.setVerify v) := by
  refine s.setStore_keeps_of_queue (fun up => ?_) id rfl rfl
  cases v <;> simp_all [Store.startingUp]

theorem State.startPass_keeps (s : State) : Keeps s s.startPass := by
  unfold State.startPass
  split
  · split
    · exact s.setVerify_keeps (by simp)
    · exact Keeps.refl s
  · exact Keeps.refl s

theorem State.dropCheckpoint_keeps (s : State) (p : ParcelNo) : Keeps s (s.dropCheckpoint p) :=
  (s.setCheckpoint_keeps p _).trans (State.setRestoreLost_keeps _ _ _)

theorem State.computeIfInvalid_keeps (s : State) (d : Direction) : Keeps s (s.computeIfInvalid d) := by
  unfold State.computeIfInvalid
  split
  · exact s.setVef_keeps _ _
  · exact Keeps.refl s

theorem State.resumeWriter_keeps (s : State) : Keeps s s.resumeWriter := by
  unfold State.resumeWriter
  split
  case h_2 => exact Keeps.refl s
  case h_1 w at_ =>
    split
    · exact s.nextFinalizeWrite_keeps _ _ at_ rfl
    · exact Keeps.refl s

theorem State.pass_keeps (s : State) : Keeps s (s.setStore s.store.pass) :=
  s.setStore_keeps_content rfl (List.length_filter_le _ _) rfl rfl

theorem State.completeVerify_keeps (s : State) : Keeps s s.completeVerify := by
  unfold State.completeVerify
  split
  case h_2 => exact Keeps.refl s
  case h_1 =>
    refine Keeps.trans ?_ (State.transmitAll_keeps _)
    refine Keeps.trans ?_ (State.resumeWriter_keeps _)
    refine Keeps.trans ?_ (State.setVerify_keeps _ (by simp))
    refine Keeps.trans ?_ (State.postTo_keeps _ _ _)
    refine Keeps.trans ?_ (State.computeIfInvalid_keeps _ _)
    refine Keeps.trans ?_ (State.computeIfInvalid_keeps _ _)
    exact s.pass_keeps.trans (foldl_keeps_laws State.dropCheckpoint_keeps _ _)

end Sys2Proof.Machine
end

section
/-!
PROOFS. Every request's own rule keeps the limits and laws of the part.
-/

namespace Sys2Proof.Machine

/-! ### The examination (R2, R195) -/

theorem withParcel_keeps {form : List Byte → Bool} {pl : List Byte} {s : State} {k : ParcelNo → State × Reply}
    (h : ∀ p, s.store.verifying = false → Keeps s (k p).1) : Keeps s (withParcel form pl s k).1 := by
  unfold withParcel
  split
  · exact Keeps.refl s
  next idle =>
    split
    · split
      · exact h _ (by simpa using idle)
      · exact Keeps.refl s
    · exact Keeps.refl s

theorem withStore_keeps {form : Bool} {s : State} {k : State × Reply}
    (h : s.store.verifying = false → Keeps s k.1) : Keeps s (withStore form s k).1 := by
  unfold withStore
  split
  · exact Keeps.refl s
  next idle =>
    split
    · exact h (by simpa using idle)
    · exact Keeps.refl s

theorem Store.startingUp_of_idle {st : Store} (h : st.verifying = false) : st.startingUp = false := by
  unfold Store.verifying at h
  split at h
  next e => simp [Store.startingUp, e]
  · cases h

/-! ### Declaration and sources (R3 to R8) -/

theorem State.declare_keeps (s : State) (l : Link) (pl : List Byte) (p : ParcelNo) (idle : s.store.verifying = false)
    (free : (s.parcel p).state.isFree = true) : Keeps s (s.declare l pl p).1 := by
  have free : (s.parcel p).state = .free := by simpa [ParcelState.isFree] using free
  unfold State.declare
  split
  case h_2 => exact Keeps.refl s
  case h_1 d _ =>
    refine (s.changeParcel_keeps p _ ?_).trans (State.setRestoreLost_keeps _ _ _)
    exact {
      law := fun _ => ⟨fun e => (by cases e), fun e => (by cases e)⟩
      free := fun _ up => by rw [Store.startingUp_of_idle idle] at up; cases up
      alarm := fun law => by rw [law.1 free]; rfl
      pending := fun law _ => by rw [law.1 free]; exact ⟨fun e => (by cases e), rfl⟩
      revision := fun _ n e => by cases e }

theorem reqDeclare_keeps (l : Link) (pl : List Byte) (s : State) : Keeps s (reqDeclare l pl s).1 := by
  unfold reqDeclare
  split
  · exact Keeps.refl s
  next idle =>
    have idle : s.store.verifying = false := by simpa using idle
    split
    · split
      · split
        next p found => exact s.declare_keeps l pl p idle (List.find?_some (p := fun p => (s.parcel p).state.isFree) found)
        · exact Keeps.refl s
      · split
        · split
          next free => exact s.declare_keeps l pl _ idle free
          · exact Keeps.refl s
        · exact Keeps.refl s
    · exact Keeps.refl s

theorem ParcelState.moving_of_declarable {x : ParcelState} (h : x.declarable = true) :
    x = .declared ∨ x = .basisAgreed ∨ x = .opening ∨ x = .closing := by
  rcases (ParcelState.declarable_iff x).mp h with e | e
  · exact .inl e
  · exact .inr (.inl e)

theorem State.declarationChange_keeps (s : State) (p : ParcelNo) (x : Params) (c : Cause)
    (declarable : (s.parcel p).state.declarable = true) : Keeps s (s.declarationChange p x c) :=
  s.changeParcel_keeps p c (.of_moving (ParcelState.moving_of_declarable declarable) (by simp [Parcel.undecided]) rfl rfl rfl)

theorem reqSetParameter_keeps (l : Link) (pl : List Byte) (s : State) : Keeps s (reqSetParameter l pl s).1 := by
  refine withParcel_keeps fun p _ => ?_
  dsimp only
  split
  next declarable =>
    split
    · exact s.declarationChange_keeps p _ _ declarable
    · exact Keeps.refl s
  · exact Keeps.refl s

theorem depthOf_pos (field : Nat) : 1 ≤ depthOf field := by
  unfold depthOf
  split_ifs <;> omega

theorem assignSource_keeps {req : Req} {most : Nat} {ownerOf : State → Nat → Option ParcelNo}
    {draw : State → Nat → ParcelNo → Nat → State} {l : Link} {pl : List Byte} {s : State}
    (draws : ∀ n p d, 1 ≤ d → d ≤ s.poolFree → Keeps s (draw s n p d))
    (parcels : ∀ n p d, (draw s n p d).parcels = s.parcels) :
    Keeps s (assignSource req most ownerOf draw l pl s).1 := by
  refine withParcel_keeps fun p _ => ?_
  dsimp only
  split
  next declarable =>
    split
    · split
      · split <;> exact Keeps.refl s
      · split
        next room =>
          refine (draws _ p _ (depthOf_pos _) room).trans (State.declarationChange_keeps _ p _ _ ?_)
          rwa [State.parcel_congr (parcels _ _ _)]
        · exact Keeps.refl s
    · exact Keeps.refl s
  · exact Keeps.refl s

theorem reqAssignTank_keeps (l : Link) (pl : List Byte) (s : State) : Keeps s (reqAssignTank l pl s).1 :=
  assignSource_keeps (fun n p _ depth room => s.drawTank_keeps n p depth fun _ => room) s.drawTank_parcels

theorem reqAssignMeter_keeps (l : Link) (pl : List Byte) (s : State) : Keeps s (reqAssignMeter l pl s).1 :=
  assignSource_keeps (fun n p _ depth room => s.drawMeter_keeps n p depth fun _ => room) s.drawMeter_parcels

theorem unassignSource_keeps {req : Req} {most : Nat} {ownerOf : State → Nat → Option ParcelNo}
    {giveBack : State → Nat → State} {l : Link} {pl : List Byte} {s : State}
    (gives : ∀ n, Keeps s (giveBack s n)) (parcels : ∀ n, (giveBack s n).parcels = s.parcels) :
    Keeps s (unassignSource req most ownerOf giveBack l pl s).1 := by
  refine withParcel_keeps fun p _ => ?_
  dsimp only
  split
  next declarable =>
    split
    · split
      · refine (gives _).trans (State.declarationChange_keeps _ p _ _ ?_)
        rwa [State.parcel_congr (parcels _)]
      · exact Keeps.refl s
    · exact Keeps.refl s
  · exact Keeps.refl s

theorem reqUnassignTank_keeps (l : Link) (pl : List Byte) (s : State) : Keeps s (reqUnassignTank l pl s).1 :=
  unassignSource_keeps s.returnTank_keeps s.returnTank_parcels

theorem reqUnassignMeter_keeps (l : Link) (pl : List Byte) (s : State) : Keeps s (reqUnassignMeter l pl s).1 :=
  unassignSource_keeps s.returnMeter_keeps s.returnMeter_parcels

/-! ### Basis and opening (R30, R31, R39) -/

theorem State.storeOffer_keeps (s : State) (p : ParcelNo) {r : Parcel} (l : Link)
    (declarable : (s.parcel p).state.declarable = true) (alarm : r.recon.alarm = (s.parcel p).recon.alarm)
    (pending : r.finalizePending = (s.parcel p).finalizePending) (revision : r.revision = (s.parcel p).revision) :
    Keeps s (s.storeOffer p r l).1 := by
  have follows (new : Parcel) (to_ : new.state ≠ .free) (a : new.recon.alarm = r.recon.alarm)
      (f : new.finalizePending = r.finalizePending) (v : new.revision = r.revision) :
      Parcel.Follows s.store.startingUp (s.parcel p) new :=
    .of_moving (ParcelState.moving_of_declarable declarable) to_ (a.trans alarm) (f.trans pending) (v.trans revision)
  simp only [State.storeOffer]
  split
  · dsimp only [State.answerParcel]
    split
    all_goals
      refine Keeps.trans ?_ (State.postAll_keeps _ _)
      exact s.changeParcel_keeps p _ (follows _ (by simp) rfl rfl rfl)
  · exact s.changeParcel_keeps p _ (follows _ (by simp) rfl rfl rfl)

theorem reqOfferBasis_keeps (l : Link) (pl : List Byte) (s : State) : Keeps s (reqOfferBasis l pl s).1 := by
  refine withParcel_keeps fun p _ => ?_
  dsimp only
  split
  next declarable =>
    split
    · split
      · exact s.storeOffer_keeps p _ declarable rfl rfl rfl
      · exact Keeps.refl s
    · split
      · exact s.storeOffer_keeps p _ declarable rfl rfl rfl
      · exact Keeps.refl s
    · exact Keeps.refl s
  · exact Keeps.refl s

theorem State.joinOpen_keeps (s : State) (p : ParcelNo) (l : Link) (agreed : (s.parcel p).state = .basisAgreed) :
    Keeps s (s.joinOpen p l).1 := by
  simp only [State.joinOpen]
  split
  · exact Keeps.refl s
  · split
    · refine Keeps.trans (s.changeParcel_keeps p _ ?_) (State.placeJob_keeps _ _ _)
      exact .of_moving (.inr (.inl agreed)) (by simp) rfl rfl rfl
    · exact s.changeParcel_keeps p _ (.of_moving (.inr (.inl agreed)) (by simp [agreed]) rfl rfl rfl)

theorem reqOpen_keeps (l : Link) (pl : List Byte) (s : State) : Keeps s (reqOpen l pl s).1 := by
  refine withParcel_keeps fun p _ => ?_
  split
  next agreed =>
    split
    · exact Keeps.refl s
    · exact s.joinOpen_keeps p l agreed
  · exact Keeps.refl s

/-! ### Transfer (R11, R13, R18, R19, R123) -/

theorem Parcel.inTransfer_not_free {r : Parcel} (h : r.inTransfer = true) : r.state ≠ .free := fun e => by
  simp [Parcel.inTransfer_iff, e] at h

theorem reqSuspend_keeps (l : Link) (pl : List Byte) (s : State) : Keeps s (reqSuspend l pl s).1 := by
  refine withParcel_keeps fun p _ => ?_
  dsimp only
  split
  next inTransfer => exact s.suspendWith_keeps p _ _ inTransfer
  · exact Keeps.refl s

theorem reqResume_keeps (l : Link) (pl : List Byte) (s : State) : Keeps s (reqResume l pl s).1 := by
  refine withParcel_keeps fun p _ => ?_
  dsimp only
  split
  next inTransfer => exact s.resumeWith_keeps p _ _ _ fun _ => Parcel.inTransfer_not_free inTransfer
  · exact Keeps.refl s

/-- A change within the state and outside what the laws speak of. -/
theorem State.changeParcel_keeps_same (s : State) (p : ParcelNo) {r : Parcel} (c : Cause)
    (notFree : (s.parcel p).state ≠ .free) (state : r.state = (s.parcel p).state) (recon : r.recon.alarm = (s.parcel p).recon.alarm)
    (pending : r.finalizePending = (s.parcel p).finalizePending) (revision : r.revision = (s.parcel p).revision) :
    Keeps s (s.changeParcel p r c) :=
  s.changeParcel_keeps p c (.of_same (fun _ => notFree) state recon pending revision)

theorem Parcel.pattern_congr {r x : Parcel} (state : r.state = x.state) (alarm : r.recon.alarm = x.recon.alarm) :
    r.pattern = x.pattern := by
  simp only [Parcel.pattern, state, alarm]

/-- A record replaced within its state and outside what the laws speak of. -/
theorem State.setParcel_keeps_same (s : State) (p : ParcelNo) {r : Parcel}
    (notFree : (s.parcel p).state ≠ .free) (state : r.state = (s.parcel p).state) (alarm : r.recon.alarm = (s.parcel p).recon.alarm)
    (pending : r.finalizePending = (s.parcel p).finalizePending) (revision : r.revision = (s.parcel p).revision) :
    Keeps s (s.setParcel p r) :=
  s.setParcel_keeps p (.of_same (fun _ => notFree) state alarm pending revision) (Parcel.pattern_congr state alarm)

theorem reqClose_keeps (l : Link) (pl : List Byte) (s : State) : Keeps s (reqClose l pl s).1 := by
  refine withParcel_keeps fun p _ => ?_
  dsimp only
  split
  next inTransfer =>
    split
    · exact s.executeClose_keeps p _ inTransfer
    · exact s.changeParcel_keeps_same p _ (Parcel.inTransfer_not_free inTransfer) rfl rfl rfl rfl
  · exact Keeps.refl s

theorem reqCancelClose_keeps (l : Link) (pl : List Byte) (s : State) : Keeps s (reqCancelClose l pl s).1 := by
  refine withParcel_keeps fun p _ => ?_
  dsimp only
  split
  next reserved =>
    have inTransfer := (Bool.and_eq_true_iff.mp reserved).1
    exact s.changeParcel_keeps_same p _ (Parcel.inTransfer_not_free inTransfer) rfl rfl rfl rfl
  · exact Keeps.refl s

theorem State.restoreGrade_keeps (s : State) (p : ParcelNo) (c : GradeCause) (notFree : (s.parcel p).state ≠ .free) :
    Keeps s (s.restoreGrade p c) := by
  have restored : Keeps s (s.setParcel p { s.parcel p with recon := (s.parcel p).recon.restored }) :=
    s.setParcel_keeps_same p notFree rfl rfl rfl rfl
  simp only [State.restoreGrade]
  split
  · exact restored
  · exact restored.trans (State.postAll_keeps _ _)

theorem reqRestoreGrade_keeps (l : Link) (pl : List Byte) (s : State) : Keeps s (reqRestoreGrade l pl s).1 := by
  refine withParcel_keeps fun p _ => ?_
  dsimp only
  split
  next inTransfer => exact s.restoreGrade_keeps p _ (Parcel.inTransfer_not_free inTransfer)
  · exact Keeps.refl s

/-! ### The return to FREE (R21, R24) -/

/-- A parcel without ALARM and without a finalize pending returns to FREE. -/
theorem State.returnToFree_keeps (s : State) (p : ParcelNo) (c : Cause) (notTransfer : (s.parcel p).inTransfer = false)
    (none_ : (s.parcel p).pendingOk → (s.parcel p).finalizePending = false) : Keeps s (s.returnToFree p c) := by
  refine (s.returnSources_keeps p).trans (State.changeParcel_keeps _ p c ?_)
  rw [State.parcel_returnSources]
  exact {
    law := fun _ => Parcel.lawOk_cleared
    free := fun _ _ _ => rfl
    alarm := fun law => by
      by_contra h
      have := law.2 (by simpa [Parcel.cleared, Recon.cleared] using h)
      rw [notTransfer] at this
      cases this
    pending := fun _ ok => ⟨fun e => (by cases e), (none_ ok).symm⟩
    revision := fun _ n e => by cases e }

theorem reqAbandon_keeps (l : Link) (pl : List Byte) (s : State) : Keeps s (reqAbandon l pl s).1 := by
  refine withParcel_keeps fun p _ => ?_
  split
  next declarable =>
    have state := (ParcelState.declarable_iff _).mp declarable
    refine s.returnToFree_keeps p _ ?_ fun ok => ?_
    · rcases state with e | e <;> simp [Parcel.inTransfer, e]
    · by_contra h
      have := ok (by simpa using h)
      rcases state with e | e <;> simp [e] at this
  · exact Keeps.refl s

theorem ParcelState.ended_iff (x : ParcelState) : x.ended = true ↔ x = .closed ∨ x = .disputed := by
  cases x <;> decide

theorem reqRelease_keeps (l : Link) (pl : List Byte) (s : State) : Keeps s (reqRelease l pl s).1 := by
  refine withParcel_keeps fun p _ => ?_
  dsimp only
  split
  next ended =>
    have state := (ParcelState.ended_iff _).mp ended
    split
    · exact Keeps.refl s
    next none_ =>
      split
      · refine s.returnToFree_keeps p _ ?_ fun _ => by simpa using none_
        rcases state with e | e <;> simp [Parcel.inTransfer, e]
      · refine s.changeParcel_keeps_same p _ ?_ rfl rfl rfl rfl
        rcases state with e | e <;> simp [e]
  · exact Keeps.refl s

/-! ### Closing and agreement (R135, R145 to R149, R22) -/

theorem Parcel.alarm_of_not_transfer {r : Parcel} (notTransfer : r.inTransfer = false) (law : r.lawOk) :
    r.recon.alarm = false := by
  by_contra h
  have := law.2 (by simpa using h)
  rw [notTransfer] at this
  cases this

theorem Parcel.not_transfer_of_awaiting {r : Parcel} (h : r.state = .awaitingAccept) : r.inTransfer = false := by
  simp [Parcel.inTransfer, h]

/-- A parcel in AWAITING_ACCEPT enters its outcome. -/
theorem State.enterOutcome_keeps (s : State) (p : ParcelNo) {r : Parcel} (cause : Option DisputeCause) (ev : Cause)
    (awaiting : (s.parcel p).state = .awaitingAccept) (recon : r.recon.alarm = (s.parcel p).recon.alarm)
    (revision : r.revision = (s.parcel p).revision) : Keeps s (s.enterOutcome p r cause ev) := by
  have normal := Parcel.alarm_of_not_transfer (Parcel.not_transfer_of_awaiting awaiting)
  exact s.enterOutcome_afterAlarm_keeps p cause ev (was := false) (by simp [awaiting, ParcelState.abortable])
    (fun law => recon.trans (normal law)) (fun law => (normal law).symm) revision

theorem State.addAcceptance_keeps (s : State) (p : ParcelNo) (l : Link) (req : Req)
    (awaiting : (s.parcel p).state = .awaitingAccept) : Keeps s (s.addAcceptance p l req) := by
  simp only [State.addAcceptance]
  split
  · exact s.enterOutcome_keeps p _ _ awaiting rfl rfl
  · exact s.setParcel_keeps_same p (by simp [awaiting]) rfl rfl rfl rfl

theorem answerAcceptance_keeps (req : Req) (l : Link) (pl : List Byte) (s : State) :
    Keeps s (answerAcceptance req l pl s).1 := by
  refine withParcel_keeps fun p _ => ?_
  dsimp only
  split
  next awaiting =>
    split
    · exact s.addAcceptance_keeps p l req awaiting
    · exact Keeps.refl s
  · exact Keeps.refl s

theorem reqDispute_keeps (l : Link) (pl : List Byte) (s : State) : Keeps s (reqDispute l pl s).1 := by
  refine withParcel_keeps fun p _ => ?_
  dsimp only
  split
  next awaiting => exact s.enterOutcome_keeps p _ _ awaiting rfl rfl
  · exact Keeps.refl s
  · exact Keeps.refl s

/-- A new revision is called for below the third (R149). -/
theorem State.callRevision_keeps (s : State) (p : ParcelNo) {r : Parcel} (ev : Cause)
    (awaiting : (s.parcel p).state = .awaitingAccept) (below : r.revisionLimit = false)
    (alarm : r.recon.alarm = (s.parcel p).recon.alarm) (pending : r.finalizePending = (s.parcel p).finalizePending) :
    Keeps s (s.callRevision p r ev) := by
  refine (s.changeParcel_keeps p ev ?_).trans (State.placeJob_keeps _ _ _)
  exact {
    law := fun law => by
      have normal := Parcel.alarm_of_not_transfer (Parcel.not_transfer_of_awaiting awaiting) law
      exact ⟨fun e => (by cases e), fun a => absurd (a.symm.trans (alarm.trans normal)) (by simp)⟩
    free := fun _ _ e => by simp [awaiting] at e
    alarm := fun _ => alarm
    pending := fun _ ok => by
      refine ⟨fun e => ?_, pending⟩
      have := ok (pending.symm.trans e)
      simp [awaiting] at this
    revision := fun _ n e => by
      have : r.revision = some n := e
      simp only [Parcel.revisionLimit, this, Option.getD_some, decide_eq_false_iff_not, not_le] at below
      exact ⟨by omega, fun e => by omega⟩ }

theorem reqRegauge_keeps (l : Link) (pl : List Byte) (s : State) : Keeps s (reqRegauge l pl s).1 := by
  refine withParcel_keeps fun p _ => ?_
  dsimp only
  split
  next awaiting =>
    split
    · exact Keeps.refl s
    next below => exact s.callRevision_keeps p _ awaiting (by simpa using below) rfl rfl
  · exact Keeps.refl s
  · exact Keeps.refl s

theorem reqSetLineAdjust_keeps (l : Link) (pl : List Byte) (s : State) : Keeps s (reqSetLineAdjust l pl s).1 := by
  refine withParcel_keeps fun p _ => ?_
  dsimp only
  split
  next state =>
    split
    · exact s.setParcel_keeps_same p (by simp [state]) rfl rfl rfl rfl
    · exact Keeps.refl s
  next state =>
    split
    · exact s.setParcel_keeps_same p (by simp [state]) rfl rfl rfl rfl
    · exact Keeps.refl s
  next awaiting =>
    split
    · split
      · exact Keeps.refl s
      next below => exact s.callRevision_keeps p _ awaiting (by simpa [Parcel.revisionLimit] using below) rfl rfl
    · exact Keeps.refl s
  · exact Keeps.refl s
  · exact Keeps.refl s

theorem State.abortParcel_keeps (s : State) (p : ParcelNo) (l : Link) (abortable : (s.parcel p).state.abortable = true) :
    Keeps s (s.abortParcel p l) := by
  refine (s.cancelJobs_keeps p).trans (State.enterOutcome_afterAlarm_keeps _ p _ _ ?_ (fun _ => rfl) (fun _ => ?_) ?_)
  all_goals rw [State.parcel_cancelJobs]
  · exact abortable
  · rfl

theorem reqAbort_keeps (l : Link) (pl : List Byte) (s : State) : Keeps s (reqAbort l pl s).1 := by
  refine withParcel_keeps fun p _ => ?_
  split
  next abortable => exact s.abortParcel_keeps p l abortable
  · exact Keeps.refl s

/-! ### Readings (R45) -/

theorem reqTankReading_keeps (l : Link) (pl : List Byte) (s : State) : Keeps s (reqTankReading l pl s).1 := by
  unfold reqTankReading
  split
  · exact Keeps.refl s
  · split
    · exact State.takeTankFrame_keeps _ _ s
    · exact Keeps.refl s

theorem reqMeterReading_keeps (l : Link) (pl : List Byte) (s : State) : Keeps s (reqMeterReading l pl s).1 := by
  unfold reqMeterReading
  split
  · exact Keeps.refl s
  · split
    · exact State.takeMeterFrame_keeps _ _ s
    · exact Keeps.refl s

theorem reqAttitudeReading_keeps (l : Link) (pl : List Byte) (s : State) : Keeps s (reqAttitudeReading l pl s).1 := by
  unfold reqAttitudeReading
  split
  · exact Keeps.refl s
  · split
    · split
      · exact keeps_of_sources rfl fun fits => ⟨fits.1, fits.2.1, fits.2.2.1, pushRing_length_le _ _ _⟩
      · exact Keeps.refl s
    · exact Keeps.refl s

/-! ### The store (R170, R176 to R179, R187) -/

theorem State.setStaging_keeps (s : State) (l : Link) (x : Option Staging) : Keeps s (s.setStaging l x) :=
  s.setLink_keeps l (Nat.le_refl _) id

theorem reqTableBegin_keeps (l : Link) (pl : List Byte) (s : State) : Keeps s (reqTableBegin l pl s).1 := by
  refine withStore_keeps fun _ => ?_
  dsimp only
  split
  · exact s.setStaging_keeps _ _
  · exact Keeps.refl s

theorem reqTableData_keeps (l : Link) (pl : List Byte) (s : State) : Keeps s (reqTableData l pl s).1 := by
  refine withStore_keeps fun _ => ?_
  split
  · exact Keeps.refl s
  · dsimp only
    split
    · exact s.setStaging_keeps _ _
    · exact Keeps.refl s

theorem State.commitFault_none {s : State} {l : Link} {g : Staging} {check : Word16}
    (h : s.commitFault l g check = none) : s.store.commitsFull = false := by
  unfold State.commitFault at h
  dsimp only at h
  split_ifs at h with _ _ _ _ _ full
  · split at h <;> cases h
  · exact Bool.eq_false_iff.mpr full

theorem reqTableCommit_keeps (l : Link) (pl : List Byte) (s : State) : Keeps s (reqTableCommit l pl s).1 := by
  refine withStore_keeps fun _ => ?_
  split
  · exact Keeps.refl s
  · dsimp only
    split
    · dsimp only
      split
      · exact Keeps.refl s
      · exact s.setStaging_keeps _ _
    next none_ =>
      refine (s.setStaging_keeps l none).trans (State.placeCommit_keeps _ _ _ _ _ _ ?_)
      simpa [State.setStaging] using State.commitFault_none none_

theorem answerLock_keeps (b : Bool) (pl : List Byte) (s : State) : Keeps s (answerLock b pl s).1 := by
  refine withStore_keeps fun _ => ?_
  dsimp only
  split
  · exact s.setStore_keeps_content (by simp) (by simp) (by simp) (by simp)
  · exact Keeps.refl s

theorem reqClearHistory_keeps (l : Link) (pl : List Byte) (s : State) : Keeps s (reqClearHistory l pl s).1 := by
  refine withStore_keeps fun _ => ?_
  split
  · exact Keeps.refl s
  · dsimp only
    split
    · exact Keeps.refl s
    · split
      · exact Keeps.refl s
      · split
        · exact Keeps.refl s
        next free =>
          have free := (Bool.or_eq_false_iff.mp (by simpa using free)).2
          exact s.placeCommit_keeps _ _ _ _ _ free

theorem reqVerifyStore_keeps (l : Link) (pl : List Byte) (s : State) : Keeps s (reqVerifyStore l pl s).1 :=
  withStore_keeps fun _ => s.setVerify_keeps (by simp)

/-! ### Reads, STATUS, SILENCE_ALARM and SET_CALENDAR (R200, R203, R205, R210) -/

theorem State.servePage_keeps (s : State) (l : Link) (kind : ReadKind) (target page : Nat) (reply : List Byte) :
    Keeps s (s.servePage l kind target page reply).1 := by
  unfold State.servePage
  split
  · exact Keeps.refl s
  · split
    · exact s.setLink_keeps l (Nat.le_refl _) id
    · split
      · split
        · split <;> exact Keeps.refl s
        · exact Keeps.refl s
      · exact Keeps.refl s

theorem reqReadParcel_keeps (l : Link) (pl : List Byte) (s : State) : Keeps s (reqReadParcel l pl s).1 := by
  unfold reqReadParcel
  split
  · split
    · exact s.servePage_keeps _ _ _ _ _
    · exact Keeps.refl s
  · exact Keeps.refl s

theorem reqReadTable_keeps (l : Link) (pl : List Byte) (s : State) : Keeps s (reqReadTable l pl s).1 := by
  refine withStore_keeps fun _ => ?_
  dsimp only
  split
  · split
    · exact Keeps.refl s
    · exact s.servePage_keeps _ _ _ _ _
  · exact Keeps.refl s

theorem reqReadRecord_keeps (l : Link) (pl : List Byte) (s : State) : Keeps s (reqReadRecord l pl s).1 := by
  refine withStore_keeps fun _ => ?_
  split
  · exact s.servePage_keeps _ _ _ _ _
  · exact Keeps.refl s

theorem reqStatus_keeps (l : Link) (pl : List Byte) (s : State) : Keeps s (reqStatus l pl s).1 := by
  unfold reqStatus
  split
  · exact s.setLink_keeps l (Nat.le_refl _) id
  · exact Keeps.refl s

/-- A change of the alarm output that meets its law (R209, R210). -/
theorem State.setLines_keeps_alarm (s : State) {x : Lines} (lamps : x.lamps = s.lines.lamps)
    (alarm : s.lawful → (s.setLines x).alarmLaw) : Keeps s (s.setLines x) where
  clock := rfl
  msec := rfl
  pending := rfl
  bounded := id
  laws h := ⟨h.1, h.2.1, h.2.2.1, alarm h, fun p => by
    have := h.2.2.2.2 p
    simpa [Lines.lamp, lamps] using this⟩
  queue _ := id
  revision := id
  rings := id
  responses l := by rw [State.link_setLines]

theorem State.silenced_keeps (s : State) : Keeps s s.silenced := by
  unfold State.silenced
  split
  · exact s.setLines_keeps_alarm rfl fun _ => by simp [State.alarmLaw]
  · exact Keeps.refl s

theorem reqSilenceAlarm_keeps (l : Link) (pl : List Byte) (s : State) : Keeps s (reqSilenceAlarm l pl s).1 := by
  unfold reqSilenceAlarm
  split
  · exact s.silenced_keeps
  · exact Keeps.refl s

theorem reqSetCalendar_keeps (l : Link) (pl : List Byte) (s : State) : Keeps s (reqSetCalendar l pl s).1 := by
  unfold reqSetCalendar
  split
  · exact SameRest.keeps_aside ⟨⟨⟨rfl, rfl, rfl⟩, rfl, rfl, rfl, rfl, Nat.le_refl _,
      fun l => by cases l <;> exact Nat.le_refl _, fun l => by cases l <;> exact id⟩, rfl, rfl⟩ rfl (fun _ => rfl) ⟨rfl, rfl⟩
  · exact Keeps.refl s

/-! ### All requests -/

/-- What the owning block of any request does keeps the limits and laws of the part. -/
theorem Req.body_keeps (r : Req) (l : Link) (pl : List Byte) (s : State) : Keeps s (r.body l pl s).1 :=
  match r with
  | .declare => reqDeclare_keeps l pl s
  | .setParameter => reqSetParameter_keeps l pl s
  | .assignTank => reqAssignTank_keeps l pl s
  | .unassignTank => reqUnassignTank_keeps l pl s
  | .assignMeter => reqAssignMeter_keeps l pl s
  | .unassignMeter => reqUnassignMeter_keeps l pl s
  | .offerBasis => reqOfferBasis_keeps l pl s
  | .openParcel => reqOpen_keeps l pl s
  | .suspend => reqSuspend_keeps l pl s
  | .resume => reqResume_keeps l pl s
  | .close => reqClose_keeps l pl s
  | .cancelClose => reqCancelClose_keeps l pl s
  | .regauge => reqRegauge_keeps l pl s
  | .accept => answerAcceptance_keeps .accept l pl s
  | .dispute => reqDispute_keeps l pl s
  | .setLineAdjust => reqSetLineAdjust_keeps l pl s
  | .witness => answerAcceptance_keeps .witness l pl s
  | .abort => reqAbort_keeps l pl s
  | .restoreGrade => reqRestoreGrade_keeps l pl s
  | .release => reqRelease_keeps l pl s
  | .abandon => reqAbandon_keeps l pl s
  | .readParcel => reqReadParcel_keeps l pl s
  | .tankReading => reqTankReading_keeps l pl s
  | .attitudeReading => reqAttitudeReading_keeps l pl s
  | .meterReading => reqMeterReading_keeps l pl s
  | .tableBegin => reqTableBegin_keeps l pl s
  | .tableData => reqTableData_keeps l pl s
  | .tableCommit => reqTableCommit_keeps l pl s
  | .readTable => reqReadTable_keeps l pl s
  | .lockTable => answerLock_keeps true pl s
  | .unlockTable => answerLock_keeps false pl s
  | .verifyStore => reqVerifyStore_keeps l pl s
  | .clearHistory => reqClearHistory_keeps l pl s
  | .readRecord => reqReadRecord_keeps l pl s
  | .status => reqStatus_keeps l pl s
  | .silenceAlarm => reqSilenceAlarm_keeps l pl s
  | .setCalendar => reqSetCalendar_keeps l pl s

end Sys2Proof.Machine
end

section
/-!
PROOFS. The frames taken from a link, the links' own commands and the completions of the engine's jobs keep the limits and
laws of the part.
-/

namespace Sys2Proof.Machine

/-! ### What every command but the end of start-up keeps -/

/-- What a command keeps: the time, the limits and laws, and the rings. A response list may grow by the command's own
response. -/
structure Stays (s t : State) : Prop extends SameTime s t, Upholds s t where
  rings : s.ringsFit → t.ringsFit

theorem Keeps.stays {s t : State} (h : Keeps s t) : Stays s t := ⟨h.toSameTime, h.toUpholds, h.rings⟩

theorem Stays.refl (s : State) : Stays s s := (Keeps.refl s).stays

theorem Stays.trans {s t u : State} (h : Stays s t) (g : Stays t u) : Stays s u :=
  ⟨h.toSameTime.trans g.toSameTime, h.toUpholds.trans g.toUpholds, g.rings ∘ h.rings⟩

theorem OnlyLinks.stays {s t : State} (h : OnlyLinks s t) (bounded : s.bounded → t.bounded) : Stays s t where
  clock := by rw [h]
  msec := by rw [h]
  pending := by rw [h]
  bounded := bounded
  laws l := by rw [h]; exact l
  queue _ q := by rw [h]; exact q
  revision r := by rw [h]; exact r
  rings r := by rw [h]; exact r

/-! ### Frames (R193, R195) -/

/-- A response joins a list that has room for it (R190, R195). -/
theorem State.respond_stays (s : State) (l : Link) (tag : Byte) (r : Reply) (room : (s.link l).responses.length < 8) :
    Stays s (s.respond l tag r) := by
  unfold State.respond
  refine (s.setLink_onlyLinks l _).stays fun b => ?_
  rw [State.bounded_iff] at *
  refine ⟨fun m => ?_, by simpa using b.2⟩
  rw [State.link_setLink]
  split
  · exact ⟨by simpa using room, (b.1 l).2⟩
  · exact b.1 m

theorem State.takeFrame_stays (s : State) (l : Link) (tag : Byte) {answer : State → State × Reply}
    (answers : Keeps (s.hunt l) (answer (s.hunt l)).1) : Stays s (s.takeFrame l tag answer) := by
  unfold State.takeFrame
  split
  · exact Stays.refl s
  · split
    · exact (s.hunt_keeps l).stays
    next few =>
      have kept := (s.hunt_keeps l).trans answers
      have room := kept.responses l
      refine (kept.stays.trans (State.respond_stays _ l tag _ ?_)).trans (State.transmitAll_keeps _).stays
      omega

theorem examine_keeps (r : Req) (l : Link) (pl : List Byte) (s : State) : Keeps s (examine r r.body l pl s).1 := by
  unfold examine
  split
  · exact r.body_keeps l pl s
  · exact Keeps.refl s

theorem serve_stays (r : Req) (l : Link) (tag : Byte) (pl : List Byte) (s : State) : Stays s (serve r r.body l tag pl s) :=
  s.takeFrame_stays l tag (examine_keeps r l pl _)

theorem answerFrame_keeps (kind : Byte) (l : Link) (pl : List Byte) (s : State) : Keeps s (answerFrame kind l pl s).1 := by
  unfold answerFrame
  split
  · exact examine_keeps _ l pl s
  · exact Keeps.refl s

theorem State.takeUnknown_stays (s : State) (l : Link) (kind tag : Byte) (pl : List Byte) :
    Stays s (s.takeUnknown l kind tag pl) := by
  unfold State.takeUnknown
  split
  · exact s.takeFrame_stays l tag (Keeps.refl _)
  · exact Stays.refl s

theorem State.takeByte_stays (s : State) (l : Link) (b : Byte) : Stays s (s.takeByte l b) := by
  simp only [State.takeByte]
  split
  · exact Stays.refl s
  · have framed (f : Framer) : Keeps s (s.setLink l { s.link l with framer := f, lastByte := s.msec }) :=
      s.setLink_keeps l (Nat.le_refl _) id
    split
    · exact (framed _).stays
    · exact (framed _).stays.trans (State.takeFrame_stays _ l _ (answerFrame_keeps _ l _ _))

theorem State.discardFrame_keeps (s : State) (l : Link) : Keeps s (s.discardFrame l) := by
  unfold State.discardFrame
  split
  · exact s.hunt_keeps l
  · exact Keeps.refl s

theorem State.discardAtGap_keeps (s : State) (l : Link) : Keeps s (s.discardAtGap l) := by
  unfold State.discardAtGap
  split
  · exact s.hunt_keeps l
  · exact Keeps.refl s

theorem State.discardFull_keeps (s : State) (l : Link) : Keeps s (s.discardFull l) := by
  unfold State.discardFull
  split
  · exact s.hunt_keeps l
  · exact Keeps.refl s

/-! ### The transmitter and the break (R194, R199) -/

theorem LinkState.sent_responses (k : LinkState) : k.sent.responses.length ≤ k.responses.length := by
  unfold LinkState.sent
  split
  · rw [LinkState.transmit_responses]
    simp
  · rw [LinkState.transmit_responses]
  · exact Nat.le_refl _

theorem LinkState.sent_notices (k : LinkState) : k.sent.notices.length ≤ k.notices.length := by
  unfold LinkState.sent
  split
  · exact LinkState.transmit_notices _
  · exact LinkState.transmit_notices _
  · exact Nat.le_refl _

theorem State.frameSent_keeps (s : State) (l : Link) : Keeps s (s.setLink l (s.link l).sent) :=
  s.setLink_keeps l (LinkState.sent_responses _) (LinkState.sent_notices _).trans

theorem State.linkBreak_keeps (s : State) (l : Link) : Keeps s (s.setLink l (s.link l).break_) :=
  s.setLink_keeps l (Nat.zero_le _) fun _ => Nat.zero_le _

theorem State.linkBreakEnd_keeps (s : State) (l : Link) : Keeps s (s.setLink l (s.link l).breakEnd) := by
  refine s.setLink_keeps l ?_ ?_ <;> unfold LinkState.breakEnd <;> split
  · exact Nat.le_refl _
  · exact Nat.le_refl _
  · exact id
  · exact id

/-! ### The jobs of the engine (R102, R106, R107) -/

theorem State.startJob_keeps (s : State) : Keeps s s.startJob := by
  unfold State.startJob
  split
  · exact s.setEngine_keeps _
  · exact Keeps.refl s

theorem Parcel.opened_state (r : Parcel) (o : OpeningFigures) (esd : Bool) (now : Instant) :
    (r.opened o esd now).state = .transferring ∨ (r.opened o esd now).state = .suspended := by
  cases esd
  · exact .inl rfl
  · exact .inr rfl

theorem Parcel.opened_alarm (r : Parcel) (o : OpeningFigures) (esd : Bool) (now : Instant) :
    (r.opened o esd now).recon.alarm = r.recon.alarm := by
  cases esd <;> rfl

theorem Parcel.opened_pending (r : Parcel) (o : OpeningFigures) (esd : Bool) (now : Instant) :
    (r.opened o esd now).finalizePending = r.finalizePending := by
  cases esd <;> rfl

theorem Parcel.opened_revision (r : Parcel) (o : OpeningFigures) (esd : Bool) (now : Instant) :
    (r.opened o esd now).revision = r.revision := by
  cases esd <;> rfl

theorem Parcel.not_free_of_transfer {r : Parcel} (h : r.state = .transferring ∨ r.state = .suspended) : r.state ≠ .free :=
  fun e => by simp [e] at h

theorem State.finishOpen_keeps (s : State) (j : RunningJob) (opening : (s.parcel j.parcel).state = .opening) :
    Keeps s (s.finishOpen j) := by
  refine (s.changeParcel_keeps j.parcel _ ?_).trans (State.requestCheckpoint_keeps _ _)
  exact .of_moving (.inr (.inr (.inl opening))) (Parcel.not_free_of_transfer (Parcel.opened_state ..))
    (Parcel.opened_alarm ..) (Parcel.opened_pending ..) (Parcel.opened_revision ..)

theorem State.completeOpen_keeps (s : State) : Keeps s s.completeOpen := by
  unfold State.completeOpen
  split
  · split
    next h =>
      exact (s.engineIdle_keeps.trans (State.finishOpen_keeps _ _ (by simpa using h.2.2))).trans (State.transmitAll_keeps _)
    · exact Keeps.refl s
  · exact Keeps.refl s

theorem State.failOpen_keeps (s : State) (j : RunningJob) (opening : (s.parcel j.parcel).state = .opening) :
    Keeps s (s.failOpen j) := by
  refine Keeps.trans ?_ (State.postAll_keeps _ _)
  exact s.changeParcel_keeps j.parcel _ (.of_moving (.inr (.inr (.inl opening))) (by simp) rfl rfl rfl)

theorem State.completeOpenFailed_keeps (s : State) : Keeps s s.completeOpenFailed := by
  unfold State.completeOpenFailed
  split
  · split
    next h =>
      exact (s.engineIdle_keeps.trans (State.failOpen_keeps _ _ (by simpa using h.2.2))).trans (State.transmitAll_keeps _)
    · exact Keeps.refl s
  · exact Keeps.refl s

/-! ### A cycle applied (R106, R113) -/

theorem State.relamp_lamp_same (s : State) (p : ParcelNo) : ((s.relamp p).lines.lamp p).pattern = (s.parcel p).pattern := by
  simp only [State.relamp]
  split
  next e => exact e.symm
  · simp

theorem State.relamp_lamp_ne (s : State) {p q : ParcelNo} (h : q ≠ p) : (s.relamp p).lines.lamp q = s.lines.lamp q := by
  simp only [State.relamp]
  split
  · rfl
  · simp [Lines.lamp_setLamp_ne _ h]

theorem State.alarmMoved_cases (s : State) (before after : Bool) :
    s.alarmMoved before after = s ∨ s.alarmMoved before after = s.alarmRaised ∨ s.alarmMoved before after = s.alarmFell := by
  unfold State.alarmMoved
  split
  · exact .inr (.inl rfl)
  · split
    · exact .inr (.inr rfl)
    · exact .inl rfl

theorem State.alarmFell_lamps (s : State) : s.alarmFell.lines.lamps = s.lines.lamps := by
  unfold State.alarmFell
  split <;> rfl

theorem State.alarmMoved_lamp (s : State) (before after : Bool) (q : ParcelNo) :
    (s.alarmMoved before after).lines.lamp q = s.lines.lamp q := by
  rcases s.alarmMoved_cases before after with e | e | e <;> rw [e]
  · rfl
  · simp only [Lines.lamp, State.alarmFell_lamps]

theorem State.parcel_alarmMoved (s : State) (before after : Bool) (q : ParcelNo) :
    (s.alarmMoved before after).parcel q = s.parcel q := by
  rcases s.alarmMoved_cases before after with e | e | e <;> simp [e]

theorem State.alarmMoved_sameRest (s : State) (before after : Bool) : SameRest s (s.alarmMoved before after) := by
  rcases s.alarmMoved_cases before after with e | e | e
  · rw [e]
    exact ⟨⟨SameTime.refl s, rfl, rfl, rfl, rfl, Nat.le_refl _, fun _ => Nat.le_refl _, fun _ => id⟩, rfl, rfl⟩
  · rw [e]
    exact ⟨⟨⟨by simp, by simp, by simp⟩, by simp, by simp, by simp, by simp, by simp, by simp, by simp⟩, by simp, by simp⟩
  · rw [e]
    exact State.afterAlarm_sameRest s true

/-- The alarm output follows the alarm state of the one parcel that moved (R209). -/
theorem State.alarmMoved_law {s t : State} {p : ParcelNo} (law : s.alarmLaw) (lines : t.lines = s.lines)
    (others : ∀ q, q ≠ p → t.parcel q = s.parcel q) :
    (t.alarmMoved (s.parcel p).recon.alarm (t.parcel p).recon.alarm).alarmLaw := by
  cases after : (t.parcel p).recon.alarm with
  | true =>
    have any : t.anyAlarm = true := t.anyAlarm_iff.mpr ⟨p, after⟩
    cases before : (s.parcel p).recon.alarm with
    | true =>
      have was : s.anyAlarm = true := s.anyAlarm_iff.mpr ⟨p, before⟩
      simpa [State.alarmMoved, State.alarmLaw, any, was, lines] using law
    | false =>
      have any : t.alarmRaised.anyAlarm = true := State.anyAlarm_iff _ |>.mpr ⟨p, by simpa using after⟩
      unfold State.alarmLaw
      simp only [State.alarmMoved, Bool.not_false, Bool.and_self, if_true, any]
      rfl
  | false =>
    have moved := alarmLaw_afterAlarm (t := t) (p := p) law ⟨by rw [lines], by rw [lines]⟩ after others
    cases before : (s.parcel p).recon.alarm <;> rw [before] at moved <;> exact moved

theorem gradeAfter_alarm (x : Params) (o : CycleOutcome) (r : Recon) : (gradeAfter x o r).alarm = r.alarm := by
  unfold gradeAfter
  split
  · split_ifs <;> rfl
  all_goals rfl

theorem State.cycleCheckpoint_keeps (s : State) (p : ParcelNo) : Keeps s (s.cycleCheckpoint p) := by
  simp only [State.cycleCheckpoint]
  split
  · exact s.requestCheckpoint_keeps p
  · exact Keeps.refl s

theorem State.cycleNotices_keeps (s : State) (p : ParcelNo) (old new : Parcel) (lc : LatestCycle) :
    Keeps s (s.cycleNotices p old new lc) := by
  simp only [State.cycleNotices]
  have first := s.postAll_keeps (.cycleResult p lc new.recon.grade new.recon.indeterminate new.recon.downFrom1
    new.recon.downFrom2 new.recon.alarm new.recon.divergent new.recon.clear old.overrun)
  split
  · split
    · exact first
    · exact first.trans (State.postAll_keeps _ _)
  · split
    · exact first.trans (State.postAll_keeps _ _)
    · exact (first.trans (State.postAll_keeps _ _)).trans (State.postAll_keeps _ _)

theorem State.pulse_keeps (s : State) (p : ParcelNo) : Keeps s (s.pulse p) := by
  refine s.setLines_keeps (fun q => ?_) rfl rfl
  by_cases e : q = p
  · subst e
    simp
  · rw [Lines.lamp_setLamp_ne _ e]

/-- The record, the alarm output and the lamp of an applied cycle. -/
def State.judged (s : State) (p : ParcelNo) (r : Parcel) : State :=
  ((s.setParcel p r).alarmMoved (s.parcel p).recon.alarm r.recon.alarm).relamp p

theorem State.parcel_judged (s : State) (p : ParcelNo) (r : Parcel) (q : ParcelNo) :
    (s.judged p r).parcel q = if q = p then r else s.parcel q := by
  rw [State.judged, State.parcel_relamp, State.parcel_alarmMoved, State.parcel_setParcel]

theorem State.relamp_sameRest (s : State) (p : ParcelNo) : SameRest s (s.relamp p) :=
  ⟨⟨⟨by simp, by simp, by simp⟩, by simp, by simp, by simp, by simp, by simp, by simp, by simp⟩, by simp, by simp⟩

theorem State.setParcel_sameRest (s : State) (p : ParcelNo) (r : Parcel) : SameRest s (s.setParcel p r) :=
  ⟨⟨⟨rfl, rfl, rfl⟩, rfl, rfl, rfl, rfl, Nat.le_refl _, by simp, by simp⟩, rfl, rfl⟩

theorem State.relamp_alarmOut (s : State) (p : ParcelNo) :
    (s.relamp p).lines.alarmOut = s.lines.alarmOut ∧ (s.relamp p).lines.silence = s.lines.silence := by
  simp only [State.relamp]
  split <;> exact ⟨rfl, rfl⟩

theorem State.judged_keeps (s : State) (p : ParcelNo) {r : Parcel} (from_ : (s.parcel p).state = .transferring)
    (state : r.state = (s.parcel p).state) (pending : r.finalizePending = (s.parcel p).finalizePending)
    (revision : r.revision = (s.parcel p).revision) : Keeps s (s.judged p r) := by
  have same : SameRest s (s.judged p r) :=
    ((s.setParcel_sameRest p r).trans (State.alarmMoved_sameRest _ _ _)).trans (State.relamp_sameRest _ p)
  have lamp (q : ParcelNo) : ((s.setParcel p r).alarmMoved (s.parcel p).recon.alarm r.recon.alarm).lines.lamp q
      = s.lines.lamp q := by rw [State.alarmMoved_lamp]; rfl
  refine same.keeps_record (s.parcel_judged p r) (fun q lit => ?lamps) (fun _ e => ?free_) (fun _ => ?law)
    (fun ok n e => ?revision) (fun l => ?alarm) (fun _ => same.queueFits_record (s.parcel_judged p r) fun ok => ?pending)
  case free_ => simp [from_] at e
  case law => exact ⟨fun e => by simp [state, from_] at e, fun _ => by simp [Parcel.inTransfer, state, from_]⟩
  case revision => rw [state]; exact ok n (revision.symm.trans e)
  case pending => exact ⟨fun e => by rw [state]; exact ok (pending.symm.trans e), pending⟩
  case lamps =>
    by_cases e : q = p
    · subst e
      rw [State.judged, State.relamp_lamp_same, State.parcel_relamp]
    · rw [State.judged, State.relamp_lamp_ne _ e, lamp, State.parcel_relamp, State.parcel_alarmMoved, State.parcel_setParcel,
        if_neg e, lit]
  case alarm =>
    have law := State.alarmMoved_law (t := s.setParcel p r) (p := p) l.2.2.2.1 rfl fun q e => by
      rw [State.parcel_setParcel, if_neg e]
    rw [State.parcel_setParcel, if_pos rfl] at law
    unfold State.alarmLaw at *
    obtain ⟨output, latch⟩ := State.relamp_alarmOut
      ((s.setParcel p r).alarmMoved (s.parcel p).recon.alarm r.recon.alarm) p
    rw [State.judged, output, latch, law, State.anyAlarm_congr fun q => by rw [State.parcel_relamp]]

/-- The judgement of the latest cycle of a job's copy. -/
def State.judgement (s : State) (j : RunningJob) : LatestCycle :=
  latestCycleOf j.copy (j.copy.basis.getD default) j.start (s.parcel j.parcel).params (s.parcel j.parcel).recon.grade
    ((s.parcel j.parcel).cycle + 1)

theorem State.applyCycle_eq (s : State) (j : RunningJob) :
    s.applyCycle j =
      (((s.judged j.parcel ((s.parcel j.parcel).afterCycle (s.judgement j))).cycleCheckpoint j.parcel).cycleNotices j.parcel
        (s.parcel j.parcel) ((s.parcel j.parcel).afterCycle (s.judgement j)) (s.judgement j)).pulse j.parcel := rfl

theorem State.applyCycle_keeps (s : State) (j : RunningJob) (from_ : (s.parcel j.parcel).state = .transferring) :
    Keeps s (s.applyCycle j) := by
  rw [State.applyCycle_eq]
  generalize s.judgement j = lc
  have judged : Keeps s (s.judged j.parcel ((s.parcel j.parcel).afterCycle lc)) := s.judged_keeps _ from_ rfl rfl rfl
  exact ((judged.trans (State.cycleCheckpoint_keeps _ _)).trans (State.cycleNotices_keeps _ _ _ _ _)).trans
    (State.pulse_keeps _ _)

theorem State.completeCycle_keeps (s : State) : Keeps s s.completeCycle := by
  unfold State.completeCycle
  split
  · split
    · split
      next h =>
        exact (s.engineIdle_keeps.trans (State.applyCycle_keeps _ _ (by simpa using h.2))).trans (State.transmitAll_keeps _)
      · exact s.engineIdle_keeps
    · exact Keeps.refl s
  · exact Keeps.refl s

/-! ### A revision published, or the CLOSE failed (R141, R143) -/

/-- A record with its next revision published (R141). -/
def Parcel.published (r : Parcel) (f : ClosingFigures) (expiry : Instant) : Parcel :=
  { r with
    revision := some r.nextRevision
    closing := some f
    run := runOf f.meters
    acceptance := AcceptSet.empty
    acceptTimer := some expiry
    state := .awaitingAccept }

theorem State.publish_eq (s : State) (j : RunningJob) :
    s.publish j =
      (s.changeParcel j.parcel ((s.parcel j.parcel).published
        (closingOf j.copy (j.copy.basis.getD default) j.start (s.parcel j.parcel).params (s.parcel j.parcel).nextRevision)
        (s.clock + tenths (s.parcel j.parcel).params.acceptWindow)) .closeDone).postAll
      (.figures j.parcel
        (closingOf j.copy (j.copy.basis.getD default) j.start (s.parcel j.parcel).params (s.parcel j.parcel).nextRevision)
        (s.parcel j.parcel).required (s.clock + tenths (s.parcel j.parcel).params.acceptWindow)) := rfl

theorem Parcel.Follows.published {starting : Bool} {r : Parcel} (closing : r.state = .closing) (f : ClosingFigures)
    (expiry : Instant) : Parcel.Follows starting r (r.published f expiry) where
  law law := by
    have normal := Parcel.alarm_of_not_transfer (by simp [Parcel.inTransfer, closing]) law
    exact ⟨fun e => (by cases e), fun a => absurd (a.symm.trans normal) (by simp)⟩
  free _ _ e := by simp [closing] at e
  alarm _ := rfl
  pending _ ok := ⟨fun e => (by have := ok e; simp [closing] at this), rfl⟩
  revision ok n e := by
    refine ⟨?_, fun _ => .inl rfl⟩
    obtain rfl := Option.some.inj e
    cases held : r.revision with
    | none => simp [Parcel.nextRevision, held]
    | some k =>
      obtain ⟨most, last⟩ := ok k held
      have : k ≠ 3 := fun e => by have := last e; simp [closing] at this
      simp only [Parcel.nextRevision, held]
      omega

theorem State.publish_keeps (s : State) (j : RunningJob) (closing : (s.parcel j.parcel).state = .closing) :
    Keeps s (s.publish j) := by
  rw [State.publish_eq]
  exact (s.changeParcel_keeps j.parcel _ (.published closing _ _)).trans (State.postAll_keeps _ _)

theorem State.completeClose_keeps (s : State) : Keeps s s.completeClose := by
  unfold State.completeClose
  split
  · split
    next h =>
      exact (s.engineIdle_keeps.trans (State.publish_keeps _ _ (by simpa using h.2.2))).trans (State.transmitAll_keeps _)
    · exact Keeps.refl s
  · exact Keeps.refl s

theorem Parcel.afterCloseFailure_cases (r : Parcel) (esd : Bool) (now : Instant) :
    ∃ x : Parcel, (r.afterCloseFailure esd now = x.toTransferring now ∨ r.afterCloseFailure esd now = x.toSuspended)
      ∧ x.recon = r.recon ∧ x.finalizePending = r.finalizePending ∧ x.revision = r.revision := by
  simp only [Parcel.afterCloseFailure]
  split
  · exact ⟨_, .inr rfl, rfl, rfl, rfl⟩
  · split
    · exact ⟨_, .inl rfl, rfl, rfl, rfl⟩
    · split
      · exact ⟨_, .inl rfl, rfl, rfl, rfl⟩
      · exact ⟨_, .inr rfl, rfl, rfl, rfl⟩

theorem Parcel.Follows.afterCloseFailure {starting : Bool} {r : Parcel} (closing : r.state = .closing) (esd : Bool)
    (now : Instant) : Parcel.Follows starting r (r.afterCloseFailure esd now) := by
  obtain ⟨x, e | e, recon, pending, revision⟩ := r.afterCloseFailure_cases esd now <;> rw [e]
  · exact .of_moving (.inr (.inr (.inr closing))) (by simp [Parcel.toTransferring]) (congrArg (·.alarm) recon) pending revision
  · exact .of_moving (.inr (.inr (.inr closing))) (by simp [Parcel.toSuspended]) (congrArg (·.alarm) recon) pending revision

theorem State.failClose_keeps (s : State) (j : RunningJob) (closing : (s.parcel j.parcel).state = .closing) :
    Keeps s (s.failClose j) := by
  refine Keeps.trans ?_ (State.postAll_keeps _ _)
  have changed := s.changeParcel_keeps j.parcel .closeFailed (.afterCloseFailure closing s.lines.esd.level s.clock)
  split
  · exact changed.trans (State.requestCheckpoint_keeps _ _)
  · exact changed

theorem State.completeCloseFailed_keeps (s : State) : Keeps s s.completeCloseFailed := by
  unfold State.completeCloseFailed
  split
  · split
    next h =>
      exact (s.engineIdle_keeps.trans (State.failClose_keeps _ _ (by simpa using h.2.2))).trans (State.transmitAll_keeps _)
    · exact Keeps.refl s
  · exact Keeps.refl s

/-! ### Marks, timers and lamps (R17, R110, R144, R212) -/

theorem State.reachSettleMark_keeps (s : State) (p : ParcelNo) : Keeps s (s.reachSettleMark p) := by
  simp only [State.reachSettleMark]
  split
  next h =>
    have inTransfer : (s.parcel p).inTransfer = true := by
      simp only [Bool.and_eq_true] at h
      exact h.1.1
    have spent : Keeps s (s.setParcel p { s.parcel p with settleArmed := false }) :=
      s.setParcel_keeps_same p (Parcel.inTransfer_not_free inTransfer) rfl rfl rfl rfl
    split
    · exact spent
    · refine (spent.trans (State.executeClose_keeps _ p _ ?_)).trans (State.transmitAll_keeps _)
      rw [State.parcel_setParcel, if_pos rfl]
      exact inTransfer
  · exact Keeps.refl s

theorem State.reachRestoreMark_keeps (s : State) (p : ParcelNo) : Keeps s (s.reachRestoreMark p) := by
  simp only [State.reachRestoreMark]
  split
  next h =>
    have inTransfer : (s.parcel p).inTransfer = true := by
      simp only [Bool.and_eq_true] at h
      exact h.1.1
    have notFree := Parcel.inTransfer_not_free inTransfer
    refine ((s.setParcel_keeps_same p (r := { s.parcel p with restoreArmed := false }) notFree rfl rfl rfl rfl).trans
      (State.restoreGrade_keeps _ p _ ?_)).trans (State.transmitAll_keeps _)
    rw [State.parcel_setParcel, if_pos rfl]
    exact notFree
  · exact Keeps.refl s

theorem State.expireCycleTimer_keeps (s : State) (p : ParcelNo) : Keeps s (s.expireCycleTimer p) := by
  simp only [State.expireCycleTimer]
  split
  next h =>
    have notFree : (s.parcel p).state ≠ .free := by
      simp only [Parcel.cycleDue, Bool.and_eq_true, decide_eq_true_eq] at h
      simp [h.1]
    split
    · exact s.setParcel_keeps_same p notFree rfl rfl rfl rfl
    · refine Keeps.trans ?_ (State.placeJob_keeps _ _ _)
      exact s.setParcel_keeps_same p notFree rfl rfl rfl rfl
  · exact Keeps.refl s

theorem State.expireAcceptance_keeps (s : State) (p : ParcelNo) : Keeps s (s.expireAcceptance p) := by
  simp only [State.expireAcceptance]
  split
  next h =>
    have awaiting : (s.parcel p).state = .awaitingAccept := by
      simp only [Parcel.acceptDue, Bool.and_eq_true, decide_eq_true_eq] at h
      exact h.1
    exact (s.enterOutcome_keeps p _ _ awaiting rfl rfl).trans (State.transmitAll_keeps _)
  · exact Keeps.refl s

theorem State.endPulse_keeps (s : State) (p : ParcelNo) : Keeps s (s.endPulse p) := by
  simp only [State.endPulse]
  split
  · split
    · refine s.setLines_keeps (fun q => ?_) rfl rfl
      by_cases e : q = p
      · subst e
        simp
      · rw [Lines.lamp_setLamp_ne _ e]
    · exact Keeps.refl s
  · exact Keeps.refl s

/-! ### The discrete inputs (R207, R208) -/

theorem State.setInput_keeps (s : State) (i : InputName) (x : InputState) : Keeps s (s.setLines (s.lines.setInput i x)) :=
  s.setLines_keeps (fun q => by simp [Lines.lamp]) (by simp) (by simp)

theorem State.forParcels_keeps {f : ParcelNo → State → State} (h : ∀ s p, Keeps s (f p s)) (s : State) :
    Keeps s (s.forParcels f) :=
  foldl_keeps_laws h allParcels s

theorem State.esdActive_keeps (s : State) (p : ParcelNo) : Keeps s (s.esdActive p) := by
  simp only [State.esdActive]
  split
  next inTransfer => exact s.suspendWith_keeps p _ _ inTransfer
  · exact Keeps.refl s

/-- A parcel that holds the ESD member is not FREE, for a FREE record is cleared (R1). -/
theorem State.esdInactive_keeps (s : State) (p : ParcelNo) : Keeps s (s.esdInactive p) := by
  simp only [State.esdInactive]
  split
  next held =>
    refine s.resumeWith_keeps p _ _ _ fun law free => ?_
    rw [law.1 free] at held
    cases held
  · exact Keeps.refl s

theorem State.valveClosed_keeps (n : ParcelNo) (s : State) (p : ParcelNo) : Keeps s (State.valveClosed n p s) := by
  simp only [State.valveClosed]
  split
  next h => exact s.executeClose_keeps p _ h.2.2
  · exact Keeps.refl s

theorem State.feedInput_keeps (s : State) (i : InputName) (level : Bool) : Keeps s (s.feedInput i level) := by
  unfold State.feedInput
  split
  · exact State.forParcels_keeps State.esdActive_keeps s
  · exact State.forParcels_keeps State.esdInactive_keeps s
  · exact State.forParcels_keeps (State.valveClosed_keeps _) s
  · exact Keeps.refl s
  · exact Keeps.refl s

theorem State.recognize_keeps (s : State) (i : InputName) : Keeps s (s.recognize i) := by
  simp only [State.recognize]
  split
  · exact (((s.setInput_keeps i _).trans (State.postAll_keeps _ _)).trans (State.feedInput_keeps _ _ _)).trans
      (State.transmitAll_keeps _)
  · exact Keeps.refl s

theorem State.sampleLoop_keeps (s : State) (i : InputName) (ma : Nat) : Keeps s (s.sampleLoop i ma) := s.setInput_keeps i _

end Sys2Proof.Machine
end

section
/-!
PROOFS. The end of start-up verification (R27 to R29, R186): what it does with each checkpoint item, and that it keeps the
limits and laws of the part.
-/

namespace Sys2Proof.Machine

/-! ### A restore's sources (R28, R56) -/

/-- The time, the limits and the laws, but for the rings. -/
structure Sustains (s t : State) : Prop extends SameTime s t, Upholds s t

theorem Sustains.trans {s t u : State} (h : Sustains s t) (g : Sustains t u) : Sustains s u :=
  ⟨h.toSameTime.trans g.toSameTime, h.toUpholds.trans g.toUpholds⟩

theorem Keeps.sustains {s t : State} (h : Keeps s t) : Sustains s t := ⟨h.toSameTime, h.toUpholds⟩

theorem Sustains.refl (s : State) : Sustains s s := (Keeps.refl s).sustains

theorem sustains_of_sources {s t : State} (h : t = { s with tanks := t.tanks, meters := t.meters, att := t.att }) :
    Sustains s t where
  clock := by rw [h]
  msec := by rw [h]
  pending := by rw [h]
  bounded b := by rw [h]; exact b
  laws l := by rw [h]; exact l
  queue _ q := by rw [h]; exact q
  revision r := by rw [h]; exact r

/-- What a restore's pool draws leave: nothing but the tanks and the meters differs. -/
theorem State.drawRestored_sources (s : State) (p : ParcelNo) (c : Checkpoint) :
    s.drawRestored p c =
      { s with tanks := (s.drawRestored p c).tanks, meters := (s.drawRestored p c).meters } := by
  have tanks (xs : List (Nat × Nat)) (t : State) :
      ∃ v, xs.foldl (fun acc x => acc.drawTank x.1 p x.2) t = { t with tanks := v } := by
    induction xs generalizing t with
    | nil => exact ⟨t.tanks, rfl⟩
    | cons x rest ih =>
      obtain ⟨v, e⟩ := ih (t.drawTank x.1 p x.2)
      refine ⟨v, ?_⟩
      rw [List.foldl_cons, e]
      simp only [State.drawTank, State.setTank]
      split <;> rfl
  have meters (xs : List (Nat × Nat)) (t : State) :
      ∃ v, xs.foldl (fun acc x => acc.drawMeter x.1 p x.2) t = { t with meters := v } := by
    induction xs generalizing t with
    | nil => exact ⟨t.meters, rfl⟩
    | cons x rest ih =>
      obtain ⟨v, e⟩ := ih (t.drawMeter x.1 p x.2)
      refine ⟨v, ?_⟩
      rw [List.foldl_cons, e]
      simp only [State.drawMeter, State.setMeter]
      split <;> rfl
  obtain ⟨v, ev⟩ := tanks c.tanks s
  obtain ⟨w, ew⟩ := meters c.meters { s with tanks := v }
  have drawn : s.drawRestored p c = { s with tanks := v, meters := w } := by
    simp only [State.drawRestored, ev, ew]
  rw [drawn]

@[simp] theorem State.drawRestored_store (s : State) (p : ParcelNo) (c : Checkpoint) :
    (s.drawRestored p c).store = s.store := by rw [State.drawRestored_sources]

@[simp] theorem State.drawRestored_parcel (s : State) (p : ParcelNo) (c : Checkpoint) (q : ParcelNo) :
    (s.drawRestored p c).parcel q = s.parcel q := by rw [State.drawRestored_sources]; rfl

theorem State.drawRestored_sustains (s : State) (p : ParcelNo) (c : Checkpoint) : Sustains s (s.drawRestored p c) :=
  sustains_of_sources (by rw [State.drawRestored_sources])

/-- The rings are within the pool, with so many slots drawn at most. -/
def State.ringsWithin (s : State) (drawn : Nat) : Prop := s.ringsFit ∧ s.depthSum ≤ drawn

theorem State.depthSum_setTank_le (s : State) (n : Nat) (x : TankSource) :
    (s.setTank n x).depthSum ≤ s.depthSum + x.drawn := by
  by_cases named : 1 ≤ n ∧ n ≤ 16
  · have := s.depthSum_setTank named.1 named.2 x
    omega
  · rw [s.setTank_of_out named]
    omega

theorem State.depthSum_setMeter_le (s : State) (n : Nat) (x : MeterSource) :
    (s.setMeter n x).depthSum ≤ s.depthSum + x.drawn := by
  by_cases named : 1 ≤ n ∧ n ≤ 8
  · have := s.depthSum_setMeter named.1 named.2 x
    omega
  · rw [s.setMeter_of_out named]
    omega

theorem State.drawTank_within (s : State) (n : Nat) (p : ParcelNo) {d drawn : Nat} (depth : 1 ≤ d) (room : drawn + d ≤ 96)
    (fits : s.ringsWithin drawn) : (s.drawTank n p d).ringsWithin (drawn + d) := by
  obtain ⟨rings, sum⟩ := fits
  refine ⟨(s.drawTank_keeps n p depth fun _ => ?_).rings rings, ?_⟩
  · unfold State.poolFree
    omega
  · exact (s.depthSum_setTank_le n _).trans (Nat.add_le_add_right sum _)

theorem State.drawMeter_within (s : State) (n : Nat) (p : ParcelNo) {d drawn : Nat} (depth : 1 ≤ d) (room : drawn + d ≤ 96)
    (fits : s.ringsWithin drawn) : (s.drawMeter n p d).ringsWithin (drawn + d) := by
  obtain ⟨rings, sum⟩ := fits
  refine ⟨(s.drawMeter_keeps n p depth fun _ => ?_).rings rings, ?_⟩
  · unfold State.poolFree
    omega
  · exact (s.depthSum_setMeter_le n _).trans (Nat.add_le_add_right sum _)

/-- Draws of a list of sources, each within the pool. -/
theorem foldl_within {draw : State → Nat × Nat → State}
    (one : ∀ s x drawn, 1 ≤ x.2 → drawn + x.2 ≤ 96 → s.ringsWithin drawn → (draw s x).ringsWithin (drawn + x.2))
    (xs : List (Nat × Nat)) (s : State) {drawn : Nat} (depths : ∀ x ∈ xs, 1 ≤ x.2) (room : drawn + (xs.map (·.2)).sum ≤ 96)
    (fits : s.ringsWithin drawn) : (xs.foldl draw s).ringsWithin (drawn + (xs.map (·.2)).sum) := by
  induction xs generalizing s drawn with
  | nil => exact fits
  | cons x rest ih =>
    rw [List.map_cons, List.sum_cons, ← Nat.add_assoc] at *
    exact ih _ (fun y mem => depths y (List.mem_cons_of_mem _ mem)) room
      (one s x drawn (depths x List.mem_cons_self) (by omega) fits)

/-- The slots a checkpoint's restore draws. -/
def Checkpoint.slots (c : Checkpoint) : Nat := (c.sources.map (·.2)).sum

theorem State.drawRestored_within (s : State) (p : ParcelNo) {c : Checkpoint} {drawn : Nat}
    (depths : ∀ n d, (n, d) ∈ c.sources → 1 ≤ d) (room : drawn + c.slots ≤ 96) (fits : s.ringsWithin drawn) :
    (s.drawRestored p c).ringsWithin (drawn + c.slots) := by
  have slots : c.slots = (c.tanks.map (·.2)).sum + (c.meters.map (·.2)).sum := by
    simp [Checkpoint.slots, Checkpoint.sources]
  rw [slots, ← Nat.add_assoc] at room ⊢
  have tanks := foldl_within (draw := fun acc x => acc.drawTank x.1 p x.2)
    (fun t x k depth room => t.drawTank_within x.1 p depth room) c.tanks s
    (fun x mem => depths x.1 x.2 (List.mem_append_left _ mem)) (by omega) fits
  exact foldl_within (draw := fun acc x => acc.drawMeter x.1 p x.2)
    (fun t x k depth room => t.drawMeter_within x.1 p depth room) c.meters _
    (fun x mem => depths x.1 x.2 (List.mem_append_right _ mem)) room tanks

/-! ### One checkpoint recovered (R27, R28) -/

/-- A restored record follows a FREE one once start-up verification is over. -/
theorem Parcel.Follows.restored {r : Parcel} (free : r.state = .free) (c : Checkpoint) (esd : Bool) (now : Instant) :
    Parcel.Follows false r (Parcel.restored c esd now) where
  law _ := ⟨fun e => (by cases e), fun e => (by cases e)⟩
  free _ e := by cases e
  alarm law := by rw [law.1 free]; rfl
  pending law _ := by rw [law.1 free]; exact ⟨fun e => (by cases e), rfl⟩
  revision _ n e := by cases e

/-- The record change and the checkpoint request of a restore, after its pool draws. -/
theorem State.restored_keeps (s : State) (p : ParcelNo) (c : Checkpoint) (esd : Bool) (now : Instant)
    (idle : s.store.startingUp = false) (free : (s.parcel p).state = .free) :
    Keeps s ((s.changeParcel p (Parcel.restored c esd now) .restart).requestCheckpoint p) := by
  refine (s.changeParcel_keeps p _ ?_).trans (State.requestCheckpoint_keeps _ _)
  rw [idle]
  exact .restored free c esd now

theorem State.restore_sustains (s : State) (p : ParcelNo) (c : Checkpoint) (idle : s.store.startingUp = false)
    (free : (s.parcel p).state = .free) : Sustains s (s.restore p c) :=
  (s.drawRestored_sustains p c).trans
    (State.restored_keeps _ p c _ _ (by simpa using idle) (by simpa using free)).sustains

theorem State.depthSum_restore (s : State) (p : ParcelNo) (c : Checkpoint) :
    (s.restore p c).depthSum = (s.drawRestored p c).depthSum :=
  State.depthSum_congr (by simp [State.restore]) (by simp [State.restore])

theorem State.restore_within (s : State) (p : ParcelNo) {c : Checkpoint} {drawn : Nat}
    (depths : ∀ n d, (n, d) ∈ c.sources → 1 ≤ d) (room : drawn + c.slots ≤ 96) (fits : s.ringsWithin drawn) :
    (s.restore p c).ringsWithin (drawn + c.slots) := by
  obtain ⟨rings, sum⟩ := s.drawRestored_within p depths room fits
  refine ⟨(State.requestCheckpoint_keeps _ _).rings ?_, by rwa [State.depthSum_restore]⟩
  exact (State.changeParcel_sameRest _ p _ _).rings rings

/-- Every VALID checkpoint item passes its check: what a pass leaves (R186). -/
def Store.checked (st : Store) (p : ParcelNo) : Prop := (st.checkpoint p).status = .valid → (st.checkpoint p).passes = true

/-- What becomes of one checkpoint item: a restorable one is restored, an INVALID one dropped, another left (R27). -/
theorem State.recover_eq (s : State) (p : ParcelNo) (checked : s.store.checked p) :
    State.recover p s = match s.store.restorable p with
      | some c => s.restore p c
      | none => if (s.store.checkpoint p).status = .invalid then s.dropCheckpoint p else s := by
  simp only [State.recover, Store.restorable]
  cases status : (s.store.checkpoint p).status with
  | valid =>
    rw [checked status]
    cases (s.store.checkpoint p).content <;> rfl
  | empty => simp [CheckpointItem.passes, status]
  | invalid => simp [CheckpointItem.passes, status]

theorem State.requestCheckpoint_store (s : State) (p : ParcelNo) :
    (s.requestCheckpoint p).store = { s.store with queue := (s.requestCheckpoint p).store.queue } := by
  simp only [State.requestCheckpoint]
  split <;> rfl

theorem State.restore_store (s : State) (p : ParcelNo) (c : Checkpoint) :
    (s.restore p c).store = { s.store with queue := (s.restore p c).store.queue } := by
  unfold State.restore
  rw [State.requestCheckpoint_store, State.changeParcel_store, State.drawRestored_store]

@[simp] theorem State.restore_checkpoint (s : State) (p : ParcelNo) (c : Checkpoint) (q : ParcelNo) :
    (s.restore p c).store.checkpoint q = s.store.checkpoint q := by
  rw [State.restore_store]
  rfl

theorem State.restore_startingUp (s : State) (p : ParcelNo) (c : Checkpoint) :
    (s.restore p c).store.startingUp = s.store.startingUp := by
  rw [State.restore_store]
  rfl

theorem State.restore_parcel (s : State) (p : ParcelNo) (c : Checkpoint) (q : ParcelNo) :
    (s.restore p c).parcel q = if q = p then Parcel.restored c s.lines.esd.level s.clock else s.parcel q := by
  simp [State.restore, State.parcel_changeParcel]

@[simp] theorem State.parcel_dropCheckpoint (s : State) (p q : ParcelNo) : (s.dropCheckpoint p).parcel q = s.parcel q := rfl

theorem State.dropCheckpoint_checkpoint_ne (s : State) {p q : ParcelNo} (h : q ≠ p) :
    (s.dropCheckpoint p).store.checkpoint q = s.store.checkpoint q :=
  s.store.checkpoint_setCheckpoint_ne h _

/-- What recovering the checkpoint of `p` leaves of the others: their items and records, and the phase of the store. -/
structure OthersRecoverable (p : ParcelNo) (s t : State) : Prop where
  checkpoint : ∀ q, q ≠ p → t.store.checkpoint q = s.store.checkpoint q
  parcel : ∀ q, q ≠ p → t.parcel q = s.parcel q
  startingUp : t.store.startingUp = s.store.startingUp

theorem State.recover_others (s : State) (p : ParcelNo) : OthersRecoverable p s (State.recover p s) := by
  simp only [State.recover]
  split
  · exact ⟨fun q _ => s.restore_checkpoint p _ q, fun q h => by rw [State.restore_parcel, if_neg h], s.restore_startingUp p _⟩
  · exact ⟨fun q h => s.dropCheckpoint_checkpoint_ne h, fun q _ => rfl, rfl⟩
  · exact ⟨fun _ _ => rfl, fun _ _ => rfl, rfl⟩

/-! ### All checkpoints recovered (R27) -/

/-- The parcels of a list await their recovery: FREE, each VALID checkpoint item passing, start-up verification over. -/
structure Recoverable (ps : List ParcelNo) (s : State) : Prop where
  startingUp : s.store.startingUp = false
  free : ∀ p ∈ ps, (s.parcel p).state = .free
  checked : ∀ p ∈ ps, s.store.checked p

theorem Recoverable.next {p : ParcelNo} {ps : List ParcelNo} {s : State} (h : Recoverable (p :: ps) s) (apart : p ∉ ps) :
    Recoverable ps (State.recover p s) := by
  have others := s.recover_others p
  have ne {q : ParcelNo} (mem : q ∈ ps) : q ≠ p := fun e => apart (e ▸ mem)
  refine ⟨others.startingUp.trans h.startingUp, fun q mem => ?_, fun q mem => ?_⟩
  · rw [others.parcel q (ne mem)]
    exact h.free q (List.mem_cons_of_mem _ mem)
  · unfold Store.checked
    rw [others.checkpoint q (ne mem)]
    exact h.checked q (List.mem_cons_of_mem _ mem)

theorem State.recover_sustains (s : State) (p : ParcelNo) (idle : s.store.startingUp = false)
    (free : (s.parcel p).state = .free) : Sustains s (State.recover p s) := by
  simp only [State.recover]
  split
  · exact s.restore_sustains p _ idle free
  · exact (s.dropCheckpoint_keeps p).sustains
  · exact Sustains.refl s

theorem foldl_recover_sustains {ps : List ParcelNo} (nodup : ps.Nodup) {s : State} (h : Recoverable ps s) :
    Sustains s (ps.foldl (fun acc p => State.recover p acc) s) := by
  induction ps generalizing s with
  | nil => exact Sustains.refl s
  | cons p rest ih =>
    obtain ⟨apart, nodup⟩ := List.nodup_cons.mp nodup
    exact (s.recover_sustains p h.startingUp (h.free p List.mem_cons_self)).trans (ih nodup (h.next apart))

/-- The slots the checkpoint of a parcel draws when it is restored. -/
def Store.restoreSlots (st : Store) (p : ParcelNo) : Nat :=
  (((st.restorable p).toList.flatMap Checkpoint.sources).map (·.2)).sum

theorem Store.restoreSlots_some {st : Store} {p : ParcelNo} {c : Checkpoint} (h : st.restorable p = some c) :
    st.restoreSlots p = c.slots := by simp [Store.restoreSlots, h, Checkpoint.slots]

theorem Store.restorable_congr {a b : Store} {p : ParcelNo} (h : b.checkpoint p = a.checkpoint p) :
    b.restorable p = a.restorable p := by simp [Store.restorable, h]

theorem State.recover_within (s : State) (p : ParcelNo) {drawn : Nat} (checked : s.store.checked p)
    (depths : ∀ c n d, s.store.restorable p = some c → (n, d) ∈ c.sources → 1 ≤ d)
    (room : drawn + s.store.restoreSlots p ≤ 96) (fits : s.ringsWithin drawn) :
    (State.recover p s).ringsWithin (drawn + s.store.restoreSlots p) := by
  rw [s.recover_eq p checked]
  cases held : s.store.restorable p with
  | some c =>
    rw [Store.restoreSlots_some held] at *
    exact s.restore_within p (fun n d => depths c n d held) room fits
  | none =>
    obtain ⟨rings, sum⟩ := fits
    dsimp only
    split
    · have same : (s.dropCheckpoint p).depthSum = s.depthSum := rfl
      exact ⟨(s.dropCheckpoint_keeps p).rings rings, by omega⟩
    · exact ⟨rings, by omega⟩

theorem foldl_recover_within {ps : List ParcelNo} (nodup : ps.Nodup) {s : State} {drawn : Nat}
    (checked : ∀ p ∈ ps, s.store.checked p)
    (depths : ∀ p ∈ ps, ∀ c n d, s.store.restorable p = some c → (n, d) ∈ c.sources → 1 ≤ d)
    (room : drawn + (ps.map s.store.restoreSlots).sum ≤ 96) (fits : s.ringsWithin drawn) :
    (ps.foldl (fun acc p => State.recover p acc) s).ringsFit := by
  induction ps generalizing s drawn with
  | nil => exact fits.1
  | cons p rest ih =>
    obtain ⟨apart, nodup⟩ := List.nodup_cons.mp nodup
    rw [List.map_cons, List.sum_cons, ← Nat.add_assoc] at room
    have item {q : ParcelNo} (mem : q ∈ rest) := (s.recover_others p).checkpoint q fun e => apart (e ▸ mem)
    have kept {q : ParcelNo} (mem : q ∈ rest) : (State.recover p s).store.restorable q = s.store.restorable q :=
      Store.restorable_congr (item mem)
    have slots : rest.map (State.recover p s).store.restoreSlots = rest.map s.store.restoreSlots :=
      List.map_congr_left fun q mem => by simp only [Store.restoreSlots, kept mem]
    refine ih nodup (fun q mem => ?_) (fun q mem c n d e => ?_) (by rwa [slots])
      (s.recover_within p (checked p List.mem_cons_self) (depths p List.mem_cons_self) (by omega) fits)
    · unfold Store.checked
      rw [item mem]
      exact checked q (List.mem_cons_of_mem _ mem)
    · rw [kept mem] at e
      exact depths q (List.mem_cons_of_mem _ mem) c n d e

/-! ### The end of start-up verification (R186) -/

theorem CheckpointItem.verified_checked (c : CheckpointItem) :
    c.verified.status = .valid → c.verified.passes = true := by
  unfold CheckpointItem.verified
  split
  · exact fun e => by cases e
  next h => exact fun e => by simpa [e] using h

theorem Store.checkpoint_pass (st : Store) (p : ParcelNo) : st.pass.checkpoint p = (st.checkpoint p).verified := by
  simp only [Store.pass, Store.checkpoint, Vector.get_eq_getElem, Vector.getElem_map]

/-- What the pass makes restorable is what was restorable before it (R27, R186). -/
theorem Store.restorable_pass (st : Store) (p : ParcelNo) : st.pass.restorable p = st.restorable p := by
  simp only [Store.restorable, Store.checkpoint_pass, CheckpointItem.verified]
  split
  next h =>
    rw [if_neg (by simp [CheckpointItem.passes]), if_neg (by simp [h.2])]
  · rfl

/-- The store as the recovery of the checkpoints finds it (R134, R186). -/
def Store.started (st : Store) : Store := { st.pass with verify := .idle, nextSeq := st.pass.sequenceAfter }

theorem State.completeStartup_eq (s : State) (h : s.store.startingUp = true) :
    s.completeStartup = ((((s.setStore s.store.started).forParcels State.recover).computeVef .load).computeVef
      .discharge).transmitAll := by
  unfold State.completeStartup
  rw [if_pos h]
  rfl

theorem State.started_keeps (s : State) : Keeps s (s.setStore s.store.started) :=
  s.setStore_keeps_of_queue (fun up => by cases up) (List.length_filter_le _ _).trans rfl rfl

theorem allParcels_nodup : allParcels.Nodup := by decide

theorem Store.started_checked (st : Store) (p : ParcelNo) : st.started.checked p := by
  have same : st.started.checkpoint p = (st.checkpoint p).verified := st.checkpoint_pass p
  unfold Store.checked
  rw [same]
  exact CheckpointItem.verified_checked _

theorem State.started_recoverable (s : State) (free : ∀ p, (s.parcel p).state = .free) :
    Recoverable allParcels (s.setStore s.store.started) where
  startingUp := rfl
  free p _ := free p
  checked p _ := s.store.started_checked p

theorem State.computeVef_keeps (s : State) (d : Direction) : Keeps s (s.computeVef d) := s.setVef_keeps _ _

/-- What follows the recovery of the checkpoints touches no limit and no law. -/
theorem State.afterRecovery_keeps (s : State) : Keeps s ((s.computeVef .load).computeVef .discharge).transmitAll :=
  ((s.computeVef_keeps .load).trans (State.computeVef_keeps _ _)).trans (State.transmitAll_keeps _)

/-- The time, the lists' limits and the revisions', which hold of every record that a restore may find. -/
structure Contains (s t : State) : Prop extends SameTime s t where
  bounded : s.bounded → t.bounded
  revision : s.revisionFits → t.revisionFits

theorem Contains.trans {s t u : State} (h : Contains s t) (g : Contains t u) : Contains s u :=
  ⟨h.toSameTime.trans g.toSameTime, g.bounded ∘ h.bounded, g.revision ∘ h.revision⟩

theorem Sustains.contains {s t : State} (h : Sustains s t) : Contains s t := ⟨h.toSameTime, h.bounded, h.revision⟩

theorem State.restore_contains (s : State) (p : ParcelNo) (c : Checkpoint) : Contains s (s.restore p c) := by
  refine ((s.drawRestored_sustains p c).contains.trans ?_).trans (State.requestCheckpoint_keeps _ _).sustains.contains
  have rest := (s.drawRestored p c).changeParcel_sameRest p (Parcel.restored c s.lines.esd.level s.clock) .restart
  refine ⟨rest.toSameTime, rest.bounded, fun fits q n e => ?_⟩
  rw [State.parcel_changeParcel] at e ⊢
  split at e
  · cases e
  next ne => rw [if_neg ne]; exact fits q n e

theorem State.recover_contains (s : State) (p : ParcelNo) : Contains s (State.recover p s) := by
  simp only [State.recover]
  split
  · exact s.restore_contains p _
  · exact (s.dropCheckpoint_keeps p).sustains.contains
  · exact (Sustains.refl s).contains

theorem foldl_recover_contains (ps : List ParcelNo) (s : State) :
    Contains s (ps.foldl (fun acc p => State.recover p acc) s) := by
  induction ps generalizing s with
  | nil => exact (Sustains.refl s).contains
  | cons p rest ih => exact (s.recover_contains p).trans (ih _)

theorem State.completeStartup_of_idle (s : State) (h : s.store.startingUp = false) : s.completeStartup = s := by
  unfold State.completeStartup
  rw [if_neg (by simp [h])]

theorem State.completeStartup_contains (s : State) : Contains s s.completeStartup := by
  cases up : s.store.startingUp with
  | true =>
    rw [s.completeStartup_eq up]
    exact (s.started_keeps.sustains.contains.trans (foldl_recover_contains _ _)).trans
      (State.afterRecovery_keeps _).sustains.contains
  | false =>
    rw [s.completeStartup_of_idle up]
    exact (Sustains.refl s).contains

/-- The laws make every record FREE while start-up verification runs, so that a restore finds it so (R27). -/
theorem State.completeStartup_sustains (s : State) (lawful : s.lawful) : Sustains s s.completeStartup := by
  cases up : s.store.startingUp with
  | true =>
    rw [s.completeStartup_eq up]
    have recovered := foldl_recover_sustains allParcels_nodup (s.started_recoverable (lawful.2.1 up))
    exact (s.started_keeps.sustains.trans recovered).trans (State.afterRecovery_keeps _).sustains
  | false =>
    rw [s.completeStartup_of_idle up]
    exact Sustains.refl s

theorem State.completeStartup_upholds (s : State) : Upholds s s.completeStartup where
  bounded := s.completeStartup_contains.bounded
  revision := s.completeStartup_contains.revision
  laws l := (s.completeStartup_sustains l).laws l
  queue l := (s.completeStartup_sustains l).queue l

/-- The restores fit in the pool where their checkpoints do (R28, R56). -/
theorem State.completeStartup_rings (s : State) (restores : s.restoreFits) (fits : s.ringsFit) : s.completeStartup.ringsFit := by
  cases up : s.store.startingUp with
  | true =>
    rw [s.completeStartup_eq up]
    refine (State.afterRecovery_keeps _).rings ?_
    have same (p : ParcelNo) : s.store.started.restorable p = s.store.restorable p := s.store.restorable_pass p
    have slots : allParcels.map s.store.started.restoreSlots = allParcels.map s.store.restoreSlots :=
      List.map_congr_left fun p _ => by simp only [Store.restoreSlots, same]
    refine foldl_recover_within allParcels_nodup (drawn := s.depthSum)
      (fun p _ => s.store.started_checked p) (fun p _ c n d e => ?_) ?_ ⟨s.started_keeps.rings fits, Nat.le_refl _⟩
    · rw [State.setStore_store, same] at e
      exact restores.1 p c n d e
    · rw [State.setStore_store, slots]
      exact restores.2
  | false => rwa [s.completeStartup_of_idle up]

end Sys2Proof.Machine
end

section
/-!
PROOFS. What every command and every step keep: the reset's state, the commands together, and the obligations on the step.
-/

namespace Sys2Proof.Machine

/-! ### The state after a reset (R1, R190, R204) -/

/-- A vector of equal entries. -/
theorem get_replicate {α : Type} {n : Nat} (x : α) (i : Fin n) : (Vector.replicate n x).get i = x := by
  rw [Vector.get_eq_getElem, Vector.getElem_replicate]

@[simp] theorem State.parcel_reset (p : ParcelNo) : State.reset.parcel p = Parcel.cleared := get_replicate _ p

@[simp] theorem Lines.lamp_reset (p : ParcelNo) : Lines.reset.lamp p = Lamp.reset := get_replicate _ p

theorem LinkState.reset_bounded (b : Bool) : (LinkState.reset b).bounded := ⟨Nat.zero_le _, Nat.zero_le _⟩

theorem State.depthSum_reset : State.reset.depthSum = 0 := by
  simp only [State.depthSum_eq, State.tank_reset, State.meter_reset, TankSource.drawn, MeterSource.drawn, TankSource.never,
    MeterSource.never, heldDepth]
  simp

theorem State.reset_ringsFit : State.reset.ringsFit :=
  ⟨by rw [State.depthSum_reset]; exact Nat.zero_le _, fun n => by rw [State.tank_reset]; exact Nat.zero_le _,
    fun n => by rw [State.meter_reset]; exact Nat.zero_le _, Nat.zero_le _⟩

/-- A state of cleared records, dark lamps and a silent alarm output meets the laws of the part. -/
theorem lawful_of_cleared {s : State} (parcels : s.parcels = State.reset.parcels) (lamps : s.lines.lamps = Lines.reset.lamps)
    (alarm : s.lines.alarmOut = false) : s.lawful := by
  have cleared (p : ParcelNo) : s.parcel p = Parcel.cleared := (State.parcel_congr parcels p).trans (State.parcel_reset p)
  have quiet : s.anyAlarm = false := by
    rw [State.anyAlarm_congr (t := s) (s := State.reset) fun p => by rw [cleared, State.parcel_reset]]
    rfl
  rw [State.lawful_iff]
  refine ⟨fun p => cleared p ▸ Parcel.lawOk_cleared, fun _ p => by rw [cleared]; rfl, ?_, fun p => ?_⟩
  · simp [State.alarmLaw, alarm, quiet]
  · rw [cleared]
    exact congrArg (fun v => (v.get p).pattern) lamps |>.trans (congrArg (·.pattern) (Lines.lamp_reset p))

theorem revisionFits_of_cleared {s : State} (parcels : s.parcels = State.reset.parcels) : s.revisionFits := fun p n e => by
  rw [State.parcel_congr parcels p, State.parcel_reset] at e
  cases e

theorem queueFits_of_cleared {s : State} (parcels : s.parcels = State.reset.parcels) (queue : s.store.queue = [])
    (writer : s.store.writer = none) : s.queueFits := by
  refine ⟨by simp [Store.commitCount, queue], fun p => ?_⟩
  rw [State.parcel_congr parcels p, State.parcel_reset, queue, writer]
  exact ⟨by simp, by simp, fun e => by cases e⟩

theorem State.afterReset_upholds (s : State) (cause : ResetCause) (straps : Straps) :
    Upholds s (s.afterReset cause straps) where
  bounded b := ⟨LinkState.reset_bounded _, LinkState.reset_bounded _, LinkState.reset_bounded _, by
    have := b.2.2.2
    simpa [State.afterReset, Store.afterReset] using this⟩
  laws _ := lawful_of_cleared rfl rfl rfl
  queue _ _ := queueFits_of_cleared rfl rfl rfl
  revision _ := revisionFits_of_cleared rfl

theorem State.afterReset_ringsFit (s : State) (cause : ResetCause) (straps : Straps) :
    (s.afterReset cause straps).ringsFit := State.reset_ringsFit

/-- Settles O4: the state after reset, field by field. -/
theorem resetMeetsTheLaws : Obligations.ResetMeetsTheLaws := by
  unfold Obligations.ResetMeetsTheLaws
  refine ⟨by unfold Parcel.isBlank; decide, ?_, State.reset_ringsFit, queueFits_of_cleared rfl rfl rfl, revisionFits_of_cleared rfl,
    lawful_of_cleared rfl rfl rfl, rfl, rfl⟩
  exact ⟨LinkState.reset_bounded _, LinkState.reset_bounded _, LinkState.reset_bounded _, Nat.zero_le _⟩

/-! ### The commands together -/

/-- What a command keeps: the commands that wait, the limits and laws, the law of the clock, and the rings, where the end of
start-up verification takes its restores to fit. -/
structure Conserves (c : Instr) (s t : State) : Prop extends Upholds s t where
  pending : t.pending = s.pending
  clock : s.clockLaw → t.clockLaw
  rings : s.ringsFit → (c = .startupVerificationComplete → s.restoreFits) → t.ringsFit

theorem SameTime.clockLaw {s t : State} (h : SameTime s t) (law : s.clockLaw) : t.clockLaw := by
  unfold State.clockLaw at *
  rw [h.clock, h.msec, law]

theorem Stays.conserves {s t : State} (h : Stays s t) (c : Instr) : Conserves c s t :=
  ⟨h.toUpholds, h.pending, h.toSameTime.clockLaw, fun fits _ => h.rings fits⟩

theorem State.afterReset_conserves (s : State) (c : Instr) (cause : ResetCause) (straps : Straps) :
    Conserves c s (s.afterReset cause straps) :=
  ⟨s.afterReset_upholds cause straps, rfl, fun _ => by simp [State.clockLaw, State.afterReset, State.reset],
    fun _ _ => s.afterReset_ringsFit cause straps⟩

theorem State.completeStartup_conserves (s : State) : Conserves .startupVerificationComplete s s.completeStartup :=
  ⟨s.completeStartup_upholds, s.completeStartup_contains.pending, s.completeStartup_contains.toSameTime.clockLaw,
    fun fits restores => s.completeStartup_rings (restores rfl) fits⟩

/-- Every command completes and keeps the limits and laws. -/
theorem exec_conserves (c : Instr) (s : State) : ∃ t, exec c s = .next t ∧ Conserves c s t :=
  match c with
  | .powerOn straps => ⟨_, rfl, s.afterReset_conserves _ .powerOn straps⟩
  | .resetLine straps => ⟨_, rfl, s.afterReset_conserves _ .resetLine straps⟩
  | .startupVerificationComplete => ⟨_, rfl, s.completeStartup_conserves⟩
  | .declare l tag pl => ⟨_, rfl, (serve_stays .declare l tag pl s).conserves _⟩
  | .setParameter l tag pl => ⟨_, rfl, (serve_stays .setParameter l tag pl s).conserves _⟩
  | .assignTank l tag pl => ⟨_, rfl, (serve_stays .assignTank l tag pl s).conserves _⟩
  | .unassignTank l tag pl => ⟨_, rfl, (serve_stays .unassignTank l tag pl s).conserves _⟩
  | .assignMeter l tag pl => ⟨_, rfl, (serve_stays .assignMeter l tag pl s).conserves _⟩
  | .unassignMeter l tag pl => ⟨_, rfl, (serve_stays .unassignMeter l tag pl s).conserves _⟩
  | .offerBasis l tag pl => ⟨_, rfl, (serve_stays .offerBasis l tag pl s).conserves _⟩
  | .openParcel l tag pl => ⟨_, rfl, (serve_stays .openParcel l tag pl s).conserves _⟩
  | .jobStart => ⟨_, rfl, s.startJob_keeps.stays.conserves _⟩
  | .openDone => ⟨_, rfl, s.completeOpen_keeps.stays.conserves _⟩
  | .openFailed => ⟨_, rfl, s.completeOpenFailed_keeps.stays.conserves _⟩
  | .suspend l tag pl => ⟨_, rfl, (serve_stays .suspend l tag pl s).conserves _⟩
  | .resume l tag pl => ⟨_, rfl, (serve_stays .resume l tag pl s).conserves _⟩
  | .close l tag pl => ⟨_, rfl, (serve_stays .close l tag pl s).conserves _⟩
  | .cancelClose l tag pl => ⟨_, rfl, (serve_stays .cancelClose l tag pl s).conserves _⟩
  | .settledByTime p => ⟨_, rfl, (s.reachSettleMark_keeps p).stays.conserves _⟩
  | .restoredByTime p => ⟨_, rfl, (s.reachRestoreMark_keeps p).stays.conserves _⟩
  | .cycleTimerExpiry p => ⟨_, rfl, (s.expireCycleTimer_keeps p).stays.conserves _⟩
  | .cycleComplete => ⟨_, rfl, s.completeCycle_keeps.stays.conserves _⟩
  | .pulseEnd p => ⟨_, rfl, (s.endPulse_keeps p).stays.conserves _⟩
  | .closeDone => ⟨_, rfl, s.completeClose_keeps.stays.conserves _⟩
  | .closeFailed => ⟨_, rfl, s.completeCloseFailed_keeps.stays.conserves _⟩
  | .regauge l tag pl => ⟨_, rfl, (serve_stays .regauge l tag pl s).conserves _⟩
  | .setLineAdjust l tag pl => ⟨_, rfl, (serve_stays .setLineAdjust l tag pl s).conserves _⟩
  | .accept l tag pl => ⟨_, rfl, (serve_stays .accept l tag pl s).conserves _⟩
  | .witness l tag pl => ⟨_, rfl, (serve_stays .witness l tag pl s).conserves _⟩
  | .dispute l tag pl => ⟨_, rfl, (serve_stays .dispute l tag pl s).conserves _⟩
  | .acceptTimeout p => ⟨_, rfl, (s.expireAcceptance_keeps p).stays.conserves _⟩
  | .abort l tag pl => ⟨_, rfl, (serve_stays .abort l tag pl s).conserves _⟩
  | .restoreGrade l tag pl => ⟨_, rfl, (serve_stays .restoreGrade l tag pl s).conserves _⟩
  | .release l tag pl => ⟨_, rfl, (serve_stays .release l tag pl s).conserves _⟩
  | .abandon l tag pl => ⟨_, rfl, (serve_stays .abandon l tag pl s).conserves _⟩
  | .readParcel l tag pl => ⟨_, rfl, (serve_stays .readParcel l tag pl s).conserves _⟩
  | .tankReading l tag pl => ⟨_, rfl, (serve_stays .tankReading l tag pl s).conserves _⟩
  | .attitudeReading l tag pl => ⟨_, rfl, (serve_stays .attitudeReading l tag pl s).conserves _⟩
  | .meterReading l tag pl => ⟨_, rfl, (serve_stays .meterReading l tag pl s).conserves _⟩
  | .tableBegin l tag pl => ⟨_, rfl, (serve_stays .tableBegin l tag pl s).conserves _⟩
  | .tableData l tag pl => ⟨_, rfl, (serve_stays .tableData l tag pl s).conserves _⟩
  | .tableCommit l tag pl => ⟨_, rfl, (serve_stays .tableCommit l tag pl s).conserves _⟩
  | .readTable l tag pl => ⟨_, rfl, (serve_stays .readTable l tag pl s).conserves _⟩
  | .lockTable l tag pl => ⟨_, rfl, (serve_stays .lockTable l tag pl s).conserves _⟩
  | .unlockTable l tag pl => ⟨_, rfl, (serve_stays .unlockTable l tag pl s).conserves _⟩
  | .verifyStore l tag pl => ⟨_, rfl, (serve_stays .verifyStore l tag pl s).conserves _⟩
  | .verifyPassStart => ⟨_, rfl, s.startPass_keeps.stays.conserves _⟩
  | .verifyComplete => ⟨_, rfl, s.completeVerify_keeps.stays.conserves _⟩
  | .clearHistory l tag pl => ⟨_, rfl, (serve_stays .clearHistory l tag pl s).conserves _⟩
  | .readRecord l tag pl => ⟨_, rfl, (serve_stays .readRecord l tag pl s).conserves _⟩
  | .status l tag pl => ⟨_, rfl, (serve_stays .status l tag pl s).conserves _⟩
  | .silenceAlarm l tag pl => ⟨_, rfl, (serve_stays .silenceAlarm l tag pl s).conserves _⟩
  | .setCalendar l tag pl => ⟨_, rfl, (serve_stays .setCalendar l tag pl s).conserves _⟩
  | .unknownRequest l kind tag pl => ⟨_, rfl, (s.takeUnknown_stays l kind tag pl).conserves _⟩
  | .frameDiscard l => ⟨_, rfl, (s.discardFrame_keeps l).stays.conserves _⟩
  | .interByteGap l => ⟨_, rfl, (s.discardAtGap_keeps l).stays.conserves _⟩
  | .responseListFullDiscard l => ⟨_, rfl, (s.discardFull_keeps l).stays.conserves _⟩
  | .frameSent l => ⟨_, rfl, (s.frameSent_keeps l).stays.conserves _⟩
  | .linkBreak l => ⟨_, rfl, (s.linkBreak_keeps l).stays.conserves _⟩
  | .linkBreakEnd l => ⟨_, rfl, (s.linkBreakEnd_keeps l).stays.conserves _⟩
  | .loopLevelChange i ma => ⟨_, rfl, (s.sampleLoop_keeps i ma).stays.conserves _⟩
  | .inputChange i => ⟨_, rfl, (s.recognize_keeps i).stays.conserves _⟩
  | .writeStart => ⟨_, rfl, s.startWrite_keeps.stays.conserves _⟩
  | .blockWriteDone equal => ⟨_, rfl, (s.blockDone_keeps equal).stays.conserves _⟩
  | .byteReceived l b => ⟨_, rfl, (s.takeByte_stays l b).conserves _⟩

/-- Settles O2: every command completes and leaves the queue of waiting commands alone. -/
theorem everyCommandCompletes : Obligations.EveryCommandCompletes := by
  unfold Obligations.EveryCommandCompletes
  intro c s
  obtain ⟨t, next, kept⟩ := exec_conserves c s
  exact ⟨t, next, kept.pending⟩

/-! ### The step -/

/-- Settles O1: the step is the command at the front of the queue. -/
theorem stepTakesTheFrontCommand : Obligations.StepTakesTheFrontCommand := by
  unfold Obligations.StepTakesTheFrontCommand
  intro c rest s
  rfl

/-- A step is a command at the front of the queue, or the part idle with none waiting. -/
theorem step_cases {s t : State} (h : step s = .next t) :
    (∃ c rest, s.pending = c :: rest ∧ Conserves c { s with pending := rest } t) ∨ t = s.idle := by
  unfold step at h
  split at h
  next c rest waits =>
    obtain ⟨u, next, kept⟩ := exec_conserves c { s with pending := rest }
    obtain rfl : u = t := Host.Outcome.next.inj (next.symm.trans h)
    exact .inl ⟨c, rest, waits, kept⟩
  · exact .inr (Host.Outcome.next.inj h).symm

/-- The idle part changes nothing but the waiting commands and the time. -/
theorem State.idle_eq (s : State) :
    s.idle = { s with clock := s.idle.clock, msec := s.idle.msec, pending := s.idle.pending } := by
  unfold State.idle
  split <;> rfl

theorem State.tick_clockLaw {s : State} (law : s.clockLaw) : s.tick.clockLaw := by
  unfold State.clockLaw at *
  simp only [State.tick]
  split
  next whole =>
    have : (s.msec + 1) / 100 = s.msec / 100 + 1 := by omega
    rw [this, law, BitVec.ofNat_add]
    rfl
  · have : (s.msec + 1) / 100 = s.msec / 100 := by omega
    rw [this, law]

theorem State.idle_clockLaw {s : State} (law : s.clockLaw) : s.idle.clockLaw := by
  unfold State.idle
  split
  · exact law
  · exact State.tick_clockLaw law

theorem State.idle_upholds (s : State) : Upholds s s.idle := by
  rw [State.idle_eq]
  exact ⟨id, id, fun _ => id, id⟩

/-- Settles O7: every command keeps clock and millisecond count or returns both to 0, and a tick advances the clock with
each hundredth millisecond. -/
theorem everyStepKeepsTheClock : Obligations.EveryStepKeepsTheClock := by
  unfold Obligations.EveryStepKeepsTheClock
  intro s t law h
  rcases step_cases h with ⟨c, rest, _, kept⟩ | rfl
  · exact kept.clock law
  · exact State.idle_clockLaw law

/-- Settles O6: every command upholds the laws, and they do not speak of time or waiting commands. -/
theorem everyStepKeepsTheLaws : Obligations.EveryStepKeepsTheLaws := by
  unfold Obligations.EveryStepKeepsTheLaws
  intro s t law h
  rcases step_cases h with ⟨c, rest, _, kept⟩ | rfl
  · exact kept.laws law
  · exact s.idle_upholds.laws law

/-- Each entry is a commit, or the checkpoint or the finalize of a parcel. -/
theorem length_eq_counts (q : List QueueEntry) :
    q.length = q.countP QueueEntry.isCommit
      + (allParcels.map fun p => q.countP (QueueEntry.isCheckpointOf p) + q.countP (QueueEntry.isFinalizeOf p)).sum := by
  induction q with
  | nil => simp
  | cons e rest ih =>
    simp only [List.countP_cons, List.length_cons, ih, allParcels, List.map_cons, List.map_nil, List.sum_cons, List.sum_nil]
    cases e with
    | commit =>
      simp [QueueEntry.isCommit, QueueEntry.isCheckpointOf, QueueEntry.isFinalizeOf]
      omega
    | checkpoint p =>
      fin_cases p <;> simp [QueueEntry.isCommit, QueueEntry.isCheckpointOf, QueueEntry.isFinalizeOf] <;> omega
    | finalize p =>
      fin_cases p <;> simp [QueueEntry.isCommit, QueueEntry.isCheckpointOf, QueueEntry.isFinalizeOf] <;> omega

/-- The queue holds at most 4 commits and of each of the four parcels one checkpoint and one finalize (R182). -/
theorem queue_length_le {s : State} (fits : s.queueFits) : s.store.queue.length ≤ 16 := by
  obtain ⟨commits, parcels⟩ := fits
  rw [length_eq_counts, ← Store.commitCount_eq]
  have each (p : ParcelNo) : s.store.queue.countP (QueueEntry.isCheckpointOf p)
      + s.store.queue.countP (QueueEntry.isFinalizeOf p) ≤ 2 := by
    obtain ⟨checkpoints, finalizes, _⟩ := parcels p
    split at finalizes <;> omega
  have sum : (allParcels.map fun p => s.store.queue.countP (QueueEntry.isCheckpointOf p)
      + s.store.queue.countP (QueueEntry.isFinalizeOf p)).sum ≤ 8 := by
    have h0 := each 0
    have h1 := each 1
    have h2 := each 2
    have h3 := each 3
    simp only [allParcels, List.map_cons, List.map_nil, List.sum_cons, List.sum_nil]
    omega
  omega

/-- Settles O5: every command upholds the limits, the end of start-up verification with its restores taken to fit. -/
theorem everyStepKeepsTheLimits : Obligations.EveryStepKeepsTheLimits := by
  unfold Obligations.EveryStepKeepsTheLimits
  refine ⟨fun s t h => ?_, fun s fits => ⟨fits.1, queue_length_le fits⟩⟩
  rcases step_cases h with ⟨c, rest, waits, kept⟩ | rfl
  · exact ⟨kept.bounded, fun fits restores => kept.rings fits fun e => restores rest (e ▸ waits), kept.queue, kept.revision⟩
  · have idle := s.idle_upholds
    refine ⟨idle.bounded, fun fits _ => ?_, idle.queue, idle.revision⟩
    rw [State.idle_eq]
    exact fits

end Sys2Proof.Machine
end

section
/-!
PROOFS. What a served request leaves of the part, given what its owning block answered: the links by the response and the
notices, everything else as the block left it.
-/

namespace Sys2Proof.Machine

/-! ### What a change of the links leaves -/

section
variable {s t : State} (h : OnlyLinks s t)
include h

theorem OnlyLinks.parcel (p : ParcelNo) : t.parcel p = s.parcel p := State.parcel_congr (by rw [h]) p
theorem OnlyLinks.tank (n : Nat) : t.tank n = s.tank n := State.tank_congr (by rw [h]) n
theorem OnlyLinks.meter (n : Nat) : t.meter n = s.meter n := State.meter_congr (by rw [h]) n
theorem OnlyLinks.tanks : t.tanks = s.tanks := by rw [h]
theorem OnlyLinks.meters : t.meters = s.meters := by rw [h]
theorem OnlyLinks.att : t.att = s.att := by rw [h]
theorem OnlyLinks.engine : t.engine = s.engine := by rw [h]
theorem OnlyLinks.store : t.store = s.store := by rw [h]
theorem OnlyLinks.lines : t.lines = s.lines := by rw [h]
theorem OnlyLinks.restoreLost : t.restoreLost = s.restoreLost := by rw [h]
theorem OnlyLinks.depthSum : t.depthSum = s.depthSum := State.depthSum_congr h.tanks h.meters
theorem OnlyLinks.fields (p : ParcelNo) : t.parcelFields p = s.parcelFields p := State.parcelFields_congr (h.parcel p)
theorem OnlyLinks.copy (p : ParcelNo) : t.checkpointCopy p = s.checkpointCopy p := by rw [h]; rfl

end

theorem OnlyLinks.refl (s : State) : OnlyLinks s s := rfl

theorem OnlyLinks.symm {s t : State} (h : OnlyLinks s t) : OnlyLinks t s := by
  unfold OnlyLinks at *
  rw [h]

/-! ### The answer -/

/-- What a served request leaves: its response and the notices on the links, and the rest as its block left it in `u`. -/
structure Answered (s u t : State) (l : Link) (tag : Byte) (r : Reply) (bs : List NoticeBody) : Prop where
  only : OnlyLinks u t
  replied : Replied s t l tag r bs

section
variable {r : Req} {body : Body} {l : Link} {tag : Byte} {pl : List Byte} {s u : State} {bs : List NoticeBody}

theorem serve_answered {reply : Reply} (takes : s.takes l) (right : mayRequest r l = true)
    (answer : body l pl (s.hunt l) = (u, reply))
    (links : ∀ m, u.link m = ((s.hunt l).link m).placeAll s.clock bs) :
    Answered s u (serve r body l tag pl s) l tag reply bs := by
  rw [serve_taken takes right, answer]
  refine ⟨State.answered_onlyLinks u l tag reply, replied_of_links ?_ fun m hm => ?_⟩
  · rw [links, State.link_hunt_same]
  · rw [links, State.link_hunt_ne _ hm]

/-- As `serve_answered`, of a block that changed nothing. -/
theorem serve_unchanged {reply : Reply} (takes : s.takes l) (right : mayRequest r l = true)
    (answer : body l pl (s.hunt l) = (s.hunt l, reply)) :
    Replied s (serve r body l tag pl s) l tag reply [] ∧ OnlyLinks s (serve r body l tag pl s) := by
  have answered := serve_answered (tag := tag) (bs := []) takes right answer fun m => rfl
  exact ⟨answered.replied, (s.hunt_onlyLinks l).trans answered.only⟩

/-- The response of an accepted parcel request shows the parcel as it then stands (R2). -/
theorem Answered.for {t : State} {p : ParcelNo} {c : Code} {more : List Byte}
    (h : Answered s u t l tag (Reply.withFields c (u.parcelFields p ++ more)) bs) : RepliedFor s t l tag p c more bs := by
  unfold RepliedFor
  rw [h.only.fields]
  exact h.replied

/-- A record changed, its lamp and the links with it, and nothing else. -/
structure RecordChanged (p : ParcelNo) (x : Parcel) (s t : State) : Prop where
  record : t.parcel p = x
  lamp : LampFollows p s t
  only : OnlyParcel p s t

theorem State.changeParcel_recordChanged (s : State) (p : ParcelNo) (x : Parcel) (c : Cause) :
    RecordChanged p x s (s.changeParcel p x c) :=
  ⟨s.parcel_changeParcel_same p x c, s.changeParcel_lampFollows p x c, s.changeParcel_onlyParcel p x c⟩

theorem RecordChanged.of_onlyLinks {p : ParcelNo} {x : Parcel} {s s' t t' : State} (hs : OnlyLinks s s') (ht : OnlyLinks t t')
    (h : RecordChanged p x s' t) : RecordChanged p x s t' :=
  ⟨(ht.parcel p).trans h.record, h.lamp.of_onlyLinks hs ht, h.only.of_onlyLinks hs ht⟩

theorem State.links_changeParcel (s : State) (l : Link) (p : ParcelNo) (x : Parcel) (c : Cause) (m : Link) :
    ((s.hunt l).changeParcel p x c).link m = ((s.hunt l).link m).placeAll s.clock (stateNotices p (s.parcel p) x c) := by
  rw [State.link_changeParcel, State.hunt_clock, State.parcel_hunt]

/-- A request its block answers by a change of one record. -/
theorem serve_changed {p : ParcelNo} {x : Parcel} {cause : Cause} {reply : Reply} (takes : s.takes l)
    (right : mayRequest r l = true) (answer : body l pl (s.hunt l) = ((s.hunt l).changeParcel p x cause, reply)) :
    RecordChanged p x s (serve r body l tag pl s)
      ∧ Answered s ((s.hunt l).changeParcel p x cause) (serve r body l tag pl s) l tag reply
        (stateNotices p (s.parcel p) x cause) := by
  have answered := serve_answered (tag := tag) takes right answer (s.links_changeParcel l p x cause)
  exact ⟨((s.hunt l).changeParcel_recordChanged p x cause).of_onlyLinks (s.hunt_onlyLinks l) answered.only, answered⟩

/-- As `serve_changed`, answered as R2 lays down. -/
theorem serve_changed_for {p : ParcelNo} {x : Parcel} {cause : Cause} {c : Code} {more : List Byte} (takes : s.takes l)
    (right : mayRequest r l = true)
    (answer : body l pl (s.hunt l) = ((s.hunt l).changeParcel p x cause).answerParcel p c more) :
    ∃ t, t = serve r body l tag pl s ∧ t.parcel p = x
      ∧ RepliedFor s t l tag p c more (stateNotices p (s.parcel p) (t.parcel p) cause) ∧ LampFollows p s t
      ∧ OnlyParcel p s t := by
  obtain ⟨changed, answered⟩ := serve_changed (tag := tag) takes right answer
  exact ⟨_, rfl, changed.record, changed.record ▸ answered.for, changed.lamp, changed.only⟩

/-- As `serve_changed`, answered as R2 lays down with a VALUE_CLAMPED flag. -/
theorem serve_changed_clamped {p : ParcelNo} {x : Parcel} {cause : Cause} {clamped : Bool} (takes : s.takes l)
    (right : mayRequest r l = true)
    (answer : body l pl (s.hunt l) = ((s.hunt l).changeParcel p x cause).answerClamped p clamped) :
    ∃ t, t = serve r body l tag pl s ∧ t.parcel p = x
      ∧ Replied s t l tag ⟨.ok, clamped, false, t.parcelFields p⟩ (stateNotices p (s.parcel p) (t.parcel p) cause)
      ∧ LampFollows p s t ∧ OnlyParcel p s t := by
  obtain ⟨changed, answered⟩ := serve_changed (tag := tag) takes right answer
  refine ⟨_, rfl, changed.record, ?_, changed.lamp, changed.only⟩
  rw [changed.record, answered.only.fields]
  exact answered.replied

end

/-! ### Requests by name -/

theorem Parcel.inTransfer_of {r : Parcel} (h : r.state = .transferring ∨ r.state = .suspended) : r.inTransfer = true :=
  (Parcel.inTransfer_iff r).mpr h

theorem ParcelState.declarable_of {x : ParcelState} (h : x = .declared ∨ x = .basisAgreed) : x.declarable = true :=
  (ParcelState.declarable_iff x).mpr h

/-- A parcel request in its right form reaches its own rule. -/
theorem withParcel_hunt {pl : List Byte} {n : Nat} {p : ParcelNo} {s : State} {l : Link} (h : Names pl n p)
    (idle : s.store.verifying = false) (k : ParcelNo → State × Reply) : withParcel (formLen n) pl (s.hunt l) k = k p :=
  withParcel_of_names h (by simpa using idle) k

end Sys2Proof.Machine
end

section
/-!
PROOFS. What the operations that several commands share do, in the terms of the statements: a job placed or withdrawn, a
checkpoint requested, a close executed, notices posted.
-/

namespace Sys2Proof.Machine

/-! ### `Within`, `LampFollows` and `AlarmKept` through a chain of operations -/

theorem Within.refl (p : ParcelNo) (s : State) : Within p s s := ⟨rfl, fun _ _ => rfl, rfl, fun _ _ => rfl⟩

theorem Within.trans {p : ParcelNo} {s t u : State} (h : Within p s t) (g : Within p t u) : Within p s u := by
  obtain ⟨rest, others, lines, lamps⟩ := h
  obtain ⟨rest', others', lines', lamps'⟩ := g
  refine ⟨?_, fun q ne => (others' q ne).trans (others q ne), ?_, fun q ne => (lamps' q ne).trans (lamps q ne)⟩
  · rw [rest', rest]
  · rw [lines', lines]

theorem AlarmKept.trans {s t u : State} (h : AlarmKept s t) (g : AlarmKept t u) : AlarmKept s u :=
  ⟨g.1.trans h.1, g.2.trans h.2⟩

theorem AlarmKept.refl (s : State) : AlarmKept s s := ⟨rfl, rfl⟩

theorem OnlyParcel.within {p : ParcelNo} {s t : State} (h : OnlyParcel p s t) : Within p s t := h.1
theorem OnlyParcel.engine {p : ParcelNo} {s t : State} (h : OnlyParcel p s t) : t.engine = s.engine := h.2.1
theorem OnlyParcel.store {p : ParcelNo} {s t : State} (h : OnlyParcel p s t) : t.store = s.store := h.2.2.1
theorem OnlyParcel.alarm {p : ParcelNo} {s t : State} (h : OnlyParcel p s t) : AlarmKept s t := h.2.2.2

/-- Nothing but the engine and the store differs. -/
def Aside (s t : State) : Prop := t = { s with engine := t.engine, store := t.store }

theorem Aside.trans {s t u : State} (h : Aside s t) (g : Aside t u) : Aside s u := by
  unfold Aside at *
  rw [g, h]

section
variable {s t : State} (h : Aside s t)
include h

theorem Aside.parcel (p : ParcelNo) : t.parcel p = s.parcel p := State.parcel_congr (by rw [h]) p
theorem Aside.link (l : Link) : t.link l = s.link l := by rw [h]; cases l <;> rfl
theorem Aside.lines : t.lines = s.lines := by rw [h]
theorem Aside.copy (p : ParcelNo) : t.checkpointCopy p = s.checkpointCopy p := by rw [h]; rfl
theorem Aside.alarm : AlarmKept s t := by rw [AlarmKept, h.lines]; exact ⟨rfl, rfl⟩

theorem Aside.within (p : ParcelNo) : Within p s t :=
  ⟨by rw [h], fun q _ => h.parcel q, by rw [h.lines], fun q _ => by rw [h.lines]⟩

end

theorem LampFollows.aside {p : ParcelNo} {s t u : State} (g : LampFollows p s t) (h : Aside t u) : LampFollows p s u := by
  unfold LampFollows at *
  rw [h.lines, h.parcel, g]

theorem LampFollows.from_aside {p : ParcelNo} {s t u : State} (h : Aside s t) (g : LampFollows p t u) : LampFollows p s u := by
  unfold LampFollows at *
  rw [g, h.lines, h]

/-- A record changed, and of the rest at most the engine and the store. -/
structure RecordChangedAside (p : ParcelNo) (x : Parcel) (s t : State) : Prop where
  record : t.parcel p = x
  lamp : LampFollows p s t
  within : Within p s t
  alarm : AlarmKept s t

theorem RecordChanged.aside {p : ParcelNo} {x : Parcel} {s t u : State} (g : RecordChanged p x s t) (h : Aside t u) :
    RecordChangedAside p x s u :=
  ⟨(h.parcel p).trans g.record, g.lamp.aside h, g.only.within.trans (h.within p), g.only.alarm.trans h.alarm⟩

theorem RecordChangedAside.of_onlyLinks {p : ParcelNo} {x : Parcel} {s s' t t' : State} (hs : OnlyLinks s s')
    (ht : OnlyLinks t t') (h : RecordChangedAside p x s' t) : RecordChangedAside p x s t' :=
  ⟨(ht.parcel p).trans h.record, h.lamp.of_onlyLinks hs ht, h.within.of_onlyLinks hs ht, by
    unfold AlarmKept
    rw [ht.lines, ← hs.lines]
    exact h.alarm⟩

/-- The chain of an event: the engine first, a record change, the engine and the store again. -/
theorem RecordChangedAside.from_aside {p : ParcelNo} {x : Parcel} {s t u : State} (h : Aside s t)
    (g : RecordChangedAside p x t u) : RecordChangedAside p x s u :=
  ⟨g.record, g.lamp.from_aside h, (h.within p).trans g.within, h.alarm.trans g.alarm⟩

/-! ### Jobs (R101, R106, R108) -/

theorem State.placeJob_aside (s : State) (k : JobKind) (p : ParcelNo) : Aside s (s.placeJob k p) := by
  unfold State.placeJob
  split <;> rfl

theorem JobSet.put_of_has {j : JobSet} {k : JobKind} (h : j.has k = true) : j.put k true = j := by
  obtain ⟨openJob, cycle, close⟩ := j
  cases k <;> exact h ▸ rfl

theorem State.placeJob_placed (s : State) (k : JobKind) (p : ParcelNo) : JobPlaced k p s.engine (s.placeJob k p).engine := by
  unfold State.placeJob JobPlaced
  by_cases waits : (s.engine.jobs p).has k = true
  · simp [waits, JobSet.put_of_has waits]
  · by_cases runs : s.engine.runs k p = true
    · simp [runs]
    · simp only [waits, runs, Bool.or_self, Bool.false_eq_true, if_false]
      exact ⟨rfl, rfl, fun q ne => s.engine.jobs_setJobs_ne ne _, s.engine.jobs_setJobs_same p _⟩

theorem State.voidCycle_voided (s : State) (p : ParcelNo) : CycleVoided p s.engine (s.voidCycle p).engine :=
  ⟨s.engine.jobs_setJobs_same p _, fun _ ne => s.engine.jobs_setJobs_ne ne _, rfl, rfl⟩

theorem State.voidCycle_aside (s : State) (p : ParcelNo) : Aside s (s.voidCycle p) := rfl

theorem State.cancelJobs_aside (s : State) (p : ParcelNo) : Aside s (s.cancelJobs p) := rfl

theorem State.engineIdle_aside (s : State) : Aside s s.engineIdle := rfl

theorem State.requestCheckpoint_aside (s : State) (p : ParcelNo) : Aside s (s.requestCheckpoint p) := by
  simp only [State.requestCheckpoint]
  split <;> rfl

/-! ### The alarm output (R129, R209) -/

theorem State.afterAlarm_lines (s : State) (was : Bool) :
    s.afterAlarm was = { s with lines := { s.lines with
      silence := (s.afterAlarm was).lines.silence, alarmOut := (s.afterAlarm was).lines.alarmOut } } := by
  cases was
  · rfl
  · simp only [State.afterAlarm, State.alarmFell, if_true]
    split <;> rfl

theorem State.afterAlarm_ended (s : State) (was : Bool) : AlarmEnded was s (s.afterAlarm was) := by
  have any : (s.afterAlarm was).anyAlarm = s.anyAlarm := State.anyAlarm_congr fun p => by rw [State.parcel_afterAlarm]
  unfold AlarmEnded
  rw [any]
  cases was
  · exact AlarmKept.refl s
  · simp only [State.afterAlarm, State.alarmFell, if_true, true_and]
    cases s.anyAlarm
    · exact ⟨rfl, rfl⟩
    · exact AlarmKept.refl s

theorem AlarmEnded.from_kept {was : Bool} {s t u : State} (h : AlarmKept s t) (g : AlarmEnded was t u) : AlarmEnded was s u := by
  unfold AlarmEnded at *
  split
  next ended => rwa [if_pos ended] at g
  next not => rw [if_neg not] at g; exact h.trans g

theorem AlarmEnded.of_lines {was : Bool} {s t u : State} (g : AlarmEnded was s t) (lines : u.lines = t.lines)
    (parcels : u.parcels = t.parcels) : AlarmEnded was s u := by
  have any : u.anyAlarm = t.anyAlarm := State.anyAlarm_congr fun p => by rw [State.parcel_congr parcels]
  unfold AlarmEnded AlarmKept at *
  rwa [lines, any]

theorem State.afterAlarm_within (s : State) (was : Bool) (p : ParcelNo) : Within p s (s.afterAlarm was) :=
  ⟨by rw [State.afterAlarm_lines], fun q _ => by rw [State.parcel_afterAlarm], by rw [State.afterAlarm_lines],
    fun q _ => s.afterAlarm_lamp was q⟩

theorem LampFollows.afterAlarm {p : ParcelNo} {s t : State} (g : LampFollows p s t) (was : Bool) :
    LampFollows p s (t.afterAlarm was) := by
  unfold LampFollows at *
  rw [State.afterAlarm_lamp, State.parcel_afterAlarm, g]

/-! ### A close executed (R20) -/

/-- What leaving TRANSFERRING makes of the waiting and running CYCLE of a parcel that closes (R106). -/
theorem State.voidFor_close (s : State) (p : ParcelNo) (transferring : Prop) [Decidable transferring] :
    let u := if transferring then s.voidCycle p else s
    Aside s u ∧ u.store = s.store ∧ u.engine.mark = s.engine.mark ∧ (∀ q, q ≠ p → u.engine.jobs q = s.engine.jobs q)
      ∧ u.engine.jobs p = { s.engine.jobs p with cycle := (s.engine.jobs p).cycle && !decide transferring }
      ∧ u.engine.running = s.engine.running.map (fun j =>
        if transferring ∧ j.kind = .cycle ∧ j.parcel = p then { j with voided := true } else j) := by
  by_cases h : transferring
  · obtain ⟨jobs, others, mark, running⟩ := s.voidCycle_voided p
    simp only [h, if_true, decide_true, Bool.not_true, Bool.and_false, true_and]
    exact ⟨s.voidCycle_aside p, rfl, mark, others, jobs, running⟩
  · simp [h, show Aside s s from rfl]

theorem Engine.runs_map_voided (e : Engine) (running : Option RunningJob) (test : RunningJob → Prop) [DecidablePred test]
    (h : running = e.running.map (fun j => if test j then { j with voided := true } else j)) (k : JobKind) (p : ParcelNo) :
    { e with running := running }.runs k p = e.runs k p := by
  subst h
  simp only [Engine.runs]
  cases e.running with
  | none => rfl
  | some j => simp only [Option.map_some]; split <;> rfl

theorem Engine.runs_congr {a b : Engine} (h : b.running = a.running) (k : JobKind) (p : ParcelNo) : b.runs k p = a.runs k p := by
  simp [Engine.runs, h]

/-- Everything a close that executes does (R20, R106, R129). -/
theorem State.executeClose_executed (s : State) (p : ParcelNo) (c : Cause) :
    CloseExecuted p (s.parcel p) s (s.executeClose p c) := by
  rw [State.executeClose_eq]
  set r := s.parcel p
  have changed := s.changeParcel_recordChanged p r.closingRecord c
  set v := s.changeParcel p r.closingRecord c
  have fell := v.afterAlarm_ended r.recon.alarm
  have fellWithin := v.afterAlarm_within r.recon.alarm p
  set w := v.afterAlarm r.recon.alarm with hw
  obtain ⟨aside, store, mark, others, jobs, running⟩ := w.voidFor_close p (r.state = .transferring)
  set x := if r.state = .transferring then w.voidCycle p else w
  have engine : w.engine = s.engine := by rw [hw, State.afterAlarm_engine, changed.only.engine]
  obtain ⟨running', mark', others', jobs'⟩ := x.placeJob_placed .close p
  have placed := aside.trans (x.placeJob_aside .close p)
  have runs : x.engine.runs .close p = s.engine.runs .close p := by
    rw [← engine, ← Engine.runs_map_voided w.engine x.engine.running _ running]
    exact Engine.runs_congr rfl _ _
  rw [engine] at mark others jobs running
  refine ⟨?_, mark'.trans mark, fun q ne => (others' q ne).trans (others q ne), ?_, ?_, ?_, running'.trans running, ?_, ?_, ?_, ?_⟩
  · rw [placed.parcel, hw, State.parcel_afterAlarm, changed.record]
  · rw [jobs', jobs]
    split <;> rfl
  · rw [jobs', jobs]
    split <;> rfl
  · rw [jobs', jobs, runs]
    cases s.engine.runs .close p <;> simp [JobSet.put]
  · exact (fell.from_kept changed.only.alarm).of_lines placed.lines (by rw [placed])
  · rw [State.placeJob_store, store, hw, State.afterAlarm_store, changed.only.store]
  · exact (changed.lamp.afterAlarm _).aside placed
  · exact (changed.only.within.trans fellWithin).trans (placed.within p)

theorem State.link_executeClose (s : State) (p : ParcelNo) (c : Cause) (m : Link) :
    (s.executeClose p c).link m = (s.link m).placeAll s.clock (stateNotices p (s.parcel p) (s.parcel p).closingRecord c) := by
  rw [State.executeClose_eq, State.link_placeJob]
  split <;> simp [State.link_changeParcel]

/-- `CloseExecuted` does not see what the links hold before and after. -/
theorem CloseExecuted.of_onlyLinks {p : ParcelNo} {r : Parcel} {s s' t t' : State} (hs : OnlyLinks s s') (ht : OnlyLinks t t')
    (h : CloseExecuted p r s' t) : CloseExecuted p r s t' := by
  obtain ⟨record, mark, others, openJob, cycle, close, running, alarm, store, lamp, within⟩ := h
  rw [hs.engine, ← ht.engine] at mark openJob cycle close running
  refine ⟨(ht.parcel p).trans record, mark, fun q ne => ?_, openJob, cycle, close, running, ?_, ?_, lamp.of_onlyLinks hs ht,
    within.of_onlyLinks hs ht⟩
  · rw [ht.engine, others q ne, hs.engine]
  · have kept : AlarmKept s s' := by rw [AlarmKept, hs.lines]; exact ⟨rfl, rfl⟩
    exact (alarm.from_kept kept).of_lines ht.lines (by rw [ht])
  · rw [ht.store, store, hs.store]

/-! ### Events (R199, R201) -/

/-- Once every notice of an event is placed, idle transmitters choose. -/
theorem posted_transmitAll {s u : State} {bs : List NoticeBody} (links : ∀ m, u.link m = (s.link m).placeAll s.clock bs) :
    Posted s u.transmitAll bs := fun m => by rw [State.link_transmitAll, links]

theorem State.transmitAll_onlyLinks (s : State) : OnlyLinks s s.transmitAll := rfl

theorem CheckpointRequested.of_onlyLinks {p : ParcelNo} {s s' t t' : State} (hs : OnlyLinks s s') (ht : OnlyLinks t t')
    (h : CheckpointRequested p s' t) : CheckpointRequested p s t' := by
  unfold CheckpointRequested at *
  rw [ht.store, ht.copy, h, hs.store]

theorem CheckpointRequested.of_store {p : ParcelNo} {s t u : State} (store : t.store = s.store)
    (h : CheckpointRequested p t u) : CheckpointRequested p s u := by
  unfold CheckpointRequested at *
  rw [h, store]

end Sys2Proof.Machine
end

section
/-!
PROOFS. Opening, suspending, resuming and closing a parcel, its marks and its timers (chapter 1, R110, R121 to R123).
-/

namespace Sys2Proof.Machine

/-! ### OPEN (R9, R39) -/

theorem reqOpen_of_names {pl : List Byte} {p : ParcelNo} {s : State} (l : Link) (h : Names pl 1 p)
    (idle : s.store.verifying = false) (agreed : (s.parcel p).state = .basisAgreed) :
    reqOpen l pl (s.hunt l) =
      if s.tanksOf p = [] ∨ s.metersOf p = [] then refuse (s.hunt l) .refusedState else (s.hunt l).joinOpen p l := by
  refine (withParcel_hunt h idle _).trans ?_
  simp [agreed, List.isEmpty_iff]

/-- OPEN of a party already in the open set, of the first party, and of the second (R9). -/
theorem State.joinOpen_has {s : State} {p : ParcelNo} {l : Link} (h : (s.parcel p).openSet.has l = true) :
    s.joinOpen p l = s.answerParcel p .ok [] := by
  simp only [State.joinOpen, h, if_true]

theorem State.joinOpen_first {s : State} {p : ParcelNo} {l : Link} (h : (s.parcel p).openSet = ⟨false, false⟩) :
    s.joinOpen p l = (s.changeParcel p { s.parcel p with openSet := ⟨decide (l = .ship), decide (l = .shore)⟩ }
      (.request .openParcel l)).answerParcel p .ok [] := by
  cases l <;> simp [State.joinOpen, h, PartySet.put, PartySet.has, PartySet.isFull]

theorem State.joinOpen_second {s : State} {p : ParcelNo} {l : Link}
    (h : (s.parcel p).openSet = ⟨decide (l ≠ .ship), decide (l ≠ .shore)⟩) :
    s.joinOpen p l = ((s.changeParcel p { s.parcel p with openSet := ⟨true, true⟩, state := .opening }
      (.request .openParcel l)).placeJob .openJob p).answerParcel p .accepted [] := by
  cases l <;> simp [State.joinOpen, h, PartySet.put, PartySet.has, PartySet.isFull]

/-- A request its block answers by a change of one record and then by changes of the engine and the store. -/
theorem serve_changed_aside {r : Req} {body : Body} {l : Link} {tag : Byte} {pl : List Byte} {s u : State} {p : ParcelNo}
    {x : Parcel} {cause : Cause} {c : Code} {more : List Byte} (takes : s.takes l) (right : mayRequest r l = true)
    (answer : body l pl (s.hunt l) = u.answerParcel p c more) (aside : Aside ((s.hunt l).changeParcel p x cause) u) :
    RecordChangedAside p x s (serve r body l tag pl s) ∧ OnlyLinks u (serve r body l tag pl s)
      ∧ RepliedFor s (serve r body l tag pl s) l tag p c more (stateNotices p (s.parcel p) x cause) := by
  have answered := serve_answered (tag := tag) takes right answer fun m => (aside.link m).trans (s.links_changeParcel l p x cause m)
  exact ⟨(((s.hunt l).changeParcel_recordChanged p x cause).aside aside).of_onlyLinks (s.hunt_onlyLinks l) answered.only,
    answered.only, answered.for⟩

/-- Settles O16: a refusal, and the open set's three cases. -/
theorem openJoinsTheOpenSet : Obligations.OpenJoinsTheOpenSet := by
  unfold Obligations.OpenJoinsTheOpenSet
  intro s l tag pl p ⟨takes, right, idle⟩ named agreed
  have body := reqOpen_of_names l named idle agreed
  refine ⟨fun lacking => ⟨_, rfl, turnedAway_of_refuse takes right (body.trans (if_pos lacking))⟩,
    fun tanks meters has => ⟨_, rfl, ?again⟩, fun tanks meters empty => ?first, fun tanks meters other => ⟨_, rfl, ?second⟩⟩
  all_goals
    replace body := body.trans (if_neg (not_or.mpr ⟨tanks, meters⟩))
  case again =>
    obtain ⟨replied, only⟩ := serve_unchanged (tag := tag) takes right (body.trans (State.joinOpen_has (by simpa using has)))
    rw [List.append_nil, State.parcelFields_congr (s.parcel_hunt l p)] at replied
    exact ⟨replied, only⟩
  case first =>
    obtain ⟨t, rfl, changed⟩ := serve_changed_for (tag := tag) takes right (body.trans (State.joinOpen_first (by simpa using empty)))
    rw [State.parcel_hunt] at changed
    exact ⟨_, rfl, changed⟩
  case second =>
    obtain ⟨changed, only, replied⟩ := serve_changed_aside (tag := tag) takes right
      (body.trans (State.joinOpen_second (by simpa using other))) (State.placeJob_aside _ _ _)
    have placed := ((s.hunt l).changeParcel p { (s.hunt l).parcel p with openSet := ⟨true, true⟩, state := .opening }
      (.request .openParcel l)).placeJob_placed .openJob p
    rw [State.changeParcel_engine, State.hunt_engine, ← only.engine] at placed
    rw [State.parcel_hunt] at changed replied
    refine ⟨changed.record, placed, changed.record ▸ replied, changed.lamp, changed.within, ?_, changed.alarm⟩
    simp [only.store]

/-! ### SUSPEND and RESUME (R11 to R14) -/

theorem SuspendSet.put_true (x : SuspendSet) (l : Link) :
    x.put l true = { x with ship := x.ship || decide (l = .ship), shore := x.shore || decide (l = .shore) } := by
  cases l <;> simp [SuspendSet.put]

theorem SuspendSet.put_false (x : SuspendSet) (l : Link) :
    x.put l false = { x with ship := x.ship && decide (l ≠ .ship), shore := x.shore && decide (l ≠ .shore) } := by
  cases l <;> simp [SuspendSet.put]

theorem PartySet.put_true (x : PartySet) (l : Link) :
    x.put l true = ⟨x.ship || decide (l = .ship), x.shore || decide (l = .shore)⟩ := by
  cases l <;> simp [PartySet.put]

theorem PartySet.put_false (x : PartySet) (l : Link) :
    x.put l false = ⟨x.ship && decide (l ≠ .ship), x.shore && decide (l ≠ .shore)⟩ := by
  cases l <;> simp [PartySet.put]

theorem SuspendSet.isEmpty_eq (x : SuspendSet) : x.isEmpty = decide (x = ⟨false, false, false, false⟩) := by
  obtain ⟨ship, shore, esd, restart⟩ := x
  cases ship <;> cases shore <;> cases esd <;> cases restart <;> rfl

theorem PartySet.isEmpty_iff (x : PartySet) : x.isEmpty = true ↔ x = ⟨false, false⟩ := by
  obtain ⟨ship, shore⟩ := x
  cases ship <;> cases shore <;> simp [PartySet.isEmpty]

theorem PartySet.isFull_iff (x : PartySet) : x.isFull = true ↔ x = ⟨true, true⟩ := by
  obtain ⟨ship, shore⟩ := x
  cases ship <;> cases shore <;> simp [PartySet.isFull]

theorem State.suspendWith_transferring {s : State} {p : ParcelNo} (x : SuspendSet) (c : Cause)
    (h : (s.parcel p).state = .transferring) :
    s.suspendWith p x c = ((s.changeParcel p { s.parcel p with
      state := .suspended, suspendSet := x, cycleTimer := none } c).voidCycle p).requestCheckpoint p := by
  simp [State.suspendWith, h, Parcel.toSuspended]

theorem State.suspendWith_suspended {s : State} {p : ParcelNo} (x : SuspendSet) (c : Cause)
    (h : (s.parcel p).state = .suspended) :
    s.suspendWith p x c = s.changeParcel p { s.parcel p with suspendSet := x } c := by
  simp [State.suspendWith, h]

/-- Everything suspending from TRANSFERRING does beside the record (R14, R25, R106). -/
theorem State.suspended_aside (s : State) (p : ParcelNo) (r : Parcel) (c : Cause) :
    let u := ((s.changeParcel p r c).voidCycle p).requestCheckpoint p
    Aside (s.changeParcel p r c) u ∧ CycleVoided p s.engine u.engine ∧ CheckpointRequested p s u := by
  refine ⟨(State.voidCycle_aside _ p).trans (State.requestCheckpoint_aside _ p), ?_, ?_⟩
  · have voided := (s.changeParcel p r c).voidCycle_voided p
    rwa [State.requestCheckpoint_engine, ← s.changeParcel_engine p r c]
  · exact (State.requestCheckpoint_requested _ p).of_store (by simp)

theorem reqSuspend_of_names {pl : List Byte} {p : ParcelNo} {s : State} (l : Link) (h : Names pl 1 p)
    (idle : s.store.verifying = false) (state : (s.parcel p).state = .transferring ∨ (s.parcel p).state = .suspended) :
    reqSuspend l pl (s.hunt l) =
      ((s.hunt l).suspendWith p ((s.parcel p).suspendSet.put l true) (.request .suspend l)).answerParcel p .ok [] := by
  refine (withParcel_hunt h idle _).trans ?_
  simp [Parcel.inTransfer_of state]

/-- The sets after a party's RESUME (R13). -/
theorem resumeSets_eq (x : SuspendSet) (rr : PartySet) (l : Link) :
    let joined : PartySet := ⟨rr.ship || decide (l = .ship), rr.shore || decide (l = .shore)⟩
    let confirmed := x.restart && joined.ship && joined.shore
    resumeSets x rr l = (⟨x.ship && decide (l ≠ .ship), x.shore && decide (l ≠ .shore), x.esd, x.restart && !confirmed⟩,
      if confirmed then ⟨false, false⟩ else if x.restart then joined else rr) := by
  obtain ⟨ship, shore, esd, restart⟩ := x
  simp only [resumeSets, SuspendSet.put_false, PartySet.put_true, PartySet.isFull]
  cases restart
  · simp
  · simp only [if_true, Bool.true_and]
    split
    next full => simp [full, PartySet.empty]
    next not => simp [not]

theorem State.resumeWith_eq (s : State) (p : ParcelNo) (x : SuspendSet) (rr : PartySet) (c : Cause) :
    let back := decide ((s.parcel p).state = .suspended) && decide (x = ⟨false, false, false, false⟩)
    s.resumeWith p x rr c = s.changeParcel p { s.parcel p with
      state := if back then .transferring else (s.parcel p).state
      cycleTimer := if back then some (s.clock + tenths (s.parcel p).params.cyclePeriod) else (s.parcel p).cycleTimer
      suspendSet := x
      restartResume := rr } c := by
  simp only [State.resumeWith, SuspendSet.isEmpty_eq, Bool.and_eq_true, decide_eq_true_eq]
  split
  next h => simp [Parcel.toTransferring]
  · rfl

theorem reqResume_of_names {pl : List Byte} {p : ParcelNo} {s : State} (l : Link) (h : Names pl 1 p)
    (idle : s.store.verifying = false) (state : (s.parcel p).state = .transferring ∨ (s.parcel p).state = .suspended) :
    reqResume l pl (s.hunt l) =
      ((s.hunt l).resumeWith p (resumeSets (s.parcel p).suspendSet (s.parcel p).restartResume l).1
        (resumeSets (s.parcel p).suspendSet (s.parcel p).restartResume l).2 (.request .resume l)).answerParcel p .ok [] := by
  refine (withParcel_hunt h idle _).trans ?_
  simp [Parcel.inTransfer_of state]

/-- Settles O24: SUSPEND by the state it finds, RESUME by the sets it leaves. -/
theorem suspendAndResumeMoveTheParty : Obligations.SuspendAndResumeMoveTheParty := by
  unfold Obligations.SuspendAndResumeMoveTheParty
  refine ⟨fun s l tag pl p ⟨takes, right, idle⟩ named => ⟨fun transferring => ⟨_, rfl, ?suspends⟩, fun suspended => ?joins⟩,
    fun s l tag pl p ⟨takes, right, idle⟩ named state => ?resumes⟩
  case suspends =>
    have body := reqSuspend_of_names l named idle (.inl transferring)
    rw [State.suspendWith_transferring _ _ (by simpa using transferring), SuspendSet.put_true] at body
    obtain ⟨aside, voided, requested⟩ := (s.hunt l).suspended_aside p _ _
    obtain ⟨changed, only, replied⟩ := serve_changed_aside (tag := tag) takes right body aside
    rw [State.parcel_hunt] at changed replied
    rw [State.hunt_engine] at voided
    exact ⟨changed.record, only.engine ▸ voided, requested.of_onlyLinks (s.hunt_onlyLinks l) only,
      changed.record ▸ replied, changed.lamp, changed.within, changed.alarm⟩
  case joins =>
    have body := reqSuspend_of_names l named idle (.inr suspended)
    rw [State.suspendWith_suspended _ _ (by simpa using suspended), SuspendSet.put_true] at body
    obtain ⟨t, rfl, changed⟩ := serve_changed_for (tag := tag) takes right body
    rw [State.parcel_hunt] at changed
    exact ⟨_, rfl, changed⟩
  case resumes =>
    have body := reqResume_of_names l named idle state
    rw [State.resumeWith_eq, resumeSets_eq, State.parcel_hunt, State.hunt_clock] at body
    obtain ⟨t, rfl, changed⟩ := serve_changed_for (tag := tag) takes right body
    exact ⟨_, rfl, changed⟩

/-! ### CLOSE and CANCEL_CLOSE (R18 to R20) -/

theorem parcelOf_eq_some {n : Nat} {p : ParcelNo} : parcelOf n = some p ↔ n = p.val + 1 := by
  unfold parcelOf
  split <;> (try fin_cases p) <;> simp_all

/-- The settle condition of R18. -/
theorem State.settled_iff (s : State) (p : ParcelNo) : s.settled p = true ↔ Settled s p := by
  simp only [State.settled, Settled, Bool.or_eq_true]
  refine or_congr ?_ ?_
  · cases named : parcelOf (s.parcel p).params.valveInput with
    | some n =>
      rw [parcelOf_eq_some] at named
      refine ⟨fun h => ⟨n, named, h⟩, fun ⟨m, h, level⟩ => ?_⟩
      have : m = n := Fin.ext (by omega)
      exact this ▸ level
    | none =>
      refine ⟨fun h => (by cases h), fun ⟨m, h, _⟩ => ?_⟩
      rw [parcelOf_eq_some.mpr h] at named
      cases named
  · unfold Parcel.noFlowReached
    cases (s.parcel p).noFlow s.clock <;> simp

theorem Settled.hunt_iff (s : State) (l : Link) (p : ParcelNo) : (s.hunt l).settled p = true ↔ Settled s p := by
  rw [← State.settled_iff]
  simp [State.settled]

theorem reqClose_of_names {pl : List Byte} {p : ParcelNo} {s : State} (l : Link) (h : Names pl 1 p)
    (idle : s.store.verifying = false) (state : (s.parcel p).state = .transferring ∨ (s.parcel p).state = .suspended) :
    reqClose l pl (s.hunt l) =
      if (s.hunt l).settled p then ((s.hunt l).executeClose p (.request .close l)).answerParcel p .accepted []
      else ((s.hunt l).changeParcel p { s.parcel p with
        closeReservation := ⟨(s.parcel p).closeReservation.ship || decide (l = .ship),
          (s.parcel p).closeReservation.shore || decide (l = .shore)⟩ } (.request .close l)).answerParcel p .reserved [] := by
  refine (withParcel_hunt h idle _).trans ?_
  simp [Parcel.inTransfer_of state, PartySet.put_true]

theorem reqCancelClose_of_names {pl : List Byte} {p : ParcelNo} {s : State} (l : Link) (h : Names pl 1 p)
    (idle : s.store.verifying = false) (state : (s.parcel p).state = .transferring ∨ (s.parcel p).state = .suspended) :
    reqCancelClose l pl (s.hunt l) =
      if (s.parcel p).closeReservation.has l = true then
        ((s.hunt l).changeParcel p { s.parcel p with
          closeReservation := ⟨(s.parcel p).closeReservation.ship && decide (l ≠ .ship),
            (s.parcel p).closeReservation.shore && decide (l ≠ .shore)⟩ } (.request .cancelClose l)).answerParcel p .ok []
      else refuse (s.hunt l) .refusedState := by
  refine (withParcel_hunt h idle _).trans ?_
  simp [Parcel.inTransfer_of state, PartySet.put_false]

/-- A request its block answers by the execution of a close. -/
theorem serve_closed {r : Req} {body : Body} {l : Link} {tag : Byte} {pl : List Byte} {s : State} {p : ParcelNo}
    {cause : Cause} {c : Code} (takes : s.takes l) (right : mayRequest r l = true)
    (answer : body l pl (s.hunt l) = ((s.hunt l).executeClose p cause).answerParcel p c []) :
    ∃ t, t = serve r body l tag pl s ∧ CloseExecuted p (s.parcel p) s t
      ∧ RepliedFor s t l tag p c [] (stateNotices p (s.parcel p) (t.parcel p) cause) := by
  have closed := (s.hunt l).executeClose_executed p cause
  have answered := serve_answered (tag := tag) takes right answer fun m => by
    rw [(s.hunt l).link_executeClose p cause, State.hunt_clock]
  have closed := closed.of_onlyLinks (s.hunt_onlyLinks l) answered.only
  rw [State.parcel_hunt] at closed answered
  exact ⟨_, rfl, closed, closed.1 ▸ answered.for⟩

/-- Settles O25: CLOSE by the settle condition, CANCEL_CLOSE by the reservation. -/
theorem closeExecutesOrIsReserved : Obligations.CloseExecutesOrIsReserved := by
  unfold Obligations.CloseExecutesOrIsReserved
  refine ⟨fun s l tag pl p ⟨takes, right, idle⟩ named state => ?_, fun s l tag pl p ⟨takes, right, idle⟩ named state => ?_⟩
  · have body := reqClose_of_names l named idle state
    refine ⟨fun settled => ?_, fun unsettled => ?_⟩
    · obtain ⟨t, rfl, closed⟩ := serve_closed (tag := tag) takes right
        (body.trans (if_pos ((Settled.hunt_iff s l p).mpr settled)))
      exact ⟨_, rfl, closed⟩
    · obtain ⟨t, rfl, changed⟩ := serve_changed_for (tag := tag) takes right
        (body.trans (if_neg (mt (Settled.hunt_iff s l p).mp unsettled)))
      exact ⟨_, rfl, changed⟩
  · have body := reqCancelClose_of_names l named idle state
    refine ⟨fun has => ?_, fun hasNot => ⟨_, rfl, ?_⟩⟩
    · obtain ⟨t, rfl, changed⟩ := serve_changed_for (tag := tag) takes right (body.trans (if_pos has))
      exact ⟨_, rfl, changed⟩
    · exact turnedAway_of_refuse takes right (body.trans (if_neg (by simp [hasNot])))

/-! ### The marks of the no-flow timer (R17, R19, R121, R122) -/

theorem Parcel.noFlowReached_of {r : Parcel} {now : Instant} {x mark : Nat} (h : r.noFlow now = some x) (reached : mark ≤ x) :
    r.noFlowReached now mark = true := by
  simp [Parcel.noFlowReached, h, reached]

theorem State.setParcel_otherParcels (s : State) (p : ParcelNo) (r : Parcel) : OtherParcels p s (s.setParcel p r) :=
  fun _ ne => s.parcel_setParcel_ne ne r

theorem State.setParcel_within (s : State) (p : ParcelNo) (r : Parcel) : Within p s (s.setParcel p r) :=
  ⟨rfl, s.setParcel_otherParcels p r, rfl, fun _ _ => rfl⟩

theorem State.setParcel_onlyParcel (s : State) (p : ParcelNo) (r : Parcel) : OnlyParcel p s (s.setParcel p r) :=
  ⟨s.setParcel_within p r, rfl, rfl, rfl, rfl⟩

/-- A settle mark reached, by the reservation that stands (R17, R19). -/
theorem State.reachSettleMark_of {s : State} {p : ParcelNo} {x : Nat}
    (state : (s.parcel p).state = .transferring ∨ (s.parcel p).state = .suspended) (armed : (s.parcel p).settleArmed = true)
    (noFlow : (s.parcel p).noFlow s.clock = some x) (reached : (s.parcel p).params.settleTime ≤ x) :
    s.reachSettleMark p = if (s.parcel p).closeReservation = ⟨false, false⟩ then
        s.setParcel p { s.parcel p with settleArmed := false }
      else ((s.setParcel p { s.parcel p with settleArmed := false }).executeClose p .settledByTime).transmitAll := by
  simp only [State.reachSettleMark, Parcel.inTransfer_of state, armed, Parcel.noFlowReached_of noFlow reached, Bool.and_self,
    if_true, PartySet.isEmpty_iff]

/-- `CloseExecuted` from a state that differs in the closing record alone. -/
theorem CloseExecuted.from_setParcel {p : ParcelNo} {r x : Parcel} {s t : State} (h : CloseExecuted p x (s.setParcel p r) t) :
    CloseExecuted p x s t := by
  obtain ⟨record, mark, others, openJob, cycle, close, running, alarm, store, lamp, within⟩ := h
  exact ⟨record, mark, others, openJob, cycle, close, running, alarm.from_kept (AlarmKept.refl s), store, lamp,
    (s.setParcel_within p r).trans within⟩

/-- Settles O26: the mark is spent, and a reserved close executes. -/
theorem settleMarkCarriesOutTheReservation : Obligations.SettleMarkCarriesOutTheReservation := by
  unfold Obligations.SettleMarkCarriesOutTheReservation
  intro s p x state armed noFlow reached
  have settled := State.reachSettleMark_of state armed noFlow reached
  refine ⟨fun empty => ⟨_, rfl, ?_⟩, fun reserved => ⟨_, rfl, ?_⟩⟩
  · rw [settled, if_pos empty]
    exact ⟨rfl, s.setParcel_otherParcels p _, s.parcel_setParcel_same p _⟩
  · rw [settled, if_neg reserved]
    have closed := (s.setParcel p { s.parcel p with settleArmed := false }).executeClose_executed p .settledByTime
    rw [State.parcel_setParcel_same] at closed
    have record := closed.1
    refine ⟨closed.from_setParcel.of_onlyLinks (OnlyLinks.refl s) (State.transmitAll_onlyLinks _), ?_⟩
    refine posted_transmitAll fun m => ?_
    rw [State.link_executeClose, State.parcel_transmitAll, record, State.parcel_setParcel_same]
    rfl

/-- The notice of a restored grade (R122). -/
def restoreNotices (p : ParcelNo) (r : Parcel) (cause : GradeCause) : List NoticeBody :=
  if r.recon.grade = 1 then [] else [.gradeChange p r.recon.grade 1 cause none false false r.lowestGrade]

/-- Everything a restore of the grade does (R122). -/
theorem State.restoreGrade_spec (s : State) (p : ParcelNo) (c : GradeCause) :
    (s.restoreGrade p c).parcel p = { s.parcel p with recon := (s.parcel p).recon.restored }
      ∧ OnlyLinks (s.setParcel p { s.parcel p with recon := (s.parcel p).recon.restored }) (s.restoreGrade p c)
      ∧ ∀ m, (s.restoreGrade p c).link m = (s.link m).placeAll s.clock (restoreNotices p (s.parcel p) c) := by
  simp only [State.restoreGrade, restoreNotices]
  split
  · exact ⟨s.parcel_setParcel_same p _, rfl, fun m => by simp⟩
  · exact ⟨by simp, rfl, fun m => by simp⟩

/-- Settles O27: the mark is spent, the grade restored. -/
theorem restoreMarkRestoresTheGrade : Obligations.RestoreMarkRestoresTheGrade := by
  unfold Obligations.RestoreMarkRestoresTheGrade
  intro s p x state armed noFlow reached
  refine ⟨_, rfl, ?_⟩
  have restored : s.reachRestoreMark p
      = ((s.setParcel p { s.parcel p with restoreArmed := false }).restoreGrade p .restoredByTime).transmitAll := by
    simp only [State.reachRestoreMark, Parcel.inTransfer_of state, armed, Parcel.noFlowReached_of noFlow reached, Bool.and_self,
      if_true]
  rw [restored]
  set u := s.setParcel p { s.parcel p with restoreArmed := false } with hu
  obtain ⟨record, only, links⟩ := u.restoreGrade_spec p .restoredByTime
  have spent := s.parcel_setParcel_same p { s.parcel p with restoreArmed := false }
  rw [← hu] at spent
  rw [spent] at record only links
  have only := only.trans (State.transmitAll_onlyLinks _)
  refine ⟨(State.parcel_transmitAll _ p).trans record, ?_, ?_, only.lines⟩
  · exact posted_transmitAll fun m => (links m).trans rfl
  · refine OnlyParcel.of_onlyLinks (OnlyLinks.refl s) only ?_
    exact ⟨(s.setParcel_within p _).trans (u.setParcel_within p _), rfl, rfl, rfl, rfl⟩

/-! ### RESTORE_GRADE (R123) -/

/-- The fields of the response to RESTORE_GRADE (R123). -/
theorem Recon.restored_fields (r : Recon) :
    e1 r.restored.grade ++ e1 r.restored.indeterminate ++ eDownFlags r.restored.downFrom1 r.restored.downFrom2 = [1, 0, 0] := by
  change e1 1 ++ e1 0 ++ eDownFlags false false = [1, 0, 0]
  decide

theorem reqRestoreGrade_of_names {pl : List Byte} {p : ParcelNo} {s : State} (l : Link) (h : Names pl 1 p)
    (idle : s.store.verifying = false) :
    reqRestoreGrade l pl (s.hunt l) = if (s.parcel p).inTransfer then
        ((s.hunt l).restoreGrade p .restoreGrade).answerParcel p .ok [1, 0, 0]
      else refuse (s.hunt l) .refusedState := by
  refine (withParcel_hunt h idle _).trans ?_
  have record := ((s.hunt l).restoreGrade_spec p .restoreGrade).1
  simp only [State.parcel_hunt] at record ⊢
  rw [record]
  simp only [Recon.restored_fields]

theorem mayRequest_restoreGrade (l : Link) : mayRequest .restoreGrade l = decide (l = .survey) := by
  cases l <;> rfl

/-- A request whose link has no right to it is refused before its block sees it (R195). -/
theorem turnedAway_of_rights {r : Req} {body : Body} {l : Link} {tag : Byte} {pl : List Byte} {s : State}
    (takes : s.takes l) (right : mayRequest r l = false) : TurnedAway s (serve r body l tag pl s) l tag .refusedRights := by
  have served : serve r body l tag pl s = (s.hunt l |>.respond l tag (Reply.plain .refusedRights)).transmitAll := by
    simp [serve, State.takeFrame, takes.1, Nat.not_le.mpr takes.2, examine, right, refuse]
  rw [served]
  refine ⟨replied_of_links (s.link_hunt_same l) fun m ne => s.link_hunt_ne ne, ?_⟩
  exact (s.hunt_onlyLinks l).trans (State.answered_onlyLinks _ _ _ _)

/-- Settles O28: RESTORE_GRADE by link and state. -/
theorem restoreGradeRestoresTheGrade : Obligations.RestoreGradeRestoresTheGrade := by
  unfold Obligations.RestoreGradeRestoresTheGrade
  intro s l tag pl p takes idle named
  have body := reqRestoreGrade_of_names l named idle
  refine ⟨fun survey state => ⟨_, rfl, ?restored⟩, fun other => ⟨_, rfl, ?rights⟩, fun survey notT notS => ⟨_, rfl, ?refused⟩⟩
  case restored =>
    have right : mayRequest .restoreGrade l = true := by simp [mayRequest_restoreGrade, survey]
    obtain ⟨record, only, links⟩ := (s.hunt l).restoreGrade_spec p .restoreGrade
    rw [State.hunt_clock, State.parcel_hunt] at links
    have answered := serve_answered (tag := tag) takes right (body.trans (if_pos (Parcel.inTransfer_of state))) links
    have only := only.trans answered.only
    rw [State.parcel_hunt] at record
    refine ⟨(answered.only.parcel p).trans record, answered.for, ?_, by simp [only.lines]⟩
    exact ((s.hunt l).setParcel_onlyParcel p _).of_onlyLinks (s.hunt_onlyLinks l) only
  case rights => exact turnedAway_of_rights takes (by simp [mayRequest_restoreGrade, other])
  case refused =>
    have out : ¬(s.parcel p).inTransfer = true := by simp [Parcel.inTransfer_iff, notT, notS]
    exact turnedAway_of_refuse takes (by simp [mayRequest_restoreGrade, survey]) (body.trans (if_neg out))

end Sys2Proof.Machine
end

section
/-!
PROOFS. DECLARE, SET_PARAMETER, the assignments, and RELEASE (R3 to R8, R24).
-/

namespace Sys2Proof.Machine

/-! ### DECLARE (R3) -/

theorem State.lowestFree_eq {s : State} {p : ParcelNo} (free : (s.parcel p).state = .free)
    (below : ∀ q < p, (s.parcel q).state ≠ .free) : s.lowestFree = some p := by
  have held : (s.parcel p).state.isFree = true := by simp [ParcelState.isFree, free]
  have taken (q : ParcelNo) (lt : q < p) : (s.parcel q).state.isFree = false := by simp [ParcelState.isFree, below q lt]
  unfold State.lowestFree allParcels
  fin_cases p
  · simp_all
  · have h0 := taken 0 (by decide)
    simp_all
  · have h0 := taken 0 (by decide)
    have h1 := taken 1 (by decide)
    simp_all
  · have h0 := taken 0 (by decide)
    have h1 := taken 1 (by decide)
    have h2 := taken 2 (by decide)
    simp_all

/-- DECLARE of a FREE parcel, named or the lowest (R3), comes to its field checks. -/
theorem reqDeclare_of_free {s : State} {pl : List Byte} {p : ParcelNo} (l : Link) (idle : s.store.verifying = false)
    (form : pl.length = 4 + u8 pl 2) (free : (s.parcel p).state = .free)
    (named : u8 pl 0 = p.val + 1 ∨ (u8 pl 0 = 0 ∧ ∀ q < p, (s.parcel q).state ≠ .free)) :
    reqDeclare l pl (s.hunt l) = (s.hunt l).declare l pl p := by
  unfold reqDeclare
  simp only [State.hunt_store, idle, declareForm, form, decide_true, Bool.false_eq_true, if_false, if_true]
  rcases named with number | ⟨zero, below⟩
  · rw [if_neg (by omega), parcelOf_eq_some.mpr number]
    simp [ParcelState.isFree, free]
  · rw [if_pos zero, State.lowestFree_eq (s := s.hunt l) (p := p) (by simpa using free) (by simpa using below)]

theorem declareLabel_length {pl : List Byte} (form : pl.length = 4 + u8 pl 2) : (declareLabel pl).length = u8 pl 2 := by
  simp only [declareLabel, List.length_take, List.length_drop]
  omega

theorem directionOf_eq_none {n : Nat} : directionOf n = none ↔ n ≠ 1 ∧ n ≠ 2 := by
  unfold directionOf
  split <;> simp_all

theorem printable_iff {label : List Byte} : printable label = true ↔ ∀ b ∈ label, 0x20 ≤ b.toNat ∧ b.toNat ≤ 0x7E := by
  simp [printable]

theorem inRange_iff {lo hi v : Int} : inRange lo hi v = true ↔ lo ≤ v ∧ v ≤ hi := by simp [inRange]

/-- The fields of a declaration within their ranges (R3). -/
theorem declarationOf_ok {l : Link} {pl : List Byte} {dir : Direction} (form : pl.length = 4 + u8 pl 2)
    (direction : (u8 pl 1 = 1 ∧ dir = .load) ∨ (u8 pl 1 = 2 ∧ dir = .discharge)) (lo : 1 ≤ u8 pl 2) (hi : u8 pl 2 ≤ 8)
    (text : ∀ b ∈ declareLabel pl, 0x20 ≤ b.toNat ∧ b.toNat ≤ 0x7E) (witness : u8 pl (3 + u8 pl 2) ≤ 1) :
    declarationOf l pl = some ⟨dir, declareLabel pl, decide (u8 pl (3 + u8 pl 2) = 1), l⟩ := by
  have given : directionOf (u8 pl 1) = some dir := by
    rcases direction with ⟨e, rfl⟩ | ⟨e, rfl⟩ <;> rw [e] <;> rfl
  have length : inRange 1 8 (declareLabel pl).length = true := inRange_iff.mpr (by rw [declareLabel_length form]; omega)
  simp only [declarationOf, given, length, printable_iff.mpr text, witness, decide_true, Bool.and_self, if_true]

/-- A field out of its range makes no declaration (R3). -/
theorem declarationOf_out {l : Link} {pl : List Byte} (form : pl.length = 4 + u8 pl 2)
    (out : (u8 pl 1 ≠ 1 ∧ u8 pl 1 ≠ 2) ∨ u8 pl 2 = 0 ∨ 8 < u8 pl 2
      ∨ (∃ b ∈ declareLabel pl, b.toNat < 0x20 ∨ 0x7E < b.toNat) ∨ 1 < u8 pl (3 + u8 pl 2)) :
    declarationOf l pl = none := by
  simp only [declarationOf]
  split
  next dir given =>
    refine if_neg fun ok => ?_
    simp only [Bool.and_eq_true, decide_eq_true_eq] at ok
    obtain ⟨⟨length, text⟩, witness⟩ := ok
    rw [inRange_iff, declareLabel_length form] at length
    rcases out with direction | short | long | ⟨b, mem, bad⟩ | two
    · rw [directionOf_eq_none.mpr direction] at given
      cases given
    · omega
    · omega
    · have := printable_iff.mp text b mem
      omega
    · omega
  · rfl

theorem State.setRestoreLost_get (s : State) (p q : ParcelNo) (b : Bool) :
    (s.setRestoreLost p b).restoreLost.get q = if q = p then b else s.restoreLost.get q := by
  unfold State.setRestoreLost
  simp only [Vector.get_eq_getElem]
  split
  next e => subst e; simp
  next ne =>
    have : p.val ≠ q.val := fun e => ne (Fin.ext e.symm)
    simp [this]

/-- Settles O10: the field checks, the record set up, RESTORE_LOST cleared. -/
theorem declareSetsUpARecord : Obligations.DeclareSetsUpARecord := by
  unfold Obligations.DeclareSetsUpARecord
  refine ⟨fun s l tag pl p ⟨takes, right, idle⟩ form free named out => ⟨_, rfl, ?_⟩,
    fun s l tag pl p dir ⟨takes, right, idle⟩ form free named direction lo hi text witness => ⟨_, rfl, ?_⟩⟩
  · refine turnedAway_of_refuse takes right ((reqDeclare_of_free l idle form free named).trans ?_)
    rw [State.declare, declarationOf_out form out]
  · have body := reqDeclare_of_free l idle form free named
    rw [State.declare, declarationOf_ok form direction lo hi text witness] at body
    dsimp only at body
    have changed := (s.hunt l).changeParcel_recordChanged p
      (Parcel.declared ⟨dir, declareLabel pl, decide (u8 pl (3 + u8 pl 2) = 1), l⟩) (.request .declare l)
    set u := (s.hunt l).changeParcel p (Parcel.declared ⟨dir, declareLabel pl, decide (u8 pl (3 + u8 pl 2) = 1), l⟩)
      (.request .declare l) with hu
    have answered := serve_answered (tag := tag) takes right body fun m => by
      rw [State.link_setRestoreLost, hu, State.links_changeParcel]
    have only := answered.only
    have lost (q : ParcelNo) := (congrArg (·.get q) only.restoreLost).trans (u.setRestoreLost_get p q false)
    have kept : u.restoreLost = s.restoreLost := by rw [hu, State.changeParcel_restoreLost, State.hunt_restoreLost]
    have record : (serve .declare reqDeclare l tag pl s).parcel p = _ := (only.parcel p).trans changed.record
    have from_ : OnlyLinks { s with restoreLost := (u.setRestoreLost p false).restoreLost }
        { s.hunt l with restoreLost := (u.setRestoreLost p false).restoreLost } := by
      have := s.hunt_onlyLinks l
      unfold OnlyLinks at this ⊢
      rw [this]
    refine ⟨record, by rw [lost, if_pos rfl], fun q ne => by rw [lost, if_neg ne, kept], ?_, ?_, ?_⟩
    · rw [record]
      exact answered.for
    · exact LampFollows.of_onlyLinks (s.hunt_onlyLinks l) only changed.lamp
    · rw [only.restoreLost]
      refine OnlyParcel.of_onlyLinks from_ only ?_
      obtain ⟨⟨rest, others, lamp⟩, engine, store, alarm⟩ := changed.only
      exact ⟨⟨congrArg (fun v : State => { v with restoreLost := (u.setRestoreLost p false).restoreLost }) rest, others, lamp⟩, engine, store, alarm⟩

/-! ### SET_PARAMETER (R5, R6) -/

theorem Params.values_put (x : Params) {n : Nat} (lo : 1 ≤ n) (hi : n ≤ 13) (v : Nat) :
    (x.put n v).values = x.values.set (n - 1) v := by
  interval_cases n <;> rfl

theorem paramTable_length : paramTable.length = 13 := rfl

theorem paramRow_of_out {n : Nat} (h : n = 0 ∨ 13 < n) : paramRow n = none := by
  unfold paramRow
  split
  · rfl
  · exact List.getElem?_eq_none (by rw [paramTable_length]; omega)

theorem paramRow_of {n : Nat} {row : Nat × Nat × Nat × Nat} (lo : 1 ≤ n) (h : paramTable[n - 1]? = some row) :
    paramRow n = some row ∧ n ≤ 13 := by
  refine ⟨by rw [paramRow, if_neg (by omega), h], ?_⟩
  obtain ⟨lt, _⟩ := List.getElem?_eq_some_iff.mp h
  rw [paramTable_length] at lt
  omega

theorem reqSetParameter_of_names {pl : List Byte} {p : ParcelNo} {s : State} (l : Link) (h : Names pl 6 p)
    (idle : s.store.verifying = false) (state : (s.parcel p).state = .declared ∨ (s.parcel p).state = .basisAgreed) :
    reqSetParameter l pl (s.hunt l) = match paramRow (u8 pl 1) with
      | some (lo, hi, _, unit) =>
        ((s.hunt l).changeParcel p ((s.parcel p).afterChange ((s.parcel p).params.put (u8 pl 1)
          (clampTo lo hi (s32 pl 2) * unit))) (.request .setParameter l)).answerClamped p
          (decide ((clampTo lo hi (s32 pl 2) : Int) ≠ s32 pl 2))
      | none => refuse (s.hunt l) .refusedRange := by
  refine (withParcel_hunt h idle _).trans ?_
  simp only [State.parcel_hunt, ParcelState.declarable_of state, if_true, State.declarationChange] <;> rfl

/-- Settles O11: the table row by row, and the value brought into its range. -/
theorem setParameterStoresTheClampedValue : Obligations.SetParameterStoresTheClampedValue := by
  unfold Obligations.SetParameterStoresTheClampedValue
  intro s l tag pl p ⟨takes, right, idle⟩ named state
  have body := reqSetParameter_of_names l named idle state
  refine ⟨rfl, rfl, fun lo hi standard unit low row => ?_, fun out => ⟨_, rfl, ?_⟩⟩
  · obtain ⟨row, high⟩ := paramRow_of low row
    rw [row] at body
    obtain ⟨t, rfl, record, replied, lamp, only⟩ := serve_changed_clamped (tag := tag) takes right body
    refine ⟨_, rfl, ?_, ?_, replied, lamp, only⟩ <;> rw [record]
    · rfl
    · exact Params.values_put _ low high _
  · rw [paramRow_of_out out] at body
    exact turnedAway_of_refuse takes right body

/-! ### The assignments (R7, R53, R55) -/

theorem depthOf_eq (field : Nat) : depthOf field = if field = 0 then 4 else max 2 (min 8 field) := by
  unfold depthOf
  split
  · rfl
  · split
    · omega
    · split <;> omega

theorem depthClamped_eq (field : Nat) : depthClamped field = decide (field ≠ 0 ∧ field ≠ depthOf field) := by
  simp [depthClamped, eq_comm]

section
variable {req : Req} {most : Nat} {ownerOf : State → Nat → Option ParcelNo} {draw : State → Nat → ParcelNo → Nat → State}
  {l : Link} {pl : List Byte} {s : State} {p : ParcelNo}

/-- The cases of an assignment: the number, the owner, the pool (R7). -/
theorem assignSource_of_names (h : Names pl 3 p) (idle : s.store.verifying = false)
    (state : (s.parcel p).state = .declared ∨ (s.parcel p).state = .basisAgreed) :
    assignSource req most ownerOf draw l pl (s.hunt l) =
      if inRange 1 most (u8 pl 1) then
        match ownerOf (s.hunt l) (u8 pl 1) with
        | some q => if q = p then (s.hunt l).answerClamped p (depthClamped (u8 pl 2)) else refuse (s.hunt l) .refusedState
        | none =>
          if depthOf (u8 pl 2) ≤ (s.hunt l).poolFree then
            ((draw (s.hunt l) (u8 pl 1) p (depthOf (u8 pl 2))).declarationChange p (s.parcel p).params
              (.request req l)).answerClamped p (depthClamped (u8 pl 2))
          else refuse (s.hunt l) .refusedFull
      else refuse (s.hunt l) .refusedRange := by
  refine (withParcel_hunt h idle _).trans ?_
  simp only [State.parcel_hunt, ParcelState.declarable_of state, if_true] <;> rfl

end

theorem State.poolFree_hunt (s : State) (l : Link) : (s.hunt l).poolFree = s.poolFree := by
  rw [State.poolFree, State.poolFree, State.depthSum_congr (State.hunt_tanks s l) (State.hunt_meters s l)]

end Sys2Proof.Machine
end

section
/-!
PROOFS. Sources assigned and unassigned, and RELEASE (R7, R8, R24, R53 to R56).
-/

namespace Sys2Proof.Machine

/-! ### A request that replaces one source and changes one record -/

section
variable {r : Req} {body : Body} {l : Link} {tag : Byte} {pl : List Byte} {s : State} {p : ParcelNo} {record : Parcel}
  {cause : Cause} {reply : Reply}

theorem Answered.clamped {u t : State} {clamped : Bool} {bs : List NoticeBody}
    (h : Answered s u t l tag ⟨.ok, clamped, false, u.parcelFields p⟩ bs) :
    Replied s t l tag ⟨.ok, clamped, false, t.parcelFields p⟩ bs := by
  rw [h.only.fields]
  exact h.replied

/-- A request whose block starts its record change from a state `v` of other sources. -/
theorem serve_changed_from {v : State} (takes : s.takes l) (right : mayRequest r l = true)
    (answer : body l pl (s.hunt l) = (v.changeParcel p record cause, reply)) (links : ∀ m, v.link m = (s.hunt l).link m)
    (clock : v.clock = s.clock) (parcel : v.parcel p = s.parcel p) :
    RecordChanged p record v (serve r body l tag pl s)
      ∧ Answered s (v.changeParcel p record cause) (serve r body l tag pl s) l tag reply
        (stateNotices p (s.parcel p) record cause) := by
  have answered := serve_answered (tag := tag) takes right answer fun m => by
    rw [State.link_changeParcel, links, clock, parcel]
  exact ⟨(v.changeParcel_recordChanged p record cause).of_onlyLinks (.refl v) answered.only, answered⟩

theorem State.setTank_only (s : State) (n : Nat) (x : TankSource) :
    s.setTank n x = { s with tanks := (s.setTank n x).tanks } := by
  unfold State.setTank
  split <;> rfl

theorem State.setMeter_only (s : State) (n : Nat) (x : MeterSource) :
    s.setMeter n x = { s with meters := (s.setMeter n x).meters } := by
  unfold State.setMeter
  split <;> rfl

theorem OnlyLinks.retanked {s t : State} (h : OnlyLinks s t) (v : Vector TankSource 16) :
    OnlyLinks { s with tanks := v } { t with tanks := v } := by
  unfold OnlyLinks at *
  rw [h]

theorem OnlyLinks.remetered {s t : State} (h : OnlyLinks s t) (v : Vector MeterSource 8) :
    OnlyLinks { s with meters := v } { t with meters := v } := by
  unfold OnlyLinks at *
  rw [h]

/-- A request that puts a tank channel at a new source record. -/
theorem serve_retanked {n : Nat} {x : TankSource} (lo : 1 ≤ n) (hi : n ≤ 16) (takes : s.takes l)
    (right : mayRequest r l = true)
    (answer : body l pl (s.hunt l) = (((s.hunt l).setTank n x).changeParcel p record cause, reply)) :
    ∃ t, t = serve r body l tag pl s ∧ t.tank n = x ∧ (∀ m, m ≠ n → t.tank m = s.tank m) ∧ t.depthSum + (s.tank n).drawn = s.depthSum + x.drawn
      ∧ t.parcel p = record
      ∧ Answered s (((s.hunt l).setTank n x).changeParcel p record cause) t l tag reply
        (stateNotices p (s.parcel p) (t.parcel p) cause)
      ∧ LampFollows p s t ∧ OnlyParcel p { s with tanks := t.tanks } t := by
  set t := serve r body l tag pl s
  obtain ⟨changed, answered⟩ := serve_changed_from (tag := tag) takes right answer (fun m => by simp) (by simp) (by simp)
  have tanks : t.tanks = ((s.hunt l).setTank n x).tanks := answered.only.tanks.trans (by simp)
  have tank (m : Nat) := State.tank_congr tanks m
  have start : OnlyLinks { s with tanks := t.tanks } ((s.hunt l).setTank n x) := by
    rw [tanks, State.setTank_only]
    exact (s.hunt_onlyLinks l).retanked _
  have changed := changed.of_onlyLinks start (.refl t)
  refine ⟨t, rfl, ?_, fun m ne => ?_, ?_, changed.record, changed.record ▸ answered, changed.lamp, changed.only⟩
  · rw [tank, State.tank_setTank_same _ lo hi]
  · rw [tank, State.tank_setTank_ne _ ne, State.tank_congr (s.hunt_tanks l)]
  · have sum := (s.hunt l).depthSum_setTank lo hi x
    have meters : t.meters = ((s.hunt l).setTank n x).meters := answered.only.meters.trans (by simp)
    rwa [← State.depthSum_congr tanks meters, State.tank_congr (s.hunt_tanks l),
      State.depthSum_congr (s.hunt_tanks l) (s.hunt_meters l)] at sum

/-- A request that puts a meter run at a new source record. -/
theorem serve_remetered {n : Nat} {x : MeterSource} (lo : 1 ≤ n) (hi : n ≤ 8) (takes : s.takes l)
    (right : mayRequest r l = true)
    (answer : body l pl (s.hunt l) = (((s.hunt l).setMeter n x).changeParcel p record cause, reply)) :
    ∃ t, t = serve r body l tag pl s ∧ t.meter n = x ∧ (∀ m, m ≠ n → t.meter m = s.meter m) ∧ t.depthSum + (s.meter n).drawn = s.depthSum + x.drawn
      ∧ t.parcel p = record
      ∧ Answered s (((s.hunt l).setMeter n x).changeParcel p record cause) t l tag reply
        (stateNotices p (s.parcel p) (t.parcel p) cause)
      ∧ LampFollows p s t ∧ OnlyParcel p { s with meters := t.meters } t := by
  set t := serve r body l tag pl s
  obtain ⟨changed, answered⟩ := serve_changed_from (tag := tag) takes right answer (fun m => by simp) (by simp) (by simp)
  have meters : t.meters = ((s.hunt l).setMeter n x).meters := answered.only.meters.trans (by simp)
  have meter (m : Nat) := State.meter_congr meters m
  have start : OnlyLinks { s with meters := t.meters } ((s.hunt l).setMeter n x) := by
    rw [meters, State.setMeter_only]
    exact (s.hunt_onlyLinks l).remetered _
  have changed := changed.of_onlyLinks start (.refl t)
  refine ⟨t, rfl, ?_, fun m ne => ?_, ?_, changed.record, changed.record ▸ answered, changed.lamp, changed.only⟩
  · rw [meter, State.meter_setMeter_same _ lo hi]
  · rw [meter, State.meter_setMeter_ne _ ne, State.meter_congr (s.hunt_meters l)]
  · have sum := (s.hunt l).depthSum_setMeter lo hi x
    have tanks : t.tanks = ((s.hunt l).setMeter n x).tanks := answered.only.tanks.trans (by simp)
    rwa [← State.depthSum_congr tanks meters, State.meter_congr (s.hunt_meters l),
      State.depthSum_congr (s.hunt_tanks l) (s.hunt_meters l)] at sum

end

/-! ### ASSIGN_TANK and ASSIGN_METER (R7, R50, R53, R55) -/

theorem inRange_nat_iff {lo hi n : Nat} : inRange lo hi n = true ↔ lo ≤ n ∧ n ≤ hi := by
  rw [inRange_iff]
  omega

/-- The answer to a source already this parcel's, and the three refusals (R7). -/
theorem assignSource_refusals {req : Req} {most : Nat} {ownerOf : State → Nat → Option ParcelNo}
    {draw : State → Nat → ParcelNo → Nat → State} {l : Link} {tag : Byte} {pl : List Byte} {s : State} {p : ParcelNo}
    (takes : s.takes l) (right : mayRequest req l = true) (h : Names pl 3 p) (idle : s.store.verifying = false)
    (state : (s.parcel p).state = .declared ∨ (s.parcel p).state = .basisAgreed) :
    let t := serve req (assignSource req most ownerOf draw) l tag pl s
    let owner := ownerOf (s.hunt l) (u8 pl 1)
    (¬(1 ≤ u8 pl 1 ∧ u8 pl 1 ≤ most) → TurnedAway s t l tag .refusedRange)
    ∧ (1 ≤ u8 pl 1 → u8 pl 1 ≤ most →
      (owner = some p → Replied s t l tag ⟨.ok, depthClamped (u8 pl 2), false, s.parcelFields p⟩ [] ∧ OnlyLinks s t)
      ∧ (∀ q, owner = some q → q ≠ p → TurnedAway s t l tag .refusedState)
      ∧ (owner = none → s.poolFree < depthOf (u8 pl 2) → TurnedAway s t l tag .refusedFull)) := by
  have body := assignSource_of_names (req := req) (most := most) (ownerOf := ownerOf) (draw := draw) h idle state (l := l)
  refine ⟨fun out => ?_, fun lo hi => ?_⟩
  · exact turnedAway_of_refuse takes right (body.trans (if_neg (mt (inRange_nat_iff (lo := 1)).mp out)))
  · replace body := body.trans (if_pos ((inRange_nat_iff (lo := 1)).mpr ⟨lo, hi⟩))
    refine ⟨fun owner => ?_, fun q owner ne => ?_, fun owner dry => ?_⟩ <;> simp only [owner] at body
    · rw [if_pos trivial] at body
      have answered := serve_unchanged (tag := tag) takes right body
      rwa [State.parcelFields_congr (s.parcel_hunt l p)] at answered
    · exact turnedAway_of_refuse takes right (body.trans (if_neg ne))
    · rw [State.poolFree_hunt, if_neg (by omega)] at body
      exact turnedAway_of_refuse takes right body

/-- A free source in range that the pool can supply is drawn (R7, R53, R55). -/
theorem assignSource_draws {req : Req} {most : Nat} {ownerOf : State → Nat → Option ParcelNo}
    {draw : State → Nat → ParcelNo → Nat → State} {l : Link} {pl : List Byte} {s : State} {p : ParcelNo}
    (h : Names pl 3 p) (idle : s.store.verifying = false)
    (state : (s.parcel p).state = .declared ∨ (s.parcel p).state = .basisAgreed) (lo : 1 ≤ u8 pl 1) (hi : u8 pl 1 ≤ most)
    (owner : ownerOf (s.hunt l) (u8 pl 1) = none) (pool : depthOf (u8 pl 2) ≤ s.poolFree) :
    assignSource req most ownerOf draw l pl (s.hunt l) =
      ((draw (s.hunt l) (u8 pl 1) p (depthOf (u8 pl 2))).declarationChange p (s.parcel p).params
        (.request req l)).answerClamped p (depthClamped (u8 pl 2)) := by
  have body := (assignSource_of_names (req := req) (most := most) (ownerOf := ownerOf) (draw := draw) h idle state
    (l := l)).trans (if_pos ((inRange_nat_iff (lo := 1)).mpr ⟨lo, hi⟩))
  simp only [owner, State.poolFree_hunt, pool, if_true] at body
  exact body

theorem TankSource.drawn_of_free {x : TankSource} (h : x.owner = none) : x.drawn = 0 := by
  simp [TankSource.drawn, heldDepth, h]

theorem MeterSource.drawn_of_free {x : MeterSource} (h : x.owner = none) : x.drawn = 0 := by
  simp [MeterSource.drawn, heldDepth, h]

theorem TankSource.drawn_of_owner {x : TankSource} {p : ParcelNo} (h : x.owner = some p) : x.drawn = x.depth := by
  simp [TankSource.drawn, heldDepth, h]

theorem MeterSource.drawn_of_owner {x : MeterSource} {p : ParcelNo} (h : x.owner = some p) : x.drawn = x.depth := by
  simp [MeterSource.drawn, heldDepth, h]

/-- A tank channel with a ring newly drawn (R53). -/
def TankSource.drawnFor (x : TankSource) (p : ParcelNo) (depth : Nat) : TankSource :=
  { x with owner := some p, depth := depth, ring := (x.latest.map (fun r => TankEntry.mk r x.held)).toList }

/-- A meter run with a ring newly drawn (R50, R53). -/
def MeterSource.drawnFor (x : MeterSource) (p : ParcelNo) (depth : Nat) : MeterSource :=
  { x with
    owner := some p
    depth := depth
    ring := (x.latest.map (fun r => MeterEntry.mk r x.held x.reverse)).toList
    stepHold := if x.stepHold = .none then .none else .ended }

theorem State.drawTank_eq (s : State) (n : Nat) (p : ParcelNo) (depth : Nat) :
    s.drawTank n p depth = s.setTank n ((s.tank n).drawnFor p depth) := by
  simp only [State.drawTank, TankSource.drawnFor]
  congr 2
  cases (s.tank n).latest <;> rfl

theorem State.drawMeter_eq (s : State) (n : Nat) (p : ParcelNo) (depth : Nat) :
    s.drawMeter n p depth = s.setMeter n ((s.meter n).drawnFor p depth) := by
  simp only [State.drawMeter, MeterSource.drawnFor, StepHold.reassigned_eq]
  congr 2
  cases (s.meter n).latest <;> rfl

/-- Settles O12: tanks and meters, each by number, owner and pool. -/
theorem assignmentsDrawARing : Obligations.AssignmentsDrawARing := by
  unfold Obligations.AssignmentsDrawARing
  refine ⟨fun s l tag pl p ⟨takes, right, idle⟩ named state => ?tank, fun s l tag pl p ⟨takes, right, idle⟩ named state => ?meter⟩
  all_goals
    intro n depth clamped
    have depthEq : depth = depthOf (u8 pl 2) := (depthOf_eq _).symm
    have clampedEq : clamped = depthClamped (u8 pl 2) := by rw [depthClamped_eq, ← depthEq]
    rw [depthEq, clampedEq]
  case tank =>
    obtain ⟨range, cases_⟩ := assignSource_refusals (tag := tag) (most := 16) (ownerOf := tankOwner) (draw := State.drawTank)
      takes right named idle state
    simp only [tankOwner, State.tank_congr (s.hunt_tanks l)] at cases_
    refine ⟨fun out => ⟨_, rfl, range out⟩, fun lo hi => ?_⟩
    obtain ⟨own, others, full⟩ := cases_ lo hi
    refine ⟨fun free pool => ?_, fun owner => ⟨_, rfl, own owner⟩, fun q owner ne => ⟨_, rfl, others q owner ne⟩,
      fun free dry => ⟨_, rfl, full free dry⟩⟩
    have body := assignSource_draws (req := .assignTank) (draw := State.drawTank) named idle state lo hi
      (ownerOf := tankOwner) (l := l) (by simpa only [tankOwner, State.tank_congr (s.hunt_tanks l)] using free) pool
    simp only [State.drawTank_eq, State.tank_congr (s.hunt_tanks l), State.declarationChange, State.parcel_setTank, State.parcel_hunt] at body
    obtain ⟨t, rfl, tank, tanks, sum, record, answered, lamp, only⟩ := serve_retanked (tag := tag) lo hi takes right body
    rw [TankSource.drawn_of_free free, Nat.add_zero] at sum
    exact ⟨_, rfl, tank, tanks, sum, record, answered.clamped, lamp, only⟩
  case meter =>
    obtain ⟨range, cases_⟩ := assignSource_refusals (tag := tag) (most := 8) (ownerOf := meterOwner) (draw := State.drawMeter)
      takes right named idle state
    simp only [meterOwner, State.meter_congr (s.hunt_meters l)] at cases_
    refine ⟨fun out => ⟨_, rfl, range out⟩, fun lo hi => ?_⟩
    obtain ⟨own, others, full⟩ := cases_ lo hi
    refine ⟨fun free pool => ?_, fun owner => ⟨_, rfl, own owner⟩, fun q owner ne => ⟨_, rfl, others q owner ne⟩,
      fun free dry => ⟨_, rfl, full free dry⟩⟩
    have body := assignSource_draws (req := .assignMeter) (draw := State.drawMeter) named idle state lo hi
      (ownerOf := meterOwner) (l := l) (by simpa only [meterOwner, State.meter_congr (s.hunt_meters l)] using free) pool
    simp only [State.drawMeter_eq, State.meter_congr (s.hunt_meters l), State.declarationChange, State.parcel_setMeter, State.parcel_hunt] at body
    obtain ⟨t, rfl, meter, meters, sum, record, answered, lamp, only⟩ := serve_remetered (tag := tag) lo hi takes right body
    rw [MeterSource.drawn_of_free free, Nat.add_zero] at sum
    exact ⟨_, rfl, meter, meters, sum, record, answered.clamped, lamp, only⟩

/-! ### UNASSIGN_TANK and UNASSIGN_METER (R8, R53, R56) -/

/-- The cases of an unassignment: the number and the owner (R8). -/
theorem unassignSource_of_names {req : Req} {most : Nat} {ownerOf : State → Nat → Option ParcelNo}
    {giveBack : State → Nat → State} {l : Link} {pl : List Byte} {s : State} {p : ParcelNo} (h : Names pl 2 p)
    (idle : s.store.verifying = false) (state : (s.parcel p).state = .declared ∨ (s.parcel p).state = .basisAgreed) :
    unassignSource req most ownerOf giveBack l pl (s.hunt l) =
      if inRange 1 most (u8 pl 1) then
        if ownerOf (s.hunt l) (u8 pl 1) = some p then
          ((giveBack (s.hunt l) (u8 pl 1)).declarationChange p (s.parcel p).params (.request req l)).answerParcel p .ok []
        else refuse (s.hunt l) .refusedState
      else refuse (s.hunt l) .refusedRange := by
  refine (withParcel_hunt h idle _).trans ?_
  simp only [State.parcel_hunt, ParcelState.declarable_of state, if_true]

/-- Settles O13: tanks and meters, each by number and owner. -/
theorem unassignmentsReturnTheRing : Obligations.UnassignmentsReturnTheRing := by
  unfold Obligations.UnassignmentsReturnTheRing
  refine ⟨fun s l tag pl p ⟨takes, right, idle⟩ named state => ?tank, fun s l tag pl p ⟨takes, right, idle⟩ named state => ?meter⟩
  case tank =>
    intro n
    have body := unassignSource_of_names (req := .unassignTank) (most := 16) (ownerOf := tankOwner)
      (giveBack := State.returnTank) (l := l) named idle state
    simp only [tankOwner, State.tank_congr (s.hunt_tanks l), State.returnTank, State.declarationChange,
      State.parcel_setTank, State.parcel_hunt] at body
    refine ⟨fun out => ⟨_, rfl, ?_⟩, fun lo hi owner => ?_, fun lo hi owner => ⟨_, rfl, ?_⟩⟩
    · exact turnedAway_of_refuse takes right (body.trans (if_neg (mt (inRange_nat_iff (lo := 1)).mp out)))
    · replace body := body.trans (if_pos ((inRange_nat_iff (lo := 1)).mpr ⟨lo, hi⟩)) |>.trans (if_pos owner)
      obtain ⟨t, rfl, tank, tanks, sum, record, answered, lamp, only⟩ := serve_retanked (tag := tag) lo hi takes right body
      rw [TankSource.drawn_of_owner owner, TankSource.drawn_of_free rfl, Nat.add_zero] at sum
      exact ⟨_, rfl, tank, tanks, sum, record, answered.for, lamp, only⟩
    · replace body := body.trans (if_pos ((inRange_nat_iff (lo := 1)).mpr ⟨lo, hi⟩)) |>.trans (if_neg owner)
      exact turnedAway_of_refuse takes right body
  case meter =>
    intro n
    have body := unassignSource_of_names (req := .unassignMeter) (most := 8) (ownerOf := meterOwner)
      (giveBack := State.returnMeter) (l := l) named idle state
    simp only [meterOwner, State.meter_congr (s.hunt_meters l), State.returnMeter, State.declarationChange,
      State.parcel_setMeter, State.parcel_hunt] at body
    refine ⟨fun out => ⟨_, rfl, ?_⟩, fun lo hi owner => ?_, fun lo hi owner => ⟨_, rfl, ?_⟩⟩
    · exact turnedAway_of_refuse takes right (body.trans (if_neg (mt (inRange_nat_iff (lo := 1)).mp out)))
    · replace body := body.trans (if_pos ((inRange_nat_iff (lo := 1)).mpr ⟨lo, hi⟩)) |>.trans (if_pos owner)
      obtain ⟨t, rfl, meter, meters, sum, record, answered, lamp, only⟩ := serve_remetered (tag := tag) lo hi takes right body
      rw [MeterSource.drawn_of_owner owner, MeterSource.drawn_of_free rfl, Nat.add_zero] at sum
      exact ⟨_, rfl, meter, meters, sum, record, answered.for, lamp, only⟩
    · replace body := body.trans (if_pos ((inRange_nat_iff (lo := 1)).mpr ⟨lo, hi⟩)) |>.trans (if_neg owner)
      exact turnedAway_of_refuse takes right body

/-! ### RELEASE (R24) -/

theorem reqRelease_of_names {pl : List Byte} {p : ParcelNo} {s : State} (l : Link) (h : Names pl 1 p)
    (idle : s.store.verifying = false) (state : (s.parcel p).state = .closed ∨ (s.parcel p).state = .disputed) :
    reqRelease l pl (s.hunt l) =
      if (s.parcel p).finalizePending then refuse (s.hunt l) .refusedBusy
      else if l = .survey ∨ (PartySet.mk ((s.parcel p).releaseSet.ship || decide (l = .ship))
          ((s.parcel p).releaseSet.shore || decide (l = .shore))) = ⟨true, true⟩ then
        ((s.hunt l).returnToFree p (.request .release l)).answerParcel p .ok []
      else ((s.hunt l).changeParcel p { s.parcel p with
        releaseSet := ⟨(s.parcel p).releaseSet.ship || decide (l = .ship),
          (s.parcel p).releaseSet.shore || decide (l = .shore)⟩ } (.request .release l)).answerParcel p .ok [] := by
  have ended : (s.parcel p).state.ended = true := by rcases state with e | e <;> rw [e] <;> rfl
  refine (withParcel_hunt h idle _).trans ?_
  simp only [State.parcel_hunt, ended, if_true, PartySet.isFull_iff, PartySet.put_true]

/-- Settles O35: pending, freed, or the first of the two parties. -/
theorem releaseFreesAParcel : Obligations.ReleaseFreesAParcel := by
  unfold Obligations.ReleaseFreesAParcel
  intro s l tag pl p ⟨takes, right, idle⟩ named state x
  have body := reqRelease_of_names l named idle state
  refine ⟨fun pending => ⟨_, rfl, ?_⟩, fun done both => ⟨_, rfl, ?_⟩, fun done party half => ?_⟩
  · exact turnedAway_of_refuse takes right (body.trans (if_pos pending))
  all_goals replace body := body.trans (if_neg (by simp [done]))
  · obtain ⟨freed, replied⟩ := serve_freed (tag := tag) takes right (body.trans (if_pos both))
    have record := freed.1
    exact ⟨freed, record ▸ replied⟩
  · obtain ⟨t, rfl, changed⟩ := serve_changed_for (tag := tag) takes right (body.trans (if_neg (not_or.mpr ⟨party, half⟩)))
    exact ⟨_, rfl, changed⟩

end Sys2Proof.Machine
end

section
/-!
PROOFS. The outcome of a parcel and its transfer record, the acceptances that lead to it, and new revisions
(chapter 8, R22, R135, R144 to R153).
-/

namespace Sys2Proof.Machine

/-! ### The transfer record (R151 to R153) -/

/-- The first of a list that carries a number is the one a search by number finds. -/
theorem FirstNumbered.find {α : Type} {number : α → Nat} {xs : List α} {n : Nat} {x : α} (h : FirstNumbered number xs n x) :
    xs.find? (fun y => decide (number y = n)) = some x := by
  obtain ⟨before, after, rfl, is, first⟩ := h
  refine List.find?_eq_some_iff_append.mpr ⟨by simpa using is, before, after, rfl, fun y mem => ?_⟩
  simpa using first y mem

/-- A search by number over figures that carry no such number finds nothing. -/
theorem find_eq_none {α : Type} {number : α → Nat} {xs : List α} {n : Nat} (h : ∀ y ∈ xs, number y ≠ n) :
    xs.find? (fun y => decide (number y = n)) = none :=
  List.find?_eq_none.mpr fun y mem => by simpa using h y mem

theorem find_meterEntries (fs : List MeterFigure) (n : Nat) :
    (meterEntries fs).find? (fun x => decide (x.1 = n))
      = (fs.find? (fun f => decide (f.meter = n))).map (fun f => (f.meter, roundDiv f.accAfter 1000, f.flags)) := by
  rw [meterEntries, List.find?_map]
  rfl

section
variable (s : State) (p : ParcelNo) (r : Parcel) (cause : Option DisputeCause)

theorem State.buildRecord_tank_mem {e : RecordTank} (h : e ∈ (s.buildRecord p r cause).tanks) :
    e.openGsv = (r.opening.bind (fun o => findTank o.tanks e.tank)).map (·.gsv)
      ∧ e.closeGsv = (findTank r.recordFigures.tanks e.tank).map (·.gsv)
      ∧ e.flags = ((findTank r.recordFigures.tanks e.tank).map (·.flags)).getD TankFlags.clear := by
  obtain ⟨n, _, rfl⟩ := List.mem_map.mp h
  exact ⟨rfl, rfl, rfl⟩

theorem State.buildRecord_meter_mem {e : RecordMeter} (h : e ∈ (s.buildRecord p r cause).meters) :
    let found := r.recordFigures.meters.find? (fun x => decide (x.1 = e.meter))
    e.volume = found.map (·.2.1) ∧ e.flags = (found.map (·.2.2)).getD MeterFlags.clear := by
  obtain ⟨n, _, rfl⟩ := List.mem_map.mp h
  exact ⟨rfl, rfl⟩

theorem State.buildRecord_openedBy {e : RecordTank} (h : e ∈ (s.buildRecord p r cause).tanks) : e.openedBy r.opening := by
  obtain ⟨openGsv, _⟩ := s.buildRecord_tank_mem p r cause h
  rw [RecordTank.openedBy, openGsv]
  refine ⟨fun f g opened first => ?_, fun without => ?_⟩
  · simp [opened, findTank, first.find]
  · cases opened : r.opening with
    | none => rfl
    | some f => simp [findTank, find_eq_none (without f opened)]

theorem State.buildRecord_tank_closedBy {e : RecordTank} (h : e ∈ (s.buildRecord p r cause).tanks) :
    e.closedBy r.recordFigures.tanks := by
  obtain ⟨_, closeGsv, flags⟩ := s.buildRecord_tank_mem p r cause h
  rw [RecordTank.closedBy, closeGsv, flags]
  refine ⟨fun g first => ?_, fun without => ?_⟩
  · simp [findTank, first.find]
  · simp [findTank, find_eq_none without]

theorem State.buildRecord_meter_closedBy {e : RecordMeter} {fs : List MeterFigure}
    (figures : r.recordFigures.meters = meterEntries fs) (h : e ∈ (s.buildRecord p r cause).meters) : e.closedBy fs := by
  obtain ⟨volume, flags⟩ := s.buildRecord_meter_mem p r cause h
  rw [figures, find_meterEntries] at volume flags
  rw [RecordMeter.closedBy, volume, flags]
  refine ⟨fun g first => ?_, fun without => ?_⟩
  · simp [first.find]
  · simp [find_eq_none without]

theorem State.buildRecord_ofRevision {f : ClosingFigures} (figures : r.recordFigures = figuresOfRevision f) :
    (s.buildRecord p r cause).ofRevision f := by
  have tanks {e} := s.buildRecord_tank_closedBy p r cause (e := e)
  have meters {e} := s.buildRecord_meter_closedBy p r cause (e := e) (fs := f.meters) (by rw [figures]; rfl)
  simp only [TransferRecord.ofRevision, State.buildRecord, figures, figuresOfRevision, true_and] at tanks meters ⊢
  exact ⟨fun v => by cases f.vef <;> simp, fun _ => tanks, fun _ => meters⟩

theorem State.buildRecord_ofCycle {f : LatestCycle} (figures : r.recordFigures = figuresOfCycle f) :
    (s.buildRecord p r cause).ofCycle f := by
  have tanks {e} := s.buildRecord_tank_closedBy p r cause (e := e)
  have meters {e} := s.buildRecord_meter_closedBy p r cause (e := e) (fs := f.meters) (by rw [figures]; rfl)
  simp only [TransferRecord.ofCycle, State.buildRecord, figures, figuresOfCycle, true_and] at tanks meters ⊢
  exact ⟨fun _ => tanks, fun _ => meters⟩

theorem State.buildRecord_ofNothing (figures : r.recordFigures = figuresOfNone) : (s.buildRecord p r cause).ofNothing := by
  have tanks {e} := s.buildRecord_tank_mem p r cause (e := e)
  have meters {e} := s.buildRecord_meter_mem p r cause (e := e)
  rw [figures] at tanks meters
  refine ⟨?_, ?_, ?_, ?_, ?_, ?_, ?_, ?_, ?_, ?_, ?_, ?_, ?_, ?_, fun e mem => (tanks mem).2.1, fun e mem => (meters mem).1⟩
  all_goals
    simp only [State.buildRecord, figures]
    rfl

theorem State.buildRecord_built : RecordBuilt s p r cause (s.buildRecord p r cause) := by
  refine ⟨rfl, rfl, rfl, rfl, rfl, rfl, rfl, ?calendar, fun e mem => s.buildRecord_openedBy p r cause mem, rfl, rfl, rfl, rfl,
    ?tanks, ?meters, ?figures⟩
  case calendar =>
    simp only [State.buildRecord]
    cases s.calendar
    · rfl
    · cases r.recordFigures.closeS <;> rfl
  case tanks =>
    simp only [State.buildRecord, List.map_map]
    exact List.map_id _
  case meters =>
    simp only [State.buildRecord, List.map_map]
    exact List.map_id _
  case figures =>
    cases closing : r.closing with
    | some f => exact s.buildRecord_ofRevision p r cause (by simp [Parcel.recordFigures, closing])
    | none =>
      cases latest : r.recon.latest with
      | some c => exact s.buildRecord_ofCycle p r cause (by simp [Parcel.recordFigures, closing, latest])
      | none => exact s.buildRecord_ofNothing p r cause (by simp [Parcel.recordFigures, closing, latest])

/-! ### Entering CLOSED or DISPUTED (R23) -/

theorem seqAfter_eq (n : Nat) : seqAfter n = if n < 65535 then n + 1 else 1 := by
  unfold seqAfter
  split <;> split <;> omega

theorem Parcel.ended_eq (x : TransferRecord) : r.ended x cause = { r with
    state := if cause = none then .closed else .disputed
    disputeCause := cause
    cycleTimer := none
    acceptTimer := none
    closeReservation := ⟨false, false⟩
    releaseSet := ⟨false, false⟩
    record := some x
    finalizePending := true } := by
  cases cause <;> rfl

theorem State.enterOutcome_entered (ev : Cause) : OutcomeEntered p r cause s (s.enterOutcome p r cause ev) := by
  rw [State.enterOutcome_eq]
  have changed := (s.changeParcel_recordChanged p (r.ended (s.buildRecord p r cause) cause) ev).aside
    (u := (s.changeParcel p (r.ended (s.buildRecord p r cause) cause) ev).setStore
      (s.store.withFinalize p (s.buildRecord p r cause))) rfl
  refine ⟨s.buildRecord p r cause, s.buildRecord_built p r cause, ?_, ?_, changed.lamp, changed.within⟩
  · rw [changed.record, Parcel.ended_eq]
  · rw [State.setStore_store, Store.withFinalize, seqAfter_eq]
    rfl

theorem State.enterOutcome_engine (ev : Cause) : (s.enterOutcome p r cause ev).engine = s.engine := by
  rw [State.enterOutcome_eq, State.setStore_engine, State.changeParcel_engine]

theorem State.enterOutcome_alarm (ev : Cause) : AlarmKept s (s.enterOutcome p r cause ev) := by
  rw [State.enterOutcome_eq]
  exact (s.changeParcel_onlyParcel p _ ev).alarm

theorem State.link_enterOutcome (ev : Cause) (m : Link) : (s.enterOutcome p r cause ev).link m
    = (s.link m).placeAll s.clock (stateNotices p (s.parcel p) ((s.enterOutcome p r cause ev).parcel p) ev) := by
  rw [State.enterOutcome_eq, State.link_setStore, State.parcel_setStore, State.link_changeParcel, State.parcel_changeParcel_same]

end

theorem RecordBuilt.of_onlyLinks {s s' : State} {p : ParcelNo} {r : Parcel} {cause : Option DisputeCause} {x : TransferRecord}
    (hs : OnlyLinks s s') (h : RecordBuilt s' p r cause x) : RecordBuilt s p r cause x := by
  rw [hs] at h
  exact h

theorem OutcomeEntered.of_onlyLinks {s s' t t' : State} {p : ParcelNo} {r : Parcel} {cause : Option DisputeCause}
    (hs : OnlyLinks s s') (ht : OnlyLinks t t') (h : OutcomeEntered p r cause s' t) : OutcomeEntered p r cause s t' := by
  obtain ⟨x, built, record, store, lamp, within⟩ := h
  refine ⟨x, built.of_onlyLinks hs, (ht.parcel p).trans record, ?_, lamp.of_onlyLinks hs ht, within.of_onlyLinks hs ht⟩
  rw [ht.store, store, hs.store]

/-- A request its block answers by the outcome of its parcel. -/
theorem serve_ended {q : Req} {body : Body} {l : Link} {tag : Byte} {pl : List Byte} {s : State} {p : ParcelNo} {r : Parcel}
    {cause : Option DisputeCause} {ev : Cause} {more : List Byte} (takes : s.takes l) (right : mayRequest q l = true)
    (answer : body l pl (s.hunt l) = ((s.hunt l).enterOutcome p r cause ev).answerParcel p .ok more) :
    ∃ t, t = serve q body l tag pl s ∧ OutcomeEntered p r cause s t
      ∧ RepliedFor s t l tag p .ok more (stateNotices p (s.parcel p) (t.parcel p) ev)
      ∧ t.engine = s.engine ∧ AlarmKept s t := by
  have answered := serve_answered (tag := tag) takes right answer fun m => by
    rw [(s.hunt l).link_enterOutcome p r cause ev, State.hunt_clock, State.parcel_hunt]
  have only := answered.only
  refine ⟨_, rfl, ((s.hunt l).enterOutcome_entered p r cause ev).of_onlyLinks (s.hunt_onlyLinks l) only, ?_, ?_, ?_⟩
  · rw [only.parcel]
    exact answered.for
  · rw [only.engine, State.enterOutcome_engine, State.hunt_engine]
  · have kept := (s.hunt l).enterOutcome_alarm p r cause ev
    unfold AlarmKept at kept ⊢
    rwa [only.lines, ← (s.hunt_onlyLinks l).lines]

/-! ### ACCEPT and WITNESS (R145 to R147) -/

theorem AcceptSet.add_eq (x : AcceptSet) (l : Link) :
    x.add l = ⟨x.ship || decide (l = .ship), x.shore || decide (l = .shore), x.survey || decide (l = .survey)⟩ := by
  cases l <;> simp [AcceptSet.add]

theorem AcceptSet.covers_required (x : AcceptSet) (r : Parcel) :
    x.covers r.required = (x.ship && x.shore && (x.survey || !r.witnessed)) := by
  simp [AcceptSet.covers, Parcel.required, Bool.or_comm]

theorem answerAcceptance_of_names {req : Req} {pl : List Byte} {p : ParcelNo} {s : State} (l : Link) (h : Names pl 2 p)
    (idle : s.store.verifying = false) (awaiting : (s.parcel p).state = .awaitingAccept) :
    answerAcceptance req l pl (s.hunt l) = if (s.parcel p).revision = some (u8 pl 1) then
        ((s.hunt l).addAcceptance p l req).answerParcel p .ok
          (eAcceptSet (((s.hunt l).addAcceptance p l req).parcel p).acceptance)
      else refuse (s.hunt l) .staleRevision := by
  refine (withParcel_hunt h idle _).trans ?_
  simp only [State.parcel_hunt, awaiting, if_true]

/-- Settles O31: a stale revision, an acceptance that joins, one that completes. -/
theorem acceptancesAreCounted : Obligations.AcceptancesAreCounted := by
  unfold Obligations.AcceptancesAreCounted
  intro s l tag pl p c req ⟨takes, right, idle⟩ command named awaiting x complete
  have run : exec c s = .next (serve req (answerAcceptance req) l tag pl s) := by
    rcases command with ⟨rfl, rfl⟩ | ⟨rfl, rfl⟩ <;> rfl
  have body := answerAcceptance_of_names (req := req) l named idle awaiting
  have added : (s.hunt l).addAcceptance p l req = if complete then
      (s.hunt l).enterOutcome p { s.parcel p with acceptance := x } none (.request req l)
    else (s.hunt l).setParcel p { s.parcel p with acceptance := x } := by
    simp only [State.addAcceptance, State.parcel_hunt, AcceptSet.add_eq, AcceptSet.covers_required]
    rfl
  refine ⟨fun current half => ⟨_, run, ?_⟩, fun current full => ?_, fun stale => ⟨_, run, ?_⟩⟩
  · rw [if_pos current, added, if_neg (by simp [half]), State.parcel_setParcel_same] at body
    have answered := serve_answered (tag := tag) (bs := []) takes right body fun m => rfl
    have only := ((s.hunt l).setParcel_onlyParcel p { s.parcel p with acceptance := x }).of_onlyLinks (s.hunt_onlyLinks l)
      answered.only
    refine ⟨?_, answered.for, only, ?_⟩
    · rw [answered.only.parcel, State.parcel_setParcel_same]
    · rw [answered.only.lines, State.setParcel_lines, State.hunt_lines]
  · rw [if_pos current, added, if_pos full] at body
    obtain ⟨_, _, record, _⟩ := (s.hunt l).enterOutcome_entered p { s.parcel p with acceptance := x } none (.request req l)
    rw [record] at body
    obtain ⟨t, rfl, ended⟩ := serve_ended (tag := tag) takes right body
    exact ⟨_, run, ended⟩
  · exact turnedAway_of_refuse takes right (body.trans (if_neg stale))

/-! ### DISPUTE and ACCEPT_TIMEOUT (R144, R148) -/

theorem reqDispute_of_names {pl : List Byte} {p : ParcelNo} {s : State} (l : Link) (h : Names pl 1 p)
    (idle : s.store.verifying = false) (awaiting : (s.parcel p).state = .awaitingAccept) :
    reqDispute l pl (s.hunt l) = ((s.hunt l).enterOutcome p (s.parcel p)
      (some (if l = .ship then .partyShip else .partyShore)) (.request .dispute l)).answerParcel p .ok [] := by
  refine (withParcel_hunt h idle _).trans ?_
  simp only [State.parcel_hunt, awaiting]

/-- Settles O32: the two ways into DISPUTED from AWAITING_ACCEPT. -/
theorem disputeAndTimeoutEndAParcel : Obligations.DisputeAndTimeoutEndAParcel := by
  unfold Obligations.DisputeAndTimeoutEndAParcel
  refine ⟨fun s l tag pl p ⟨takes, right, idle⟩ named awaiting => ?_, fun s p e awaiting timer due => ⟨_, rfl, ?_⟩⟩
  · obtain ⟨t, rfl, ended⟩ := serve_ended (tag := tag) takes right (reqDispute_of_names l named idle awaiting)
    exact ⟨_, rfl, ended⟩
  · have expires : s.expireAcceptance p = (s.enterOutcome p (s.parcel p) (some .timeout) .acceptTimeout).transmitAll := by
      simp only [State.expireAcceptance, Parcel.acceptDue, awaiting, timer, reached, due, decide_true, Bool.and_self, if_true]
    rw [expires]
    have only := State.transmitAll_onlyLinks (s.enterOutcome p (s.parcel p) (some .timeout) .acceptTimeout)
    refine ⟨(s.enterOutcome_entered p _ _ _).of_onlyLinks (.refl s) only, ?_, ?_, s.enterOutcome_alarm p _ _ _⟩
    · rw [State.parcel_transmitAll]
      exact posted_transmitAll (s.link_enterOutcome p _ _ _)
    · rw [only.engine, State.enterOutcome_engine]

/-! ### ABORT (R22) -/

theorem ParcelState.abortable_of {x : ParcelState}
    (h : x = .opening ∨ x = .transferring ∨ x = .suspended ∨ x = .closing ∨ x = .awaitingAccept) : x.abortable = true := by
  rcases h with rfl | rfl | rfl | rfl | rfl <;> rfl

/-- The engine without the jobs of a parcel (R108). -/
theorem State.cancelJobs_spec (s : State) (p : ParcelNo) :
    (s.cancelJobs p).engine.jobs p = ⟨false, false, false⟩
      ∧ (∀ q, q ≠ p → (s.cancelJobs p).engine.jobs q = s.engine.jobs q)
      ∧ (s.cancelJobs p).engine.mark = s.engine.mark
      ∧ (s.cancelJobs p).engine.running = s.engine.running.bind (fun j => if j.parcel = p then none else some j) := by
  refine ⟨s.engine.jobs_setJobs_same p _, fun q ne => s.engine.jobs_setJobs_ne ne _, rfl, ?_⟩
  change (match s.engine.running with
    | some j => if j.parcel = p then none else some j
    | none => none) = _
  cases s.engine.running <;> rfl

/-- What aborting a parcel does (R22, R108, R129). -/
theorem State.abortParcel_spec (s : State) (p : ParcelNo) (l : Link) :
    OutcomeEntered p { s.parcel p with
        openSet := ⟨false, false⟩
        overrun := false
        recon := { (s.parcel p).recon with alarm := false, divergent := 0, clear := 0 } } (some .aborted) s (s.abortParcel p l)
      ∧ (s.abortParcel p l).engine = (s.cancelJobs p).engine
      ∧ AlarmEnded (s.parcel p).recon.alarm s (s.abortParcel p l)
      ∧ ∀ m, (s.abortParcel p l).link m = (s.link m).placeAll s.clock
        (stateNotices p (s.parcel p) ((s.abortParcel p l).parcel p) (.request .abort l)) := by
  simp only [State.abortParcel]
  set r1 := { (s.parcel p).alarmNormal with openSet := PartySet.empty, overrun := false }
  obtain ⟨x, built, record, store, lamp, within⟩ := (s.cancelJobs p).enterOutcome_entered p r1 (some .aborted) (.request .abort l)
  have kept := (s.cancelJobs p).enterOutcome_alarm p r1 (some .aborted) (.request .abort l)
  have links := (s.cancelJobs p).link_enterOutcome p r1 (some .aborted) (.request .abort l)
  have engine := (s.cancelJobs p).enterOutcome_engine p r1 (some .aborted) (.request .abort l)
  set u := (s.cancelJobs p).enterOutcome p r1 (some .aborted) (.request .abort l)
  have aside := s.cancelJobs_aside p
  refine ⟨⟨x, built, ?_, ?_, ?_, ?_⟩, ?_, ?_, fun m => ?_⟩
  · rw [State.parcel_afterAlarm, record]
    rfl
  · rw [State.afterAlarm_store, store]
    rfl
  · exact (lamp.from_aside aside).afterAlarm _
  · exact ((aside.within p).trans within).trans (u.afterAlarm_within _ p)
  · rw [State.afterAlarm_engine, engine]
  · exact (u.afterAlarm_ended _).from_kept (aside.alarm.trans kept)
  · rw [State.link_afterAlarm, links, State.parcel_afterAlarm, State.link_cancelJobs]
    rfl

theorem reqAbort_of_names {pl : List Byte} {p : ParcelNo} {s : State} (l : Link) (h : Names pl 1 p)
    (idle : s.store.verifying = false) (abortable : (s.parcel p).state.abortable = true) :
    reqAbort l pl (s.hunt l) = ((s.hunt l).abortParcel p l).answerParcel p .ok [] := by
  refine (withParcel_hunt h idle _).trans ?_
  simp only [State.parcel_hunt, abortable, if_true]

/-- Settles O33: the outcome of an aborted parcel, its jobs cancelled, the alarm after it. -/
theorem abortEndsAParcel : Obligations.AbortEndsAParcel := by
  unfold Obligations.AbortEndsAParcel
  intro s l tag pl p ⟨takes, right, idle⟩ named state
  obtain ⟨entered, engine, alarm, links⟩ := (s.hunt l).abortParcel_spec p l
  rw [State.parcel_hunt] at entered alarm links
  rw [State.hunt_clock] at links
  have answered := serve_answered (tag := tag) takes right (reqAbort_of_names l named idle (ParcelState.abortable_of state)) links
  have only := answered.only
  obtain ⟨jobs, others, mark, running⟩ := (s.hunt l).cancelJobs_spec p
  rw [← engine, ← only.engine, State.hunt_engine] at mark running
  rw [← engine, ← only.engine] at jobs others
  refine ⟨_, rfl, entered.of_onlyLinks (s.hunt_onlyLinks l) only, jobs, fun q ne => ?_, mark, ?_, ?_, ?_⟩
  · rw [others q ne, State.hunt_engine]
  · rw [running]
    cases s.engine.running <;> rfl
  · have kept : AlarmKept s (s.hunt l) := by
      rw [AlarmKept, State.hunt_lines]
      exact ⟨rfl, rfl⟩
    exact (alarm.from_kept kept).of_lines only.lines (by rw [only])
  · rw [only.parcel]
    exact answered.for

/-! ### REGAUGE and SET_LINE_ADJUST (R135, R149) -/

/-- A request its block answers by a call for a new revision. -/
theorem serve_revised {q : Req} {body : Body} {l : Link} {tag : Byte} {pl : List Byte} {s : State} {p : ParcelNo} {r : Parcel}
    (takes : s.takes l) (right : mayRequest q l = true)
    (answer : body l pl (s.hunt l) = ((s.hunt l).callRevision p r (.request q l)).answerParcel p .accepted []) :
    ∃ t, t = serve q body l tag pl s
      ∧ t.parcel p = { r with state := .closing, acceptTimer := none, acceptance := ⟨false, false, false⟩ }
      ∧ JobPlaced .close p s.engine t.engine
      ∧ RepliedFor s t l tag p .accepted [] (stateNotices p (s.parcel p) (t.parcel p) (.request q l))
      ∧ t.store = s.store ∧ LampFollows p s t ∧ Within p s t ∧ AlarmKept s t := by
  obtain ⟨changed, only, replied⟩ := serve_changed_aside (tag := tag) takes right answer (State.placeJob_aside _ _ _)
  have placed := ((s.hunt l).changeParcel p { r with state := .closing, acceptTimer := none, acceptance := AcceptSet.empty }
    (.request q l)).placeJob_placed .close p
  rw [State.changeParcel_engine, State.hunt_engine] at placed
  refine ⟨_, rfl, changed.record, only.engine ▸ placed, changed.record ▸ replied, ?_, changed.lamp, changed.within, changed.alarm⟩
  rw [only.store, State.callRevision, State.placeJob_store, State.changeParcel_store, State.hunt_store]

theorem reqRegauge_of_names {pl : List Byte} {p : ParcelNo} {s : State} (l : Link) (h : Names pl 1 p)
    (idle : s.store.verifying = false) (awaiting : (s.parcel p).state = .awaitingAccept) :
    reqRegauge l pl (s.hunt l) = if 3 ≤ (s.parcel p).revision.getD 0 then refuse (s.hunt l) .refusedState
      else ((s.hunt l).callRevision p (s.parcel p) (.request .regauge l)).answerParcel p .accepted [] := by
  refine (withParcel_hunt h idle _).trans ?_
  simp only [State.parcel_hunt, awaiting, Parcel.revisionLimit, decide_eq_true_eq]

theorem reqSetLineAdjust_of_names {pl : List Byte} {p : ParcelNo} {s : State} (l : Link) (h : Names pl 5 p)
    (idle : s.store.verifying = false) (awaiting : (s.parcel p).state = .awaitingAccept) :
    reqSetLineAdjust l pl (s.hunt l) = if -1000000 ≤ s32 pl 1 ∧ s32 pl 1 ≤ 1000000 then
        if 3 ≤ (s.parcel p).revision.getD 0 then refuse (s.hunt l) .refusedState
        else ((s.hunt l).callRevision p { s.parcel p with lineAdjust := s32 pl 1 } (.request .setLineAdjust l)).answerParcel
          p .accepted []
      else refuse (s.hunt l) .refusedRange := by
  refine (withParcel_hunt h idle _).trans ?_
  simp only [State.parcel_hunt, awaiting, Parcel.revisionLimit, decide_eq_true_eq, inRange_iff]

theorem reqSetLineAdjust_inTransfer {pl : List Byte} {p : ParcelNo} {s : State} (l : Link) (h : Names pl 5 p)
    (idle : s.store.verifying = false) (state : (s.parcel p).state = .transferring ∨ (s.parcel p).state = .suspended) :
    reqSetLineAdjust l pl (s.hunt l) = if -1000000 ≤ s32 pl 1 ∧ s32 pl 1 ≤ 1000000 then
        ((s.hunt l).setParcel p { s.parcel p with lineAdjust := s32 pl 1 }).answerParcel p .ok []
      else refuse (s.hunt l) .refusedRange := by
  refine (withParcel_hunt h idle _).trans ?_
  rcases state with e | e <;> simp only [State.parcel_hunt, e, inRange_iff]

/-- Settles O30: the revision limit, the range, the stored adjustment. -/
theorem regaugesAndLineAdjustments : Obligations.RegaugesAndLineAdjustments := by
  unfold Obligations.RegaugesAndLineAdjustments
  refine ⟨fun s l tag pl p c req v ⟨takes, right, idle⟩ awaiting command => ?_,
    fun s l tag pl p ⟨takes, right, idle⟩ named state => ?_⟩
  · rcases command with ⟨rfl, rfl, named, rfl⟩ | ⟨rfl, rfl, named, rfl⟩
    · have body := reqRegauge_of_names l named idle awaiting
      refine ⟨fun below _ => ?_, fun limit _ => ⟨_, rfl, turnedAway_of_refuse takes right (body.trans (if_pos limit))⟩,
        fun e => (by cases e)⟩
      obtain ⟨t, rfl, revised⟩ := serve_revised (tag := tag) takes right (body.trans (if_neg (Nat.not_le.mpr below)))
      exact ⟨_, rfl, revised⟩
    · have body := reqSetLineAdjust_of_names l named idle awaiting
      refine ⟨fun below ranged => ?_, fun limit ranged => ⟨_, rfl, ?_⟩, fun _ out => ⟨_, rfl, ?_⟩⟩
      · replace body := (body.trans (if_pos (ranged rfl))).trans (if_neg (Nat.not_le.mpr below))
        obtain ⟨t, rfl, revised⟩ := serve_revised (tag := tag) takes right body
        exact ⟨_, rfl, revised⟩
      · exact turnedAway_of_refuse takes right ((body.trans (if_pos (ranged rfl))).trans (if_pos limit))
      · exact turnedAway_of_refuse takes right (body.trans (if_neg (by omega)))
  · have body := reqSetLineAdjust_inTransfer l named idle state
    refine ⟨fun lo hi => ⟨_, rfl, ?_⟩, fun out => ⟨_, rfl, turnedAway_of_refuse takes right (body.trans (if_neg (by omega)))⟩⟩
    have answered := serve_answered (tag := tag) (bs := []) takes right (body.trans (if_pos ⟨lo, hi⟩)) fun m => rfl
    have only := answered.only
    refine ⟨?_, answered.for, ((s.hunt l).setParcel_onlyParcel p _).of_onlyLinks (s.hunt_onlyLinks l) only, ?_⟩
    · rw [only.parcel, State.parcel_setParcel_same]
    · rw [only.lines, State.setParcel_lines, State.hunt_lines]

end Sys2Proof.Machine
end

section
/-!
PROOFS. OFFER_BASIS and the resolution of two offers (chapter 2, R30 to R37).
-/

namespace Sys2Proof.Machine

/-! ### Resolution (R32 to R35) -/

/-- The arithmetic mean of two densities, a half rounded up (R32 step 2). -/
theorem roundDiv_mean (a b : Nat) : (roundDiv ((a : Int) + b) 2).toNat = (a + b + 1) / 2 := by
  unfold roundDiv
  rw [if_pos (by omega)]
  omega

theorem tabCommon_iff {a b : CommonOffer} : tabCommon a b = true ↔ a.tab = true ∧ b.tab = true ∧ a.tableId = b.tableId := by
  simp [tabCommon, and_assoc]

theorem quadCommon_iff {a b : CommonOffer} : quadCommon a b = true ↔ a.quad = true ∧ b.quad = true ∧ a.alpha = b.alpha := by
  simp [quadCommon, and_assoc]

theorem linCommon_iff {a b : CommonOffer} : linCommon a b = true ↔ a.lin = true ∧ b.lin = true ∧ a.alpha = b.alpha := by
  simp [linCommon, and_assoc]

/-- The mass basis is absent exactly where neither basis is common (R32 step 3). -/
theorem resolveMass_eq (a b : CommonOffer) :
    resolveMass a b = if (a.vac && b.vac) = false ∧ (a.air && b.air) = false then none
      else some (if a.vac = true ∧ b.vac = true then .vac else .air) := by
  unfold resolveMass
  cases vac : (a.vac && b.vac)
  · cases (a.air && b.air)
    · rfl
    · simp [show ¬(a.vac = true ∧ b.vac = true) by rw [← Bool.and_eq_true, vac]; decide]
  · simp [show a.vac = true ∧ b.vac = true by rwa [← Bool.and_eq_true]]

/-- The method of a resolution, by what is common and whether the table is VALID (R33, R34). -/
theorem resolveMethod_eq (a b : CommonOffer) (valid : Bool) : resolveMethod a b valid =
    if tabCommon a b then
      if valid then .ok (.tab, false)
      else if quadCommon a b then .ok (.quad, true)
      else if linCommon a b then .ok (.lin, true)
      else .error .tableInvalid
    else if quadCommon a b then .ok (.quad, false)
    else if linCommon a b then .ok (.lin, false)
    else .error .noCommonMethod := by
  unfold resolveMethod nextCommon
  cases tabCommon a b <;> cases quadCommon a b <;> cases linCommon a b <;> rfl

/-- Settles O15: the steps in their order, the first to fail giving the failure. -/
theorem resolutionFollowsItsSteps : Obligations.ResolutionFollowsItsSteps := by
  unfold Obligations.ResolutionFollowsItsSteps
  intro so ho valid a b far noMass tab quad lin basis
  have apart : 5 < ((a.density : Int) - b.density).natAbs ↔ far := by
    change _ ↔ a.density + 5 < b.density ∨ b.density + 5 < a.density
    omega
  refine ⟨fun differ => ?_, fun same isFar => ?_, fun same near none => ?_, fun same near mass => ?_⟩ <;>
    simp only [resolve]
  · rw [if_pos differ]
  · rw [if_neg (not_not.mpr same), if_pos (apart.mpr isFar)]
  · rw [if_neg (not_not.mpr same), if_neg (mt apart.mp near), resolveMass_eq, if_pos none]
  · rw [if_neg (not_not.mpr same), if_neg (mt apart.mp near), resolveMass_eq, if_neg mass]
    simp only [resolveMethod_eq, tabCommon_iff, quadCommon_iff, linCommon_iff]
    refine ⟨fun t v => ?_, fun t q => ?_, fun t q l => ?_, fun t q l => ?_, fun t v q => ?_, fun t v q l => ?_,
      fun t v q l => ?_⟩
    · rw [if_pos t, if_pos v]
      simp [basis, a, b, roundDiv_mean]
    · rw [if_neg t, if_pos q]
      simp [basis, a, b, roundDiv_mean]
    · rw [if_neg t, if_neg q, if_pos l]
      simp [basis, a, b, roundDiv_mean]
    · rw [if_neg t, if_neg q, if_neg l]
    · rw [if_pos t, if_neg (by simp [v]), if_pos q]
      simp [basis, a, b, roundDiv_mean]
    · rw [if_pos t, if_neg (by simp [v]), if_neg q, if_pos l]
      simp [basis, a, b, roundDiv_mean]
    · rw [if_pos t, if_neg (by simp [v]), if_neg q, if_neg l]

/-! ### The fields of an offer (R30) -/

/-- The fields that both parties' offers hold are in range (R30). -/
def OfferInRange (pl : List Byte) : Prop :=
  let k := 3 + u8 pl 2
  1 ≤ u8 pl 1 ∧ u8 pl 1 ≤ 7 ∧ (u8 pl 1 % 2 = 1 → u8 pl 2 = 1 ∧ 1 ≤ u8 pl 3 ∧ u8 pl 3 ≤ 8)
    ∧ 100 ≤ u16 pl k ∧ u16 pl k ≤ 2000 ∧ (s16 pl (k + 2) = 1500 ∨ s16 pl (k + 2) = 2000)
    ∧ 1 ≤ u8 pl (k + 4) ∧ u8 pl (k + 4) ≤ 3 ∧ 6000 ≤ u16 pl (k + 5) ∧ u16 pl (k + 5) ≤ 11000

/-- The common part of an offer as its payload holds it (R30). -/
def offerFields (pl : List Byte) : CommonOffer :=
  let k := 3 + u8 pl 2
  { tab := decide (u8 pl 1 % 2 = 1)
    quad := decide (u8 pl 1 / 2 % 2 = 1)
    lin := decide (u8 pl 1 / 4 % 2 = 1)
    tableId := if u8 pl 1 % 2 = 1 then some (u8 pl 3) else none
    alpha := u16 pl k
    refTemp := s16 pl (k + 2)
    vac := decide (u8 pl (k + 4) % 2 = 1)
    air := decide (u8 pl (k + 4) / 2 % 2 = 1)
    density := u16 pl (k + 5) }

theorem offerRest_eq {pl : List Byte} (form : u8 pl 2 ≤ 1) : offerRest pl = 3 + u8 pl 2 := by
  unfold offerRest offerHasTable
  split
  next one => simp only [decide_eq_true_eq] at one; omega
  next not => simp only [decide_eq_true_eq] at not; omega

theorem commonOfferOf_in {pl : List Byte} (form : u8 pl 2 ≤ 1) (ok : OfferInRange pl) :
    commonOfferOf pl = some (offerFields pl) := by
  obtain ⟨some_, three, table, alphaLo, alphaHi, refTemp, massLo, massHi, densityLo, densityHi⟩ := ok
  have tableOk : (!decide (u8 pl 1 % 2 = 1) || (offerHasTable pl && inRange 1 8 (u8 pl 3))) = true := by
    by_cases tab : u8 pl 1 % 2 = 1
    · obtain ⟨present, lo, hi⟩ := table tab
      simp [tab, offerHasTable, present, inRange, lo, hi]
    · simp [tab]
  simp only [commonOfferOf, offerRest_eq form, setBit, pow_zero, Nat.div_one, pow_one]
  rw [if_pos]
  · simp [offerFields]
  · simp only [Bool.and_eq_true, tableOk, methodsOk, massBasesOk, inRange_iff, Bool.or_eq_true, decide_eq_true_eq, and_true]
    omega

theorem commonOfferOf_out {pl : List Byte} (form : u8 pl 2 ≤ 1) (out : ¬OfferInRange pl) : commonOfferOf pl = none := by
  simp only [commonOfferOf, offerRest_eq form, setBit, pow_zero, Nat.div_one]
  refine if_neg fun ok => out ?_
  simp only [Bool.and_eq_true, Bool.or_eq_true, Bool.not_eq_true', methodsOk, massBasesOk, inRange_iff, decide_eq_true_eq,
    decide_eq_false_iff_not, offerHasTable] at ok
  obtain ⟨⟨⟨⟨⟨methods, table⟩, alpha⟩, refTemp⟩, mass⟩, density⟩ := ok
  unfold OfferInRange
  omega

theorem freeWaterOf_eq_none {n : Nat} : freeWaterOf n = none ↔ n ≠ 1 ∧ n ≠ 2 := by
  unfold freeWaterOf
  split <;> simp_all

theorem pressureModeOf_eq_none {n : Nat} : pressureModeOf n = none ↔ n ≠ 1 ∧ n ≠ 2 := by
  unfold pressureModeOf
  split <;> simp_all

/-- A ship offer is out of range where its common part or its free-water mode is (R30). -/
theorem shipOfferOf_out {pl : List Byte} (form : u8 pl 2 ≤ 1)
    (out : ¬(OfferInRange pl ∧ (u8 pl (3 + u8 pl 2 + 7) = 1 ∨ u8 pl (3 + u8 pl 2 + 7) = 2))) : shipOfferOf pl = none := by
  by_cases common : OfferInRange pl
  · have mode := freeWaterOf_eq_none.mpr (not_or.mp fun two => out ⟨common, two⟩)
    simp [shipOfferOf, offerRest_eq form, mode]
  · simp [shipOfferOf, commonOfferOf_out form common]

/-- A shore offer likewise by its common part, its pressure mode and its compressibility (R30). -/
theorem shoreOfferOf_out {pl : List Byte} (form : u8 pl 2 ≤ 1)
    (out : ¬(OfferInRange pl ∧ (u8 pl (3 + u8 pl 2 + 7) = 1 ∨ u8 pl (3 + u8 pl 2 + 7) = 2) ∧ u16 pl (3 + u8 pl 2 + 8) ≤ 500)) :
    shoreOfferOf pl = none := by
  by_cases common : OfferInRange pl
  · by_cases two : u8 pl (3 + u8 pl 2 + 7) = 1 ∨ u8 pl (3 + u8 pl 2 + 7) = 2
    · have large : ¬u16 pl (3 + u8 pl 2 + 8) ≤ 500 := fun le => out ⟨common, two, le⟩
      simp only [shoreOfferOf, offerRest_eq form, large, if_false]
      split <;> rfl
    · simp [shoreOfferOf, offerRest_eq form, pressureModeOf_eq_none.mpr (not_or.mp two)]
  · simp [shoreOfferOf, commonOfferOf_out form common]

/-! ### OFFER_BASIS (R30, R31, R36, R37) -/

theorem offerForm_iff {l : Link} {pl : List Byte} (party : l ≠ .survey) :
    offerForm l pl = true ↔ Req.formed .offerBasis l pl := by
  cases l
  · simp [offerForm, Req.formed, formLen]
  · simp [offerForm, Req.formed, formLen]
  · exact absurd rfl party

section
variable {l : Link} {tag : Byte} {pl : List Byte} {s : State} {p : ParcelNo} {r : Parcel}

/-- OFFER_BASIS in its right form where the declaration may change, its fields in range, is stored (R31). -/
theorem reqOfferBasis_of_ranged (idle : s.store.verifying = false)
    (state : (s.parcel p).state = .declared ∨ (s.parcel p).state = .basisAgreed) (formed : Req.formed .offerBasis l pl)
    (named : parcelOf (u8 pl 0) = some p)
    (ranged : (l = .ship ∧ ∃ o, shipOfferOf pl = some o ∧ r = { s.parcel p with shipOffer := some o })
      ∨ (l = .shore ∧ ∃ o, shoreOfferOf pl = some o ∧ r = { s.parcel p with shoreOffer := some o })) :
    reqOfferBasis l pl (s.hunt l) = (s.hunt l).storeOffer p r l := by
  rcases ranged with ⟨rfl, o, given, rfl⟩ | ⟨rfl, o, given, rfl⟩ <;>
    simp only [reqOfferBasis, withParcel, State.hunt_store, idle, (offerForm_iff (by decide)).mpr formed, named,
      State.parcel_hunt, ParcelState.declarable_of state, given, if_true, Bool.false_eq_true, if_false]

/-- With a field out of range it is refused (R30). -/
theorem reqOfferBasis_of_out (idle : s.store.verifying = false)
    (state : (s.parcel p).state = .declared ∨ (s.parcel p).state = .basisAgreed) (formed : Req.formed .offerBasis l pl)
    (named : parcelOf (u8 pl 0) = some p)
    (out : (l = .ship ∧ shipOfferOf pl = none) ∨ (l = .shore ∧ shoreOfferOf pl = none)) :
    reqOfferBasis l pl (s.hunt l) = refuse (s.hunt l) .refusedRange := by
  rcases out with ⟨rfl, given⟩ | ⟨rfl, given⟩ <;>
    simp only [reqOfferBasis, withParcel, State.hunt_store, idle, (offerForm_iff (by decide)).mpr formed, named,
      State.parcel_hunt, ParcelState.declarable_of state, given, if_true, Bool.false_eq_true, if_false]

theorem State.postAll_onlyLinks (s : State) (b : NoticeBody) : OnlyLinks s (s.postAll b) := rfl

/-- A request its block answers by a change of one record and one more notice. -/
theorem serve_changed_posted {q : Req} {body : Body} {x : Parcel} {cause : Cause} {more : List Byte} {b : NoticeBody}
    (takes : s.takes l) (right : mayRequest q l = true)
    (answer : body l pl (s.hunt l) = (((s.hunt l).changeParcel p x cause).postAll b).answerParcel p .ok more) :
    ∃ t, t = serve q body l tag pl s ∧ t.parcel p = x
      ∧ RepliedFor s t l tag p .ok more (stateNotices p (s.parcel p) (t.parcel p) cause ++ [b]) ∧ LampFollows p s t
      ∧ OnlyParcel p s t := by
  have answered := serve_answered (tag := tag) takes right answer fun m => by
    rw [State.link_postAll, s.links_changeParcel l p x cause, State.changeParcel_clock, State.hunt_clock,
      ← LinkState.placeAll_nil (LinkState.place _ _) s.clock, ← LinkState.placeAll_cons, ← LinkState.placeAll_append]
  have changed := ((s.hunt l).changeParcel_recordChanged p x cause).of_onlyLinks (s.hunt_onlyLinks l)
    ((State.postAll_onlyLinks _ b).trans answered.only)
  exact ⟨_, rfl, changed.record, changed.record ▸ answered.for, changed.lamp, changed.only⟩

/-- An offer stored while the other is absent (R31). -/
theorem State.storeOffer_pending (s : State) (absent : r.shipOffer = none ∨ r.shoreOffer = none) :
    s.storeOffer p r l = (s.changeParcel p { r with state := .declared, openSet := ⟨false, false⟩, basis := none }
      (.request .offerBasis l)).answerParcel p .ok [1] := by
  simp only [State.storeOffer]
  rcases absent with none | none <;> rw [none]
  · rfl
  · cases r.shipOffer <;> rfl

theorem State.storeOffer_resolved (s : State) {so : ShipOffer} {ho : ShoreOffer} {b : Basis} (ship : r.shipOffer = some so)
    (shore : r.shoreOffer = some ho) (agreed : resolve so ho (s.offeredTableValid so) = .ok b) :
    s.storeOffer p r l = ((s.changeParcel p { r with state := .basisAgreed, openSet := ⟨false, false⟩, basis := some b }
      (.request .offerBasis l)).postAll (.basisResolved p b so ho)).answerParcel p .ok [2] := by
  simp only [State.storeOffer, ship, shore, agreed]
  rfl

theorem State.storeOffer_failed (s : State) {so : ShipOffer} {ho : ShoreOffer} {e : ResolveFailure}
    (ship : r.shipOffer = some so) (shore : r.shoreOffer = some ho)
    (failed : resolve so ho (s.offeredTableValid so) = .error e) :
    s.storeOffer p r l = ((s.changeParcel p { r with
        state := .declared, openSet := ⟨false, false⟩, basis := none, shipOffer := none, shoreOffer := none }
      (.request .offerBasis l)).postAll (.basisFailed p e)).answerParcel p .ok (3 :: eResolveFailure e) := by
  simp only [State.storeOffer, ship, shore, failed]
  rfl

end

theorem State.offeredTableValid_iff (s : State) (so : ShipOffer) : s.offeredTableValid so = true ↔
    ∃ k, so.common.tableId = some k ∧ s.store.reported (24 + k) = .valid := by
  unfold State.offeredTableValid
  cases so.common.tableId <;> simp [Store.isValid]

theorem State.offeredTableValid_hunt (s : State) (l : Link) (so : ShipOffer) :
    (s.hunt l).offeredTableValid so = s.offeredTableValid so := by
  simp [State.offeredTableValid]

/-- Settles O14: the table looked at, the three outcomes of a stored offer, and the ranges of its fields. -/
theorem offersAreExaminedStoredAndResolved : Obligations.OffersAreExaminedStoredAndResolved := by
  unfold Obligations.OffersAreExaminedStoredAndResolved
  refine ⟨State.offeredTableValid_iff, fun s l tag pl p r ⟨takes, right, idle⟩ state formed named ranged => ?stored,
    fun s l tag pl p ⟨takes, right, idle⟩ state formed named => ?fields⟩
  case stored =>
    have body := reqOfferBasis_of_ranged idle state formed named ranged
    by_cases absent : r.shipOffer = none ∨ r.shoreOffer = none
    · obtain ⟨t, rfl, record, replied, lamp, only⟩ :=
        serve_changed_for (tag := tag) takes right (body.trans (State.storeOffer_pending _ absent))
      have both {so : ShipOffer} {ho : ShoreOffer} (ship : r.shipOffer = some so) (shore : r.shoreOffer = some ho) : False := by
        simp [ship, shore] at absent
      exact ⟨_, rfl, lamp, only, fun _ => ⟨record, replied⟩, fun _ _ _ ship shore => (both ship shore).elim,
        fun _ _ _ ship shore => (both ship shore).elim⟩
    · obtain ⟨noShip, noShore⟩ := not_or.mp absent
      obtain ⟨so, ship⟩ := Option.ne_none_iff_exists'.mp noShip
      obtain ⟨ho, shore⟩ := Option.ne_none_iff_exists'.mp noShore
      have same {so' : ShipOffer} {ho' : ShoreOffer} (e : r.shipOffer = some so') (f : r.shoreOffer = some ho') :
          so' = so ∧ ho' = ho :=
        ⟨Option.some.inj (e.symm.trans ship), Option.some.inj (f.symm.trans shore)⟩
      cases out : resolve so ho (s.offeredTableValid so) with
      | ok b =>
        obtain ⟨t, rfl, record, replied, lamp, only⟩ := serve_changed_posted (tag := tag) takes right
          (body.trans (State.storeOffer_resolved _ ship shore (by rwa [State.offeredTableValid_hunt])))
        refine ⟨_, rfl, lamp, only, fun e => absurd e absent, fun so' ho' b' e f resolved => ?_, fun so' ho' e' e f failed => ?_⟩
        · obtain ⟨rfl, rfl⟩ := same e f
          cases out.symm.trans resolved
          exact ⟨record, replied⟩
        · obtain ⟨rfl, rfl⟩ := same e f
          cases out.symm.trans failed
      | error failure =>
        obtain ⟨t, rfl, record, replied, lamp, only⟩ := serve_changed_posted (tag := tag) takes right
          (body.trans (State.storeOffer_failed _ ship shore (by rwa [State.offeredTableValid_hunt])))
        refine ⟨_, rfl, lamp, only, fun e => absurd e absent, fun so' ho' b' e f resolved => ?_, fun so' ho' e' e f failed => ?_⟩
        · obtain ⟨rfl, rfl⟩ := same e f
          cases out.symm.trans resolved
        · obtain ⟨rfl, rfl⟩ := same e f
          cases out.symm.trans failed
          exact ⟨record, replied⟩
  case fields =>
    intro k common c
    have form : u8 pl 2 ≤ 1 := formed.1
    refine ⟨fun ship => ⟨fun ok => ?_, fun ok => ?_, fun out => ⟨_, rfl, ?_⟩⟩,
      fun shore => ⟨fun ok => ?_, fun ok => ?_, fun out => ⟨_, rfl, ?_⟩⟩⟩
    · obtain ⟨fields, mode⟩ := ok
      simp only [shipOfferOf, commonOfferOf_in form fields, offerRest_eq form, k] at mode ⊢
      rw [mode]
      rfl
    · obtain ⟨fields, mode⟩ := ok
      simp only [shipOfferOf, commonOfferOf_in form fields, offerRest_eq form, k] at mode ⊢
      rw [mode]
      rfl
    · exact turnedAway_of_refuse takes right (reqOfferBasis_of_out idle state formed named (.inl ⟨ship, shipOfferOf_out form out⟩))
    · obtain ⟨fields, mode, compress⟩ := ok
      simp only [shoreOfferOf, commonOfferOf_in form fields, offerRest_eq form, k] at mode compress ⊢
      rw [mode]
      simp [pressureModeOf, compress]
      rfl
    · obtain ⟨fields, mode, compress⟩ := ok
      simp only [shoreOfferOf, commonOfferOf_in form fields, offerRest_eq form, k] at mode compress ⊢
      rw [mode]
      simp [pressureModeOf, compress]
      rfl
    · exact turnedAway_of_refuse takes right (reqOfferBasis_of_out idle state formed named (.inr ⟨shore, shoreOfferOf_out form out⟩))

end Sys2Proof.Machine
end

section
/-!
PROOFS. The cycle timer, the lamps, the resets, and the events that come due of themselves (R110, R204, R211, R212).
-/

namespace Sys2Proof.Machine

/-! ### The cycle timer and the lamps (R110, R111, R211, R212) -/

/-- The expiry of a running cycle timer that is reached (R110, R111). -/
theorem State.expireCycleTimer_of {s : State} {p : ParcelNo} {e : Instant} (state : (s.parcel p).state = .transferring)
    (timer : (s.parcel p).cycleTimer = some e) (due : 0 ≤ (s.clock - e).toInt) :
    s.expireCycleTimer p =
      if (s.engine.jobs p).cycle || s.engine.runs .cycle p then
        s.setParcel p { s.parcel p with cycleTimer := some (e + tenths (s.parcel p).params.cyclePeriod), overrun := true }
      else (s.setParcel p { s.parcel p with
        cycleTimer := some (e + tenths (s.parcel p).params.cyclePeriod) }).placeJob .cycle p := by
  simp only [State.expireCycleTimer, Parcel.cycleDue, state, timer, reached, due, decide_true, Bool.and_self, if_true,
    Option.map_some]

/-- Where a CYCLE waits or runs, placing one changes nothing (R101, R111). -/
theorem JobPlaced.of_busy {e : Engine} {p : ParcelNo} (busy : ((e.jobs p).cycle || e.runs .cycle p) = true) :
    JobPlaced .cycle p e e := by
  refine ⟨rfl, rfl, fun _ _ => rfl, ?_⟩
  split
  · rfl
  next idle =>
    have waits : (e.jobs p).cycle = true := by simpa [idle] using busy
    exact (JobSet.put_of_has (k := .cycle) waits).symm

theorem LampDrive.inverse_on : LampDrive.on.inverse = .off := rfl

/-- What a lamp shows, by what its pattern drives (R212). -/
theorem State.lampDrive_gives {s : State} {p : ParcelNo} {base : LampDrive}
    (drive : (s.lines.lamp p).pattern.drive (s.msec - (s.lines.lamp p).since) = base) :
    ((s.lines.lamp p).pulseUntil = none → s.lampDrive p = base)
      ∧ ((s.lines.lamp p).pulseUntil ≠ none → s.lampDrive p = base.inverse) := by
  refine ⟨fun none => ?_, fun pulse => ?_⟩
  · simp only [State.lampDrive, none, drive]
  · obtain ⟨e, pulse⟩ := Option.ne_none_iff_exists'.mp pulse
    simp only [State.lampDrive, pulse, drive]

theorem Parcel.pattern_of_normal {r : Parcel} (normal : r.recon.alarm = false) :
    (r.state ∈ [.suspended, .awaitingAccept] → r.pattern = .slow)
      ∧ (r.state ∈ [.opening, .transferring, .closing] → r.pattern = .steady)
      ∧ (r.state ∈ [.declared, .basisAgreed, .closed, .disputed] → r.pattern = .dim)
      ∧ (r.state = .free → r.pattern = .off) := by
  unfold Parcel.pattern
  rw [normal]
  cases r.state <;> decide

/-- Settles O29: the base patterns, the light they give, the reload, the end of a PULSE. -/
theorem cycleTimerAndPulseEnd : Obligations.CycleTimerAndPulseEnd := by
  unfold Obligations.CycleTimerAndPulseEnd
  refine ⟨fun r => ⟨fun alarm => ?_, Parcel.pattern_of_normal⟩, fun s p => ?_, fun s p e state timer due => ⟨_, rfl, ?_⟩,
    fun s p e pulse due => ⟨_, rfl, ?_⟩⟩
  · simp [Parcel.pattern, alarm]
  · intro lamp phase gives
    have shows {base : LampDrive} (drive : lamp.pattern.drive phase = base) : gives base base.inverse :=
      State.lampDrive_gives drive
    refine ⟨fun fast => ⟨fun early => shows ?_, fun late => shows (base := .off) ?_⟩,
      fun slow => ⟨fun early => shows ?_, fun late => shows (base := .off) ?_⟩, fun steady => shows ?_, fun dim => shows ?_,
      fun off => shows (base := .off) ?_⟩
    · rw [fast]; exact if_pos early
    · rw [fast]; exact if_neg (Nat.not_lt.mpr late)
    · rw [slow]; exact if_pos early
    · rw [slow]; exact if_neg (Nat.not_lt.mpr late)
    · rw [steady]; rfl
    · rw [dim]; rfl
    · rw [off]; rfl
  · rw [State.expireCycleTimer_of state timer due]
    cases busy : (s.engine.jobs p).cycle || s.engine.runs .cycle p
    · rw [if_neg (by simp)]
      set r := { s.parcel p with cycleTimer := some (e + tenths (s.parcel p).params.cyclePeriod) }
      have aside := (s.setParcel p r).placeJob_aside .cycle p
      have store := (s.setParcel p r).placeJob_store .cycle p
      refine ⟨?_, fun q ne => (aside.parcel q).trans (s.parcel_setParcel_ne ne r), ?_, fun e => (by cases e),
        (s.setParcel p r).placeJob_placed .cycle p⟩
      · unfold Aside at aside
        rw [store] at aside
        rw [aside]
        rfl
      · rw [aside.parcel, State.parcel_setParcel_same, Bool.or_false]
    · rw [if_pos rfl]
      refine ⟨rfl, s.setParcel_otherParcels p _, ?_, fun _ => rfl, JobPlaced.of_busy busy⟩
      rw [State.parcel_setParcel_same, Bool.or_true]
  · have ends : s.endPulse p = s.setLines (s.lines.setLamp p { s.lines.lamp p with pulseUntil := none }) := by
      simp [State.endPulse, pulse, due]
    rw [ends]
    exact ⟨rfl, Lines.lamp_setLamp_same _ p _, fun q ne => Lines.lamp_setLamp_ne _ ne _⟩

/-! ### POWER_ON and RESET_LINE (R204) -/

theorem Store.item_afterReset (st : Store) (id : Nat) :
    st.afterReset.item id = { st.item id with commitPending := false } := by
  simp only [Store.item, Store.afterReset]
  split
  · rfl
  · rw [Vector.getElem?_map]
    cases st.items[id - 1]? <;> rfl

theorem Lines.input_afterReset (l : Lines) (i : InputName) :
    l.afterReset.input i = ⟨(l.input i).microamps, none, false, none⟩ := by
  cases i with
  | esd => rfl
  | spare => rfl
  | mv n =>
    simp only [Lines.input, Lines.afterReset, Vector.get_eq_getElem, Vector.getElem_map]
    rfl

theorem State.afterReset_spec (s : State) (cause : ResetCause) (straps : Straps) :
    let t := s.afterReset cause straps
    (∀ n, t.tank n = TankSource.never) ∧ (∀ n, t.meter n = MeterSource.never) ∧ (∀ p, t.parcel p = Parcel.cleared)
      ∧ (∀ p, t.restoreLost.get p = false) ∧ (∀ p, t.engine.jobs p = ⟨false, false, false⟩)
      ∧ ∀ p, t.lines.lamp p = Lamp.reset :=
  ⟨State.tank_reset, State.meter_reset, State.parcel_reset, fun p => get_replicate _ p, fun p => get_replicate _ p,
    Lines.lamp_reset⟩

/-- Settles O8: the state both reset commands leave, field by field. -/
theorem resetCommandsSetTheState : Obligations.ResetCommandsSetTheState := by
  unfold Obligations.ResetCommandsSetTheState
  intro s straps c cause command
  have run : exec c s = .next (s.afterReset cause straps) := by
    rcases command with ⟨rfl, rfl⟩ | ⟨rfl, rfl⟩ <;> rfl
  obtain ⟨tank, meter, parcel, lost, jobs, lamp⟩ := s.afterReset_spec cause straps
  exact ⟨_, run, rfl, rfl, rfl, rfl, rfl, tank, rfl, meter, fun p => ⟨parcel p, by rw [parcel]; rfl, lost p⟩, jobs, rfl, rfl,
    s.store.item_afterReset, rfl, fun _ => rfl, rfl, rfl, rfl, rfl, rfl, s.lines.input_afterReset, rfl, rfl, lamp, rfl, rfl,
    rfl, rfl, rfl⟩

/-! ### The events that are due (R17, R102, R104, R110, R144, R183, R186, R187, R193, R207, R212) -/

theorem mem_dueIf {b : Bool} {c d : Instr} : c ∈ dueIf b d ↔ b = true ∧ c = d := by
  cases b <;> simp [dueIf]

theorem mem_allInputs (i : InputName) : i ∈ allInputs := by
  cases i with
  | esd => decide
  | spare => decide
  | mv n => fin_cases n <;> decide

theorem mem_allParcels (p : ParcelNo) : p ∈ allParcels := by fin_cases p <;> decide

theorem mem_allLinks (l : Link) : l ∈ allLinks := by cases l <;> decide

theorem mem_roundRobin (m p : ParcelNo) : p ∈ roundRobin m := by decide +revert

/-- The arbiter has a job to take exactly where one waits (R102). -/
theorem Engine.choose_isSome (e : Engine) : e.choose.isSome = true ↔ ∃ p, e.jobs p ≠ ⟨false, false, false⟩ := by
  have waits (j : JobSet) : j ≠ ⟨false, false, false⟩ ↔ j.close = true ∨ j.openJob = true ∨ j.cycle = true := by
    obtain ⟨o, c, cl⟩ := j
    cases o <;> cases c <;> cases cl <;> decide
  simp only [waits]
  unfold Engine.choose Engine.lowestWaiting
  split
  next p found => exact ⟨fun _ => ⟨p, .inl (List.find?_some (p := fun q => (e.jobs q).has .close) found)⟩, fun _ => rfl⟩
  next noClose =>
    have noClose (p : ParcelNo) : (e.jobs p).close ≠ true := List.find?_eq_none.mp noClose p (mem_allParcels p)
    split
    next p found => exact ⟨fun _ => ⟨p, .inr (.inl (List.find?_some (p := fun q => (e.jobs q).has .openJob) found))⟩, fun _ => rfl⟩
    next noOpen =>
      have noOpen (p : ParcelNo) : (e.jobs p).openJob ≠ true := List.find?_eq_none.mp noOpen p (mem_allParcels p)
      rw [Option.isSome_map, List.find?_isSome]
      refine ⟨fun ⟨p, _, cycle⟩ => ⟨p, .inr (.inr cycle)⟩, fun ⟨p, waiting⟩ => ⟨p, mem_roundRobin _ _, ?_⟩⟩
      rcases waiting with h | h | h
      · exact absurd h (noClose p)
      · exact absurd h (noOpen p)
      · exact h

theorem Store.writeDue_iff (st : Store) : st.writeDue = true ↔ st.verify = .idle ∧ st.writer = none ∧ st.queue ≠ [] := by
  unfold Store.writeDue
  cases st.verify <;> cases st.writer <;> cases st.queue <;> simp

theorem Store.passDue_iff (st : Store) :
    st.passDue = true ↔ st.verify = .waiting ∧ ∀ w, st.writer = some w → w.paused = true := by
  unfold Store.passDue Store.writerQuiet
  cases st.verify <;> cases st.writer <;> simp

/-- A loop stands at the other level (R206, R207). -/
theorem InputState.reads_ne_iff (x : InputState) (straps : Straps) (i : InputName) (c : Nat) :
    let level (current : Bool) : Bool := if i = .esd ∧ straps.esdPol = false then !current else current
    x.reads straps i c ≠ x.level ↔ (4000 ≤ c ∧ level true ≠ x.level) ∨ (c ≤ 1000 ∧ level false ≠ x.level)
      ∨ (1000 < c ∧ c < 4000 ∧ x.lastRead = some (!x.level)) := by
  intro level
  have at_ (current : Bool) : levelOf straps i current = level current := by
    cases i <;> cases h : straps.esdPol <;> simp [levelOf, level, h]
  unfold InputState.reads currentOf
  by_cases high : 4000 ≤ c
  · simp only [high, if_true, at_, true_and, show ¬c ≤ 1000 by omega, show ¬c < 4000 by omega, false_and, and_false, or_false]
  · by_cases low : c ≤ 1000
    · simp only [high, low, if_true, if_false, at_, true_and, show ¬1000 < c by omega, false_and, or_false, false_or]
    · simp only [high, low, if_false, false_and, false_or, show 1000 < c by omega, show c < 4000 by omega, true_and]
      cases x.lastRead <;> cases x.level <;> simp

theorem InputState.due_iff (x : InputState) (now : Nat) : x.due now = true ↔ ∃ since, x.candidate = some since ∧ since + 50 ≤ now := by
  unfold InputState.due
  cases x.candidate <;> simp

/-- An armed mark of the no-flow timer reached (R16, R17). -/
theorem State.markReached_iff (s : State) (p : ParcelNo) (armed : Bool) (mark : Nat) :
    ((s.parcel p).inTransfer && armed && (s.parcel p).noFlowReached s.clock mark) = true ↔ s.markReached p armed mark := by
  simp only [State.markReached, Bool.and_eq_true, Parcel.inTransfer_iff, and_assoc]
  refine and_congr_right fun _ => and_congr_right fun _ => ?_
  unfold Parcel.noFlowReached Parcel.noFlow age
  cases (s.parcel p).lastFlow <;> cases (s.parcel p).flowRef <;> simp

theorem Parcel.cycleDue_iff (r : Parcel) (now : Instant) :
    r.cycleDue now = true ↔ r.state = .transferring ∧ ∃ e, r.cycleTimer = some e ∧ 0 ≤ (now - e).toInt := by
  unfold Parcel.cycleDue reached
  cases r.cycleTimer <;> simp only [Bool.and_eq_true, decide_eq_true_eq, Bool.and_false, reduceCtorEq, false_and, exists_const,
    and_false, Bool.false_eq_true, Option.some.injEq, exists_eq_left']

theorem Parcel.acceptDue_iff (r : Parcel) (now : Instant) :
    r.acceptDue now = true ↔ r.state = .awaitingAccept ∧ ∃ e, r.acceptTimer = some e ∧ 0 ≤ (now - e).toInt := by
  unfold Parcel.acceptDue reached
  cases r.acceptTimer <;> simp only [Bool.and_eq_true, decide_eq_true_eq, Bool.and_false, reduceCtorEq, false_and, exists_const,
    and_false, Bool.false_eq_true, Option.some.injEq, exists_eq_left']

theorem Lamp.pulseOver_iff (x : Lamp) (now : Nat) :
    (x.pulseUntil.map (fun e => decide (e ≤ now))).getD false = true ↔ ∃ e, x.pulseUntil = some e ∧ e ≤ now := by
  cases x.pulseUntil <;> simp

theorem LinkState.gap_iff (k : LinkState) (now : Nat) :
    k.gap now = true ↔ k.framer ≠ .hunting false ∧ k.lastByte + 20 < now := by
  unfold LinkState.gap Framer.begun
  cases k.framer <;> simp

/-- The completion of the running job, due at the end of its bound (R104). -/
theorem State.mem_jobDue (s : State) (c : Instr) : c ∈ s.jobDue ↔
    ∃ j, s.engine.running = some j ∧ j.startMs + j.bound ≤ s.msec ∧ c = j.completion := by
  unfold State.jobDue
  cases s.engine.running <;> simp [mem_dueIf]

/-- The completion of a verification, due at the end of its bound (R186, R187). -/
theorem State.mem_verifyDue (s : State) (c : Instr) : c ∈ s.verifyDue ↔ ∃ began, began + 1500 ≤ s.msec
    ∧ (s.store.verify = .startup began ∧ c = .startupVerificationComplete ∨ s.store.verify = .running began ∧ c = .verifyComplete) := by
  unfold State.verifyDue
  cases s.store.verify <;> simp [mem_dueIf]

theorem State.jobReached_iff (s : State) (c : Instr) :
    (∃ j, s.engine.running = some j ∧ j.startMs + j.bound ≤ s.msec ∧ c = j.completion) ↔
      (c = .openDone ∧ s.jobReached .openJob (fun c => c.openCauses = []))
      ∨ (c = .openFailed ∧ s.jobReached .openJob (fun c => c.openCauses ≠ []))
      ∨ (c = .cycleComplete ∧ s.jobReached .cycle (fun _ => True))
      ∨ (c = .closeDone ∧ s.jobReached .close (fun c => c.closeFaults = []))
      ∨ (c = .closeFailed ∧ s.jobReached .close (fun c => c.closeFaults ≠ [])) := by
  unfold State.jobReached
  cases s.engine.running with
  | none => simp
  | some j =>
    simp only [Option.some.injEq, exists_eq_left', RunningJob.bound, RunningJob.completion]
    cases j.kind
    · by_cases causes : j.copy.openCauses = [] <;> simp [causes, and_comm]
    · simp [and_comm]
    · by_cases faults : j.copy.closeFaults = [] <;> simp [faults, and_comm]

/-- The members of the list of due events, group by group. -/
theorem State.mem_due (s : State) (c : Instr) : c ∈ s.due ↔
    (c = .jobStart ∧ s.engine.running = none ∧ ∃ p, s.engine.jobs p ≠ ⟨false, false, false⟩)
    ∨ (c = .writeStart ∧ s.store.verify = .idle ∧ s.store.writer = none ∧ s.store.queue ≠ [])
    ∨ (c = .verifyPassStart ∧ s.store.verify = .waiting ∧ ∀ w, s.store.writer = some w → w.paused = true)
    ∨ (∃ i, (c = .loopLevelChange i (s.lines.input i).microamps ∧ (s.lines.input i).candidate = none
        ∧ (s.lines.input i).reads s.straps i (s.lines.input i).microamps ≠ (s.lines.input i).level)
      ∨ (c = .inputChange i ∧ ∃ since, (s.lines.input i).candidate = some since ∧ since + 50 ≤ s.msec))
    ∨ (∃ p, (c = .settledByTime p ∧ s.markReached p (s.parcel p).settleArmed (s.parcel p).params.settleTime)
      ∨ (c = .restoredByTime p ∧ s.markReached p (s.parcel p).restoreArmed (s.parcel p).params.restoreTime)
      ∨ (c = .cycleTimerExpiry p ∧ (s.parcel p).cycleDue s.clock = true)
      ∨ (c = .acceptTimeout p ∧ (s.parcel p).acceptDue s.clock = true)
      ∨ (c = .pulseEnd p ∧ ∃ e, (s.lines.lamp p).pulseUntil = some e ∧ e ≤ s.msec))
    ∨ (∃ l, c = .interByteGap l ∧ (s.link l).gap s.msec = true)
    ∨ c ∈ s.jobDue ∨ c ∈ s.verifyDue := by
  simp only [State.due, List.mem_append, mem_dueIf, State.inputsDue, State.parcelDue, List.mem_flatMap, mem_allInputs,
    mem_allParcels, mem_allLinks, true_and, Bool.and_eq_true, Option.isNone_iff_eq_none, decide_eq_true_eq,
    Engine.choose_isSome, Store.writeDue_iff, Store.passDue_iff, InputState.due_iff, Lamp.pulseOver_iff, or_assoc]
  simp only [← Bool.and_eq_true, State.markReached_iff, and_comm (b := c = _)]

/-- The due events are those of `State.eventDue`. -/
theorem State.mem_due_iff (s : State) (c : Instr) : c ∈ s.due ↔ s.eventDue c := by
  rw [State.mem_due, State.mem_jobDue, State.jobReached_iff, State.mem_verifyDue]
  cases c with
  | loopLevelChange i microamps =>
    have same : (∃ j, Instr.loopLevelChange i microamps = .loopLevelChange j (s.lines.input j).microamps
        ∧ (s.lines.input j).candidate = none
        ∧ (s.lines.input j).reads s.straps j (s.lines.input j).microamps ≠ (s.lines.input j).level)
        ↔ s.eventDue (.loopLevelChange i microamps) := by
      simp only [State.eventDue, ← InputState.reads_ne_iff, Instr.loopLevelChange.injEq]
      constructor
      · rintro ⟨j, ⟨rfl, rfl⟩, free, other⟩
        exact ⟨free, rfl, other⟩
      · rintro ⟨free, rfl, other⟩
        exact ⟨i, ⟨rfl, rfl⟩, free, other⟩
    rw [← same]
    simp
  | interByteGap l => simp [State.eventDue, LinkState.gap_iff]
  | cycleTimerExpiry p => simp [State.eventDue, Parcel.cycleDue_iff]
  | acceptTimeout p => simp [State.eventDue, Parcel.acceptDue_iff]
  | _ => simp [State.eventDue, and_comm]

/-- Settles O3: the due events, the first of them queued, or the millisecond that passes. -/
theorem idlePartLetsTimePass : Obligations.IdlePartLetsTimePass := by
  unfold Obligations.IdlePartLetsTimePass
  refine fun s => ⟨s.mem_due_iff, fun empty => ?_⟩
  have idles : step s = .next s.idle := by simp only [step, empty]
  refine ⟨fun c rest due => ?_, fun none => ⟨s.tick, ?_, rfl, rfl, rfl⟩⟩
  · rw [idles, State.idle, due]
  · rw [idles, State.idle, none]

end Sys2Proof.Machine
end

section
/-!
PROOFS. The arbiter and the copy a job takes at its start (sections 6.2 and 6.3, R51, R52, R59, R102, R103).
-/

namespace Sys2Proof.Machine

/-! ### The order of the arbiter (R102) -/

theorem allParcels_split (p : ParcelNo) : allParcels = allParcels.take p.val ++ p :: allParcels.drop (p.val + 1)
    ∧ ∀ q ∈ allParcels.take p.val, q < p := by
  decide +revert

/-- The lowest parcel that meets a test is the first found. -/
theorem find_lowest {f : ParcelNo → Bool} {p : ParcelNo} (here : f p = true) (below : ∀ q < p, f q = false) :
    allParcels.find? f = some p := by
  obtain ⟨split_, lower⟩ := allParcels_split p
  exact List.find?_eq_some_iff_append.mpr ⟨here, _, _, split_, fun q mem => by simp [below q (lower q mem)]⟩

theorem roundRobin_eq (m : ParcelNo) : roundRobin m = allParcels.map (fun k => m + 1 + k) := by
  decide +revert

/-- The first parcel after the mark that meets a test is the first found in round-robin order. -/
theorem find_roundRobin {f : ParcelNo → Bool} {m p : ParcelNo} (here : f p = true)
    (first : ∀ q, f q = true → (p - (m + 1)).val ≤ (q - (m + 1)).val) : (roundRobin m).find? f = some p := by
  have found : allParcels.find? (f ∘ fun k => m + 1 + k) = some (p - (m + 1)) := by
    refine find_lowest (by simpa using here) fun q lt => Bool.eq_false_iff.mpr fun hit => ?_
    have le := first _ hit
    rw [add_sub_cancel_left] at le
    exact absurd lt (not_lt.mpr le)
  rw [roundRobin_eq, List.find?_map, found]
  simp

/-- The job the arbiter's order names (R102). -/
def Engine.names (e : Engine) (k : JobKind) (p : ParcelNo) : Prop :=
  k = .close ∧ (e.jobs p).close = true ∧ (∀ q < p, (e.jobs q).close = false)
    ∨ k = .openJob ∧ (∀ q, (e.jobs q).close = false) ∧ (e.jobs p).openJob = true ∧ (∀ q < p, (e.jobs q).openJob = false)
    ∨ k = .cycle ∧ (∀ q, (e.jobs q).close = false ∧ (e.jobs q).openJob = false) ∧ (e.jobs p).cycle = true
      ∧ ∀ q, (e.jobs q).cycle = true → (p - (e.mark + 1)).val ≤ (q - (e.mark + 1)).val

theorem Engine.choose_of_names {e : Engine} {k : JobKind} {p : ParcelNo} (h : e.names k p) : e.choose = some (k, p) := by
  have none {kind : JobKind} (free : ∀ q, (e.jobs q).has kind = false) : e.lowestWaiting kind = none :=
    List.find?_eq_none.mpr fun q _ => by simp [free q]
  unfold Engine.choose
  rcases h with ⟨rfl, here, below⟩ | ⟨rfl, noClose, here, below⟩ | ⟨rfl, others, here, first⟩
  · rw [show e.lowestWaiting .close = some p from find_lowest here below]
  · rw [none (kind := .close) noClose, show e.lowestWaiting .openJob = some p from find_lowest here below]
  · rw [none (kind := .close) fun q => (others q).1, none (kind := .openJob) fun q => (others q).2,
      find_roundRobin here first]
    rfl

/-! ### The copy (R51, R52, R59, R103) -/

theorem attInForce_nil (now t : Instant) : attInForce [] now t = none := rfl

theorem attInForce_one (a : AttReading) (now t : Instant) : attInForce [a] now t = some a := by
  unfold attInForce
  by_cases early : age now t ≤ age now a.arrival <;> simp [early]

theorem attInForce_two (a b : AttReading) (now t : Instant) :
    attInForce [a, b] now t = some (if (now - t).toNat ≤ (now - b.arrival).toNat then b else a) := by
  change _ = some (if age now t ≤ age now b.arrival then b else a)
  unfold attInForce
  by_cases second : age now t ≤ age now b.arrival
  · by_cases first : age now t ≤ age now a.arrival <;> simp [first, second]
  · by_cases first : age now t ≤ age now a.arrival <;> simp [first, second]

theorem Parcel.runFor_first {r : Parcel} {before after : List MeterRun} {m : MeterRun} {n : Nat}
    (run : r.run = before ++ m :: after) (is : m.meter = n) (first : ∀ x ∈ before, x.meter ≠ n) : r.runFor n = some m :=
  FirstNumbered.find (number := MeterRun.meter) ⟨before, after, run, is, first⟩

theorem State.copyTank_att (s : State) (staleness n : Nat) :
    (s.copyTank staleness n).att
      = (s.copyTank staleness n).latest.bind (fun r => attInForce s.att.ring s.clock r.arrival) := rfl

section
variable (s : State) (k : JobKind) (p : ParcelNo)

/-- The copy of the expansion table of a TAB basis (R103). -/
theorem State.jobCopy_expansion {b : Basis} {id : Nat} (basis : (s.parcel p).basis = some b) (tab : b.method = .tab)
    (table : b.tableId = some id) :
    (s.jobCopy k p).expansionValid = s.store.isValid (24 + id)
      ∧ (s.store.isValid (24 + id) = true → (s.jobCopy k p).expansion = expansionOf (s.store.item (24 + id)).image) := by
  have item : (s.parcel p).basis.bind (·.expansionItem) = some (24 + id) := by
    simp [basis, Basis.expansionItem, tab, table]
  simp only [State.jobCopy, item, Option.map_some, Option.getD_some, true_and]
  exact fun valid => if_pos valid

/-- Without a TAB basis that names a table, the copy holds none (R103). -/
theorem State.jobCopy_noExpansion (none : ∀ b, (s.parcel p).basis = some b → b.method ≠ .tab ∨ b.tableId = none) :
    (s.jobCopy k p).expansionValid = false ∧ (s.jobCopy k p).expansion = [] := by
  have item : (s.parcel p).basis.bind (·.expansionItem) = Option.none := by
    cases basis : (s.parcel p).basis with
    | none => rfl
    | some b =>
      rcases none b basis with other | absent
      · cases method : b.method <;> simp_all [Basis.expansionItem]
      · cases method : b.method <;> simp [Basis.expansionItem, method, absent]
  simp only [State.jobCopy, item]
  simp

theorem State.startJob_of (idle : s.engine.running = none) (named : s.engine.names k p) :
    s.startJob = s.setEngine { s.engine.setJobs p ((s.engine.jobs p).put k false) with
      running := some ⟨k, p, s.clock, s.msec, false, s.jobCopy k p⟩
      mark := if k = .cycle then p else s.engine.mark } := by
  simp only [State.startJob, idle, Engine.choose_of_names named]
  rfl

end

/-- Settles O17: the arbiter's order, then the copy source by source. -/
theorem jobStartFollowsTheArbiter : Obligations.JobStartFollowsTheArbiter := by
  unfold Obligations.JobStartFollowsTheArbiter
  intro s k p idle named
  refine ⟨_, rfl, ?_⟩
  rw [s.startJob_of k p idle named]
  refine ⟨rfl, s.engine.jobs_setJobs_same p _, fun q ne => s.engine.jobs_setJobs_ne ne _, rfl, _, rfl, rfl, rfl, rfl, rfl, rfl, ?_⟩
  intro r fresh
  have freshEq (arrival : Option Instant) : fresh arrival = freshness arrival s.clock r.params.staleness := by
    cases arrival <;> rfl
  refine ⟨rfl, fun c mem => ?tank, rfl, fun c mem => ?meter, rfl, rfl, ?att, fun b id basis tab table =>
    s.jobCopy_expansion k p basis tab table, s.jobCopy_noExpansion k p, rfl, rfl, rfl, rfl, rfl, rfl⟩
  case tank =>
    obtain ⟨n, owned, rfl⟩ := List.mem_map.mp mem
    refine ⟨n, owned, ?_, fun latest => ?_, fun empty => ?_, fun x latest => ⟨fun a one => ?_, fun a b two => ?_⟩⟩
    · rw [freshEq]
      by_cases valid : s.store.isValid n = true <;> simp [State.copyTank, valid, r]
    · rw [State.copyTank_att, latest]
      rfl
    · rw [State.copyTank_att, empty]
      cases (s.copyTank (s.parcel p).params.staleness n).latest <;> rfl
    · rw [State.copyTank_att, latest, one]
      exact attInForce_one a s.clock x.arrival
    · rw [State.copyTank_att, latest, two]
      exact attInForce_two a b s.clock x.arrival
  case meter =>
    obtain ⟨n, owned, rfl⟩ := List.mem_map.mp mem
    refine ⟨n, owned, ?_, fun openJob valid => ?_, fun before m after run is first => ?_⟩
    · rw [freshEq]
      rfl
    · subst openJob
      exact if_pos valid
    · have found := Parcel.runFor_first run is first
      simp only [State.copyMeter, show (s.parcel p).runFor n = some m from found]
      refine ⟨rfl, rfl, fun other => ?_⟩
      cases k
      · exact absurd rfl other
      · rfl
      · rfl
  case att => exact (freshEq _).symm

end Sys2Proof.Machine
end

section
/-!
PROOFS. The completions of OPEN, CYCLE and CLOSE jobs (R10, R15, R40 to R42, R106, R113 to R118, R128 to R132, R136 to R143).
-/

namespace Sys2Proof.Machine

/-! ### What every completion does -/

theorem Aside.refl (s : State) : Aside s s := rfl

theorem State.engineIdle_idle (s : State) : EngineIdle s.engine s.engineIdle.engine := rfl

/-- The engine goes IDLE, a record changes, then at most the store and the links. -/
theorem State.completion_changed {s v t : State} {p : ParcelNo} {x : Parcel} {c : Cause}
    (aside : Aside (s.engineIdle.changeParcel p x c) v) (only : OnlyLinks v t) : RecordChangedAside p x s t :=
  (((s.engineIdle.changeParcel_recordChanged p x c).aside aside).of_onlyLinks (.refl _) only).from_aside s.engineIdle_aside

/-- The notices of a completion's record change. -/
theorem State.link_completion {s v : State} {p : ParcelNo} {x : Parcel} {c : Cause}
    (aside : Aside (s.engineIdle.changeParcel p x c) v) (m : Link) :
    v.link m = (s.link m).placeAll s.clock (stateNotices p (s.parcel p) x c) := by
  rw [aside.link, State.link_changeParcel, State.link_engineIdle, State.engineIdle_clock, State.parcel_engineIdle]

theorem State.link_completion_posted {s v : State} {p : ParcelNo} {x : Parcel} {c : Cause}
    (aside : Aside (s.engineIdle.changeParcel p x c) v) (b : NoticeBody) (m : Link) :
    (v.postAll b).link m = (s.link m).placeAll s.clock (stateNotices p (s.parcel p) x c ++ [b]) := by
  have clock : v.clock = s.clock := by
    rw [aside, State.changeParcel_clock, State.engineIdle_clock]
  rw [State.link_postAll, State.link_completion aside, clock, LinkState.placeAll_append, LinkState.placeAll_cons,
    LinkState.placeAll_nil]

theorem sumInt_eq (xs : List Int) : sumInt xs = xs.sum := rfl

theorem tankTotals_eq (fs : List TankFigure) :
    tankTotals fs = ⟨(fs.map (·.tov)).sum, (fs.map (·.fwv)).sum, (fs.map (·.gov)).sum, (fs.map (·.gsv)).sum⟩ := rfl

/-! ### OPEN_DONE (R10, R41, R95) -/

/-- The figures of an opening alignment: no increment, nothing counted (R95). -/
theorem meterFigure_opening (b : Basis) (expansionValid noShip : Bool) (expansion : List (Int × Int)) (start at_ : Instant)
    (m : MeterCopy) :
    let f := meterFigure .openJob b expansionValid expansion noShip start at_ m
    f.iv = 0 ∧ f.gv = 0 ∧ f.dmL = 0 ∧ f.accAfter = 0 := by
  have gv : factoredIncrement 0 m.d = 0 := by simp [factoredIncrement, roundDiv]
  have dmL (vcf pcf : Int) : standardIncrement 0 vcf pcf = 0 := by simp [standardIncrement, roundDiv]
  simp [meterFigure, gv, dmL]

theorem Parcel.opened_eq (r : Parcel) (o : OpeningFigures) (esd : Bool) (now : Instant) : r.opened o esd now = { r with
    state := if esd then .suspended else .transferring
    opening := some o
    run := o.meters.map (fun f => ⟨f.meter, f.d, f.lastAfter, f.accAfter⟩)
    cycle := 0
    flowRef := some now
    lastFlow := none
    settleArmed := true
    restoreArmed := true
    openSet := ⟨false, false⟩
    suspendSet := ⟨false, false, esd, false⟩
    cycleTimer := if esd then none else some (now + tenths r.params.cyclePeriod) } := by
  cases esd <;> rfl

theorem State.completeOpen_of {s : State} {j : RunningJob} (running : s.engine.running = some j) (kind : j.kind = .openJob)
    (sound : j.copy.openCauses = []) (opening : (s.parcel j.parcel).state = .opening) :
    s.completeOpen = ((s.engineIdle.changeParcel j.parcel
      ((s.parcel j.parcel).opened (s.openingOf j.copy (j.copy.basis.getD default) j.start) s.lines.esd.level s.clock)
      .openDone).requestCheckpoint j.parcel).transmitAll := by
  simp only [State.completeOpen, running, kind, sound, opening, and_self, if_true]
  rfl

/-- Settles O18: the record of an opened parcel, with its opening figures. -/
theorem openDoneEntersTransfer : Obligations.OpenDoneEntersTransfer := by
  unfold Obligations.OpenDoneEntersTransfer
  intro s j running kind sound opening
  refine ⟨_, rfl, ?_⟩
  rw [s.completeOpen_of running kind sound opening]
  have clockTime : (s.openingOf j.copy (j.copy.basis.getD default) j.start).calendar
      = s.calendar.map (fun k => k.timeOf (s.openingOf j.copy (j.copy.basis.getD default) j.start).s0) := rfl
  have meters (f) (mem : f ∈ (s.openingOf j.copy (j.copy.basis.getD default) j.start).meters) :
      f.iv = 0 ∧ f.gv = 0 ∧ f.dmL = 0 ∧ f.accAfter = 0 := by
    obtain ⟨m, _, rfl⟩ := List.mem_map.mp mem
    exact meterFigure_opening ..
  have figures : ∃ o, o = s.openingOf j.copy (j.copy.basis.getD default) j.start := ⟨_, rfl⟩
  obtain ⟨o, is⟩ := figures
  rw [← is] at clockTime meters ⊢
  have aside := State.requestCheckpoint_aside (s.engineIdle.changeParcel j.parcel
    ((s.parcel j.parcel).opened o s.lines.esd.level s.clock) .openDone) j.parcel
  have only := State.transmitAll_onlyLinks ((s.engineIdle.changeParcel j.parcel
    ((s.parcel j.parcel).opened o s.lines.esd.level s.clock) .openDone).requestCheckpoint j.parcel)
  have changed := State.completion_changed aside only
  refine ⟨?_, ?_, changed.lamp, changed.within, changed.alarm, ?_, o, ?_, ?_, ?_, ?_, ?_, ?_, meters, fun none => ?_,
    fun c set => ?_, ?_⟩
  · rw [only.engine, State.requestCheckpoint_engine, State.changeParcel_engine]
    exact s.engineIdle_idle
  · exact ((State.requestCheckpoint_requested _ _).of_store (by simp)).of_onlyLinks (.refl s) only
  · rw [changed.record]
    exact posted_transmitAll (State.link_completion aside)
  · rw [is]; rfl
  · rw [is]; rfl
  · rw [is]; rfl
  · rw [is]; rfl
  · rw [is]; rfl
  · rw [is]; rfl
  · rw [clockTime, none]; rfl
  · rw [clockTime, set]; rfl
  · rw [changed.record, Parcel.opened_eq]

/-! ### OPEN_FAILED (R10, R40, R42) -/

/-- The expansion table a basis uses is the one a TAB basis names (R33, R103). -/
theorem expansionItem_eq_some {basis : Option Basis} {id : Nat} : basis.bind (·.expansionItem) = some id ↔
    ∃ b k, basis = some b ∧ b.method = .tab ∧ b.tableId = some k ∧ id = 24 + k := by
  cases basis with
  | none => simp
  | some b =>
    cases method : b.method <;> simp [Basis.expansionItem, method, eq_comm]

section
variable (c : JobCopy)

theorem JobCopy.tank_mem_openCauses (n : Nat) :
    OpenCause.noReading (.tank n) ∈ c.openCauses ↔ ∃ t ∈ c.tanks, t.number = n ∧ t.latest = none := by
  simp only [JobCopy.openCauses, List.mem_append, mem_map_filter_iff]
  cases c.basis.bind (·.expansionItem) <;> cases c.att.isNone <;> cases c.expansionValid <;> simp

theorem JobCopy.meter_mem_openCauses (n : Nat) :
    OpenCause.noReading (.meter n) ∈ c.openCauses ↔ ∃ m ∈ c.meters, m.number = n ∧ m.latest = none := by
  simp only [JobCopy.openCauses, List.mem_append, mem_map_filter_iff]
  cases c.basis.bind (·.expansionItem) <;> cases c.att.isNone <;> cases c.expansionValid <;> simp

theorem JobCopy.att_mem_openCauses : OpenCause.noReading .att ∈ c.openCauses ↔ c.att = none := by
  simp only [JobCopy.openCauses, List.mem_append, mem_map_filter_iff]
  cases c.basis.bind (·.expansionItem) <;> cases c.att <;> cases c.expansionValid <;> simp

theorem JobCopy.table_mem_openCauses (id : Nat) : OpenCause.tableInvalid id ∈ c.openCauses ↔
    (∃ t ∈ c.tanks, t.number = id ∧ t.tableValid = false) ∨ (∃ m ∈ c.meters, 16 + m.number = id ∧ m.defValid = false)
      ∨ (c.basis.bind (·.expansionItem) = some id ∧ c.expansionValid = false) := by
  simp only [JobCopy.openCauses, List.mem_append, mem_map_filter_iff]
  cases c.basis.bind (·.expansionItem) <;> cases c.att <;> cases c.expansionValid <;> simp [or_assoc, eq_comm (a := id)]

theorem JobCopy.mem_closeFaults (id : Nat) : id ∈ c.closeFaults ↔
    (∃ t ∈ c.tanks, t.number = id ∧ t.tableValid = false)
      ∨ (c.basis.bind (·.expansionItem) = some id ∧ c.expansionValid = false) := by
  simp only [JobCopy.closeFaults, List.mem_append, mem_map_filter_iff]
  cases c.basis.bind (·.expansionItem) <;> cases c.expansionValid <;> simp [eq_comm (a := id)]

/-- The expansion table that is not VALID, as the statements name it. -/
theorem JobCopy.expansion_fault_iff (id : Nat) :
    (c.basis.bind (·.expansionItem) = some id ∧ c.expansionValid = false) ↔
      ∃ b k, c.basis = some b ∧ b.method = .tab ∧ b.tableId = some k ∧ id = 24 + k ∧ c.expansionValid = false := by
  rw [expansionItem_eq_some]
  constructor
  · rintro ⟨⟨b, k, basis, tab, table, is⟩, invalid⟩
    exact ⟨b, k, basis, tab, table, is, invalid⟩
  · rintro ⟨b, k, basis, tab, table, is, invalid⟩
    exact ⟨⟨b, k, basis, tab, table, is⟩, invalid⟩

end

/-- Settles O19: the parcel back in BASIS_AGREED, and the causes it is told. -/
theorem openFailedReturnsToBasisAgreed : Obligations.OpenFailedReturnsToBasisAgreed := by
  unfold Obligations.OpenFailedReturnsToBasisAgreed
  intro s j running kind causes opening
  refine ⟨_, rfl, ?_⟩
  have completes : s.completeOpenFailed = ((s.engineIdle.changeParcel j.parcel { s.parcel j.parcel with
      state := .basisAgreed, openSet := ⟨false, false⟩ } .openFailed).postAll
      (.openFailed j.parcel j.copy.openCauses)).transmitAll := by
    simp only [State.completeOpenFailed, running, kind, opening, causes, ne_eq, not_false_eq_true, and_self, if_true]
    rfl
  rw [completes]
  have aside := Aside.refl (s.engineIdle.changeParcel j.parcel { s.parcel j.parcel with
      state := .basisAgreed, openSet := ⟨false, false⟩ } .openFailed)
  have only := (State.postAll_onlyLinks (s.engineIdle.changeParcel j.parcel { s.parcel j.parcel with
      state := .basisAgreed, openSet := ⟨false, false⟩ } .openFailed)
      (.openFailed j.parcel j.copy.openCauses)).trans (State.transmitAll_onlyLinks _)
  have changed := State.completion_changed aside only
  refine ⟨?_, ?_, changed.lamp, changed.within, changed.alarm, changed.record, ?_, j.copy.tank_mem_openCauses,
    j.copy.meter_mem_openCauses, j.copy.att_mem_openCauses, fun id => ?_⟩
  · rw [only.engine, State.changeParcel_engine]
    exact s.engineIdle_idle
  · rw [only.store, State.changeParcel_store, State.engineIdle_store]
  · rw [changed.record]
    exact posted_transmitAll (State.link_completion_posted aside _)
  · rw [JobCopy.table_mem_openCauses, JobCopy.expansion_fault_iff]

/-! ### CYCLE_COMPLETE discarded (R96, R106) -/

/-- Settles O21: a VOID or late cycle leaves only the engine IDLE. -/
theorem discardedCycleChangesNothing : Obligations.DiscardedCycleChangesNothing := by
  unfold Obligations.DiscardedCycleChangesNothing
  intro s j running kind discarded
  have not : ¬(j.voided = false ∧ (s.parcel j.parcel).state = .transferring) := by
    rcases discarded with void | late
    · simp [void]
    · simp [late]
  change Host.Outcome.next s.completeCycle = _
  simp only [State.completeCycle, running, kind, not, if_true, if_false]
  rfl

/-! ### CLOSE_DONE (R107, R138 to R142) -/

/-- The figures of a CLOSE job, one by one (R137 to R140). -/
theorem closingOf_spec (c : JobCopy) (b : Basis) (start : Instant) (x : Params) (revision : Nat) :
    let f := closingOf c b start x revision
    f.revision = revision ∧ f.snapshot = c.snapshot start ∧ f.tanks = c.tankFigures b
    ∧ f.meters = c.meterFigures .close b start
    ∧ f.ship = shipFigure c.direction ((c.opening.map (·.totals.gsv)).getD 0) (sumInt (f.tanks.map (·.gsv)))
    ∧ f.lineAdjust = c.lineAdjust ∧ f.shore = roundDiv (sumInt (f.meters.map (·.accAfter))) 1000 + c.lineAdjust
    ∧ f.delta = f.ship - f.shore ∧ f.vef = c.vef
    ∧ (∀ v, c.vef = .available v →
      f.adjShip = some (roundDiv (f.ship * 100000) v) ∧ f.adjDelta = some (roundDiv (f.ship * 100000) v - f.shore))
    ∧ (∀ why, c.vef = .unavailable why → f.adjShip = none ∧ f.adjDelta = none)
    ∧ f.massShip = mass b f.ship ∧ f.massShore = mass b f.shore ∧ f.massDelta = mass b f.delta
    ∧ f.massAdj = f.adjShip.map (mass b) ∧ f.massAdjDelta = f.adjDelta.map (mass b)
    ∧ f.totals = ⟨(f.tanks.map (·.tov)).sum, (f.tanks.map (·.fwv)).sum, (f.tanks.map (·.gov)).sum,
      (f.tanks.map (·.gsv)).sum⟩
    ∧ f.meterVolumes = f.meters.map (fun m => roundDiv m.accAfter 1000)
    ∧ f.tankMasses = f.tanks.map (fun x => mass b x.gsv) ∧ f.massGsv = mass b (f.tanks.map (·.gsv)).sum
    ∧ f.band = max (x.floor : Int)
      (roundDiv (max ((f.adjShip.getD f.ship).natAbs : Int) (f.shore.natAbs : Int) * x.tolerance) 1000000)
    ∧ (f.within = true ↔ ((f.adjDelta.getD f.delta).natAbs : Int) ≤ f.band)
    ∧ f.conditions = c.causes b f.tanks f.meters := by
  refine ⟨rfl, rfl, rfl, rfl, rfl, rfl, rfl, rfl, rfl, fun v available => ?_, fun why unavailable => ?_, rfl, rfl, rfl, rfl, rfl,
    rfl, rfl, rfl, rfl, rfl, decide_eq_true_iff, rfl⟩
  · simp only [closingOf, available, adjustedShip, Option.map_some, and_self]
  · simp only [closingOf, unavailable, adjustedShip, Option.map_none, and_self]

/-- Settles O22: the published revision figure by figure. -/
theorem closeDonePublishesARevision : Obligations.CloseDonePublishesARevision := by
  unfold Obligations.CloseDonePublishesARevision
  intro s j running kind sound closing
  refine ⟨_, rfl, ?_⟩
  intro p r basis expiry
  have completes : s.completeClose = (s.engineIdle.publish j).transmitAll := by
    simp only [State.completeClose, running, kind, sound, closing, and_self, if_true]
  rw [completes, State.publish_eq]
  simp only [State.parcel_engineIdle, State.engineIdle_clock]
  have figures := closingOf_spec j.copy basis j.start r.params r.nextRevision
  generalize closingOf j.copy basis j.start r.params r.nextRevision = f at figures ⊢
  obtain ⟨revision, snapshot, tanks, meters, ship, adjust, shore, delta, vef, available, unavailable, figures⟩ := figures
  have aside := Aside.refl (s.engineIdle.changeParcel p (r.published f expiry) .closeDone)
  have only := (State.postAll_onlyLinks (s.engineIdle.changeParcel p (r.published f expiry) .closeDone)
    (.figures p f r.required expiry)).trans (State.transmitAll_onlyLinks _)
  have changed := State.completion_changed aside only
  obtain ⟨massShip, massShore, massDelta, massAdj, massAdjDelta, totals, volumes, tankMasses, massGsv, band, within, conditions⟩ :=
    figures
  refine ⟨f, revision, snapshot, tanks, meters, ship, adjust, shore, delta, vef, available, unavailable, massShip, massShore,
    massDelta, massAdj, massAdjDelta, totals, volumes, tankMasses, massGsv, band, within, conditions, ?_, ?_, ?_, ?_,
    changed.lamp, changed.within, changed.alarm⟩
  · rw [revision]
    exact changed.record
  · rw [changed.record]
    exact posted_transmitAll (State.link_completion_posted aside _)
  · rw [only.engine, State.changeParcel_engine]
    exact s.engineIdle_idle
  · rw [only.store, State.changeParcel_store, State.engineIdle_store]

/-! ### CLOSE_FAILED (R15, R136, R143) -/

/-- The record of a parcel whose CLOSE failed (R15). -/
theorem Parcel.afterCloseFailure_eq (r : Parcel) (esd : Bool) (now : Instant) :
    let held := esd || (decide (r.closedFrom ≠ some .transferring) && !decide (r.suspendSet = ⟨false, false, false, false⟩))
    r.afterCloseFailure esd now = { r with
      state := if held then .suspended else .transferring
      suspendSet := { r.suspendSet with esd := r.suspendSet.esd || esd }
      closedFrom := none
      settleArmed := true
      restoreArmed := true
      cycleTimer := if held then none else some (now + tenths r.params.cyclePeriod) } := by
  intro held
  cases esd with
  | true =>
    have held : held = true := rfl
    simp only [held, Bool.or_true, if_true]
    rfl
  | false =>
    simp only [held, Bool.false_or, Bool.or_false, ← SuspendSet.isEmpty_eq]
    unfold Parcel.afterCloseFailure
    rw [if_neg (by simp)]
    split
    next from_ => simp [from_, Parcel.toTransferring, Parcel.rearm]
    next other =>
      have other : r.closedFrom ≠ some .transferring := other
      cases empty : r.suspendSet.isEmpty <;> simp [other, Parcel.toTransferring, Parcel.toSuspended, Parcel.rearm]

/-- Settles O23: the record back in transfer, the checkpoint where it is held, the items named. -/
theorem closeFailedReturnsTheParcel : Obligations.CloseFailedReturnsTheParcel := by
  unfold Obligations.CloseFailedReturnsTheParcel
  intro s j running kind faults closing
  refine ⟨_, rfl, ?_⟩
  intro p r esd held
  have completes : s.completeCloseFailed = (s.engineIdle.failClose j).transmitAll := by
    simp only [State.completeCloseFailed, running, kind, faults, closing, ne_eq, not_false_eq_true, and_self, if_true]
  have record := r.afterCloseFailure_eq esd s.clock
  have state : (r.afterCloseFailure esd s.clock).state = if held then .suspended else .transferring := by rw [record]
  rw [completes]
  simp only [State.failClose, State.parcel_engineIdle, State.engineIdle_clock, State.engineIdle_lines]
  have suspends : ((s.parcel j.parcel).afterCloseFailure s.lines.esd.level s.clock).state = .suspended ↔ held = true := by
    rw [state]
    cases held <;> simp
  simp only [suspends]
  set x := (s.parcel j.parcel).afterCloseFailure s.lines.esd.level s.clock
  set u := s.engineIdle.changeParcel j.parcel x .closeFailed with hu
  have aside : Aside u (if held = true then u.requestCheckpoint p else u) := by
    split
    · exact u.requestCheckpoint_aside p
    · exact .refl u
  set v := if held = true then u.requestCheckpoint p else u with hv
  have only := (State.postAll_onlyLinks v (.closeFailed p x.state j.copy.closeFaults)).trans (State.transmitAll_onlyLinks _)
  have changed := State.completion_changed (hu ▸ aside) only
  have store : u.store = s.store := by rw [hu, State.changeParcel_store, State.engineIdle_store]
  refine ⟨changed.record.trans record, ?_, ?_, fun id => ?_, ?_, changed.lamp, changed.within, changed.alarm⟩
  · rw [changed.record, ← state]
    exact posted_transmitAll (State.link_completion_posted (hu ▸ aside) _)
  · split
    next waits =>
      rw [show v = u.requestCheckpoint p from if_pos waits] at only ⊢
      exact ((u.requestCheckpoint_requested p).of_store store).of_onlyLinks (.refl s) only
    next moves =>
      rw [only.store, show v = u from if_neg moves, store]
  · rw [JobCopy.mem_closeFaults, JobCopy.expansion_fault_iff]
  · have engine : v.engine = u.engine := by
      rw [hv]
      split
      · rw [State.requestCheckpoint_engine]
      · rfl
    rw [only.engine, engine, hu, State.changeParcel_engine]
    exact s.engineIdle_idle

end Sys2Proof.Machine
end

section
/-!
PROOFS. CYCLE_COMPLETE of an applied cycle (R106, R113 to R118, R128, R130 to R132, R209, R212).
-/

namespace Sys2Proof.Machine

theorem AlarmEnded.of_kept {was : Bool} {s t u : State} (g : AlarmEnded was s t) (kept : AlarmKept t u)
    (parcels : u.parcels = t.parcels) : AlarmEnded was s u := by
  obtain ⟨silence, output⟩ := kept
  have any : u.anyAlarm = t.anyAlarm := State.anyAlarm_congr fun p => by rw [State.parcel_congr parcels]
  unfold AlarmEnded AlarmKept at *
  rwa [any, silence, output]

/-! ### The record, the alarm output and the lamp (R128, R209, R211) -/

/-- The alarm output once a parcel's alarm state moved: raised, or as after a parcel left ALARM. -/
theorem State.alarmMoved_eq (s : State) (before after : Bool) :
    s.alarmMoved before after = if after = true ∧ before = false then s.alarmRaised else s.afterAlarm (before && !after) := by
  cases before <;> cases after <;> rfl

theorem State.alarmMoved_within (s : State) (before after : Bool) (p : ParcelNo) : Within p s (s.alarmMoved before after) := by
  rw [State.alarmMoved_eq]
  split
  · exact ⟨rfl, fun _ _ => rfl, rfl, fun _ _ => rfl⟩
  · exact s.afterAlarm_within _ p

theorem State.alarmMoved_alarm (s : State) (before after : Bool) : let t := s.alarmMoved before after
    if after = true ∧ before = false then t.lines.silence = false ∧ t.lines.alarmOut = true
    else AlarmEnded (before && !after) s t := by
  rw [State.alarmMoved_eq]
  split
  · exact ⟨rfl, rfl⟩
  · exact s.afterAlarm_ended _

theorem State.relamp_within (s : State) (p : ParcelNo) : Within p s (s.relamp p) := by
  refine ⟨?_, fun q _ => s.parcel_relamp p q, ?_, fun q ne => s.relamp_lamp_ne ne⟩ <;>
    simp only [State.relamp] <;> split <;> rfl

theorem State.relamp_follows (s : State) (p : ParcelNo) : LampFollows p s (s.relamp p) := by
  unfold LampFollows
  rw [State.parcel_relamp]
  simp only [State.relamp]
  by_cases same : (s.parcel p).pattern = (s.lines.lamp p).pattern
  · rw [if_pos same, if_pos same.symm]
  · rw [if_neg same, if_neg (Ne.symm same)]
    exact Lines.lamp_setLamp_same _ p _

theorem State.pulse_within (s : State) (p : ParcelNo) : Within p s (s.pulse p) :=
  ⟨rfl, fun _ _ => rfl, rfl, fun _ ne => Lines.lamp_setLamp_ne _ ne _⟩

theorem State.pulse_lamp (s : State) (p : ParcelNo) :
    (s.pulse p).lines.lamp p = { s.lines.lamp p with pulseUntil := some (s.msec + 100) } :=
  Lines.lamp_setLamp_same _ p _

/-- What the application of a cycle does to the record, the alarm output and the lamp of its parcel. -/
structure Judged (p : ParcelNo) (r : Parcel) (s t : State) : Prop where
  record : t.parcel p = r
  within : Within p s t
  lamp : LampFollows p s t
  alarm : if r.recon.alarm = true ∧ (s.parcel p).recon.alarm = false then t.lines.silence = false ∧ t.lines.alarmOut = true
    else AlarmEnded ((s.parcel p).recon.alarm && !r.recon.alarm) s t

theorem State.judged_judged (s : State) (p : ParcelNo) (r : Parcel) : Judged p r s (s.judged p r) := by
  have moved := (s.setParcel p r).alarmMoved_alarm (s.parcel p).recon.alarm r.recon.alarm
  have lamps := (s.setParcel p r).alarmMoved_lamp (s.parcel p).recon.alarm r.recon.alarm
  have within := (s.setParcel_within p r).trans ((s.setParcel p r).alarmMoved_within (s.parcel p).recon.alarm r.recon.alarm p)
  have msec := ((s.setParcel p r).alarmMoved_sameRest (s.parcel p).recon.alarm r.recon.alarm)
  refine ⟨by rw [State.parcel_judged, if_pos rfl], within.trans (State.relamp_within _ p), ?_, ?_⟩ <;> rw [State.judged]
  · set v := (s.setParcel p r).alarmMoved (s.parcel p).recon.alarm r.recon.alarm
    have follows := v.relamp_follows p
    unfold LampFollows at *
    rw [follows, lamps, show v.msec = s.msec by rw [within.1]]
    rfl
  · set v := (s.setParcel p r).alarmMoved (s.parcel p).recon.alarm r.recon.alarm
    obtain ⟨output, silence⟩ := v.relamp_alarmOut p
    split
    next raised =>
      rw [if_pos raised] at moved
      rw [output, silence]
      exact moved
    next other =>
      rw [if_neg other] at moved
      exact (moved.from_kept ⟨rfl, rfl⟩).of_kept ⟨silence, output⟩ (v.relamp_parcels p)

theorem State.link_judged (s : State) (p : ParcelNo) (r : Parcel) (m : Link) : (s.judged p r).link m = s.link m := by
  rw [State.judged, State.link_relamp]
  rcases (s.setParcel p r).alarmMoved_cases (s.parcel p).recon.alarm r.recon.alarm with e | e | e <;> simp [e]

theorem State.judged_engine (s : State) (p : ParcelNo) (r : Parcel) : (s.judged p r).engine = s.engine := by
  rw [State.judged, State.relamp_engine]
  rcases (s.setParcel p r).alarmMoved_cases (s.parcel p).recon.alarm r.recon.alarm with e | e | e <;> simp [e]

theorem State.judged_store (s : State) (p : ParcelNo) (r : Parcel) : (s.judged p r).store = s.store := by
  rw [State.judged, State.relamp_store]
  rcases (s.setParcel p r).alarmMoved_cases (s.parcel p).recon.alarm r.recon.alarm with e | e | e <;> simp [e]

/-! ### The checkpoint and the notices (R130 to R132) -/

theorem State.cycleCheckpoint_aside (s : State) (p : ParcelNo) : Aside s (s.cycleCheckpoint p) := by
  simp only [State.cycleCheckpoint]
  split
  · exact s.requestCheckpoint_aside p
  · exact .refl s

theorem State.cycleCheckpoint_engine (s : State) (p : ParcelNo) : (s.cycleCheckpoint p).engine = s.engine := by
  simp only [State.cycleCheckpoint]
  split
  · exact s.requestCheckpoint_engine p
  · rfl

/-- The notices of a judged cycle, in their order (R132). -/
def cycleNoticesOf (p : ParcelNo) (old new : Parcel) (lc : LatestCycle) : List NoticeBody :=
  [.cycleResult p lc new.recon.grade new.recon.indeterminate new.recon.downFrom1 new.recon.downFrom2 new.recon.alarm
    new.recon.divergent new.recon.clear old.overrun]
  ++ (if old.recon.grade = new.recon.grade then []
    else [.gradeChange p old.recon.grade new.recon.grade .downshift (some lc.cycle) new.recon.downFrom1 new.recon.downFrom2
      new.lowestGrade])
  ++ (if old.recon.alarm = new.recon.alarm then []
    else [.alarmChange p new.recon.alarm lc.cycle lc.delta (lc.band.getD 0) lc.grade new.alarmsRaised])

theorem State.cycleNotices_onlyLinks (s : State) (p : ParcelNo) (old new : Parcel) (lc : LatestCycle) :
    OnlyLinks s (s.cycleNotices p old new lc) := by
  have postedUnless (c : Prop) [Decidable c] (t : State) (b : NoticeBody) : OnlyLinks t (if c then t else t.postAll b) := by
    split
    · exact .refl t
    · exact t.postAll_onlyLinks b
  exact ((s.postAll_onlyLinks _).trans (postedUnless _ _ _)).trans (postedUnless _ _ _)

theorem State.link_cycleNotices (s : State) (p : ParcelNo) (old new : Parcel) (lc : LatestCycle) (m : Link) :
    (s.cycleNotices p old new lc).link m = (s.link m).placeAll s.clock (cycleNoticesOf p old new lc) := by
  simp only [State.cycleNotices, cycleNoticesOf, LinkState.placeAll_append, LinkState.placeAll_cons, LinkState.placeAll_nil]
  by_cases grade : old.recon.grade = new.recon.grade <;> by_cases alarm : old.recon.alarm = new.recon.alarm <;>
    simp only [grade, alarm, if_true, if_false, State.link_postAll, State.postAll_clock, LinkState.placeAll_cons,
      LinkState.placeAll_nil]

/-- An outcome that judges nothing leaves the alarm state (R128). -/
theorem alarmAfter_of_noBand {x : Params} {q delta : Int} {cause : Bool} {g : Recon} :
    (alarmAfter x (outcomeOf x none q delta cause) g).alarm = g.alarm := by
  change (alarmAfter x .notJudgedGrade3 g).alarm = g.alarm
  obtain ⟨grade, indeterminate, downFrom1, downFrom2, alarm, divergent, clear, latest⟩ := g
  cases alarm <;> rfl

/-- A cycle that moves the alarm state was judged on a band (R126, R127). -/
theorem band_of_alarm_moved {x : Params} {band : Option Int} {q delta : Int} {cause : Bool} {g : Recon}
    (moved : g.alarm ≠ (alarmAfter x (outcomeOf x band q delta cause) (gradeAfter x (outcomeOf x band q delta cause) g)).alarm) :
    band.isSome = true := by
  cases band with
  | some b => rfl
  | none => exact absurd (alarmAfter_of_noBand.trans (gradeAfter_alarm x _ g)).symm moved

/-! ### The figures (R114 to R118) -/

/-- The figures and judgement of an applied cycle, one by one (R114 to R118). -/
theorem latestCycleOf_spec (c : JobCopy) (b : Basis) (start : Instant) (x : Params) (grade : Nat) (cycle : BitVec 16) :
    let lc := latestCycleOf c b start x grade cycle
    lc.cycle = cycle ∧ lc.snapshot = c.snapshot start ∧ lc.grade = grade ∧ lc.tanks = c.tankFigures b
    ∧ lc.meters = c.meterFigures .cycle b start
    ∧ lc.ship = shipFigure c.direction ((c.opening.map (·.totals.gsv)).getD 0) (sumInt (lc.tanks.map (·.gsv)))
    ∧ lc.shore = roundDiv (sumInt (lc.meters.map (·.accAfter))) 1000
    ∧ lc.delta = lc.ship - lc.shore ∧ lc.q = max (lc.ship.natAbs : Int) (lc.shore.natAbs : Int)
    ∧ lc.band = cycleBand grade x lc.q ∧ lc.half = lc.band.map halfBand
    ∧ lc.causes = c.causes b lc.tanks lc.meters ∧ lc.outcome = outcomeOf x lc.band lc.q lc.delta lc.causes.any
    ∧ lc.totals = ⟨(lc.tanks.map (·.tov)).sum, (lc.tanks.map (·.fwv)).sum, (lc.tanks.map (·.gov)).sum,
      (lc.tanks.map (·.gsv)).sum⟩
    ∧ lc.meterVolumes = lc.meters.map (fun f => roundDiv f.accAfter 1000)
    ∧ lc.massShip = mass b lc.ship ∧ lc.massShore = mass b lc.shore
    ∧ lc.tankMasses = lc.tanks.map (fun f => mass b f.gsv) ∧ lc.massGsv = mass b (lc.tanks.map (·.gsv)).sum :=
  ⟨rfl, rfl, rfl, rfl, rfl, rfl, rfl, rfl, rfl, rfl, rfl, rfl, rfl, rfl, rfl, rfl, rfl, rfl, rfl⟩

/-- The record after an applied cycle. -/
theorem Parcel.afterCycle_eq (r : Parcel) (lc : LatestCycle) :
    let g := alarmAfter r.params lc.outcome (gradeAfter r.params lc.outcome r.recon)
    r.afterCycle lc = { r with
      cycle := lc.cycle
      run := lc.meters.map (fun f => ⟨f.meter, f.d, f.lastAfter, f.accAfter⟩)
      recon := { g with latest := some lc }
      alarmsRaised := if g.alarm = true ∧ r.recon.alarm = false then min 255 (r.alarmsRaised + 1) else r.alarmsRaised
      lowestGrade := max r.lowestGrade g.grade
      overrun := false } := by
  intro g
  simp only [Parcel.afterCycle, Bool.and_eq_true, Bool.not_eq_true']
  rfl

/-! ### CYCLE_COMPLETE -/

/-- What applying a cycle does to its parcel and the rest (R106, R113, R128 to R132). -/
theorem State.applyCycle_spec (s : State) (j : RunningJob) (lc : LatestCycle) (is : lc = s.judgement j) :
    let p := j.parcel
    let new := (s.parcel p).afterCycle lc
    let t := s.applyCycle j
    t.parcel p = new ∧ Within p s t ∧ t.engine = s.engine
      ∧ (∀ m, t.link m = (s.link m).placeAll s.clock (cycleNoticesOf p (s.parcel p) new lc))
      ∧ (if new.cycle.toNat % new.params.checkpointInterval = 0 then CheckpointRequested p s t else t.store = s.store)
      ∧ (if new.recon.alarm = true ∧ (s.parcel p).recon.alarm = false then t.lines.silence = false ∧ t.lines.alarmOut = true
        else AlarmEnded ((s.parcel p).recon.alarm && !new.recon.alarm) s t)
      ∧ (t.lines.lamp p).pattern = new.pattern ∧ (t.lines.lamp p).pulseUntil = some (s.msec + 100)
      ∧ (t.lines.lamp p).since = (if (s.lines.lamp p).pattern = new.pattern then (s.lines.lamp p).since else s.msec) := by
  intro p new
  rw [State.applyCycle_eq, ← is]
  have judged := s.judged_judged p new
  have links := s.link_judged p new
  have engine := s.judged_engine p new
  have store := s.judged_store p new
  set u := s.judged p new
  have aside := u.cycleCheckpoint_aside p
  have only := (u.cycleCheckpoint p).cycleNotices_onlyLinks p (s.parcel p) new lc
  have placed := (u.cycleCheckpoint p).link_cycleNotices p (s.parcel p) new lc
  set v := (u.cycleCheckpoint p).cycleNotices p (s.parcel p) new lc with hv
  have record : v.parcel p = new := (only.parcel p).trans ((aside.parcel p).trans judged.record)
  have lines : v.lines = u.lines := only.lines.trans aside.lines
  have parcels : v.parcels = u.parcels := by rw [only, aside]
  have within : Within p s v := (judged.within.trans (aside.within p)).of_onlyLinks (.refl s) only
  have lamp := judged.lamp
  unfold LampFollows at lamp
  rw [judged.record, ← lines] at lamp
  have clock : u.clock = s.clock := by rw [judged.within.1]
  have clock' : (u.cycleCheckpoint p).clock = u.clock := by rw [aside]
  have msec : v.msec = s.msec := by rw [within.1]
  intro t
  have shown : t.lines.lamp p = { v.lines.lamp p with pulseUntil := some (v.msec + 100) } := v.pulse_lamp p
  refine ⟨record, within.trans (v.pulse_within p), ?_, fun m => ?_, ?_, ?_, ?_, ?_, ?_⟩
  · change v.engine = s.engine
    rw [only.engine, State.cycleCheckpoint_engine, engine]
  · rw [State.link_pulse, placed, aside.link, links, clock', clock]
  · have due : (u.parcel p).cycle.toNat % (u.parcel p).params.checkpointInterval = new.cycle.toNat % new.params.checkpointInterval := by
      rw [judged.record]
    change if _ then CheckpointRequested p s v else v.store = s.store
    split
    next whole =>
      have requests : u.cycleCheckpoint p = u.requestCheckpoint p := if_pos (due.trans whole)
      rw [requests] at only
      exact ((u.requestCheckpoint_requested p).of_store store).of_onlyLinks (.refl s) only
    next between =>
      have keeps : u.cycleCheckpoint p = u := if_neg (due ▸ between)
      rw [only.store, keeps, store]
  · have alarm := judged.alarm
    change if _ then v.lines.silence = false ∧ v.lines.alarmOut = true else _
    split
    next raised =>
      rw [if_pos raised] at alarm
      rwa [lines]
    next other =>
      rw [if_neg other] at alarm
      exact AlarmEnded.of_kept (t := v) (alarm.of_lines lines parcels) ⟨rfl, rfl⟩ rfl
  · rw [shown, lamp]
    split
    next same => exact same
    · rfl
  · rw [shown, msec]
  · rw [shown, lamp]
    split <;> rfl

/-- Settles O20: the judgement figure by figure, and what its application leaves. -/
theorem appliedCycleIsJudged : Obligations.AppliedCycleIsJudged := by
  unfold Obligations.AppliedCycleIsJudged
  intro s j running kind valid transferring
  refine ⟨_, rfl, ?_⟩
  have completes : s.completeCycle = (s.engineIdle.applyCycle j).transmitAll := by
    simp only [State.completeCycle, running, kind, valid, transferring, and_self, if_true]
  rw [completes]
  intro p r basis
  have figures := latestCycleOf_spec j.copy basis j.start r.params r.recon.grade (r.cycle + 1)
  have is : latestCycleOf j.copy basis j.start r.params r.recon.grade (r.cycle + 1) = s.engineIdle.judgement j := by
    rw [State.judgement, State.parcel_engineIdle]
  generalize latestCycleOf j.copy basis j.start r.params r.recon.grade (r.cycle + 1) = lc at figures is
  obtain ⟨cycle, snapshot, grade, tanks, meters, ship, shore, delta, q, band, half, causes, outcome, figures⟩ := figures
  obtain ⟨totals, volumes, massShip, massShore, tankMasses, massGsv⟩ := figures
  obtain ⟨record, within, engine, links, checkpoint, alarm, pattern, pulse, since⟩ := s.engineIdle.applyCycle_spec j lc is
  have only := State.transmitAll_onlyLinks (s.engineIdle.applyCycle j)
  have became := r.afterCycle_eq lc
  set u := s.engineIdle.applyCycle j
  rw [State.parcel_engineIdle, became] at record links checkpoint alarm pattern since
  rw [cycle] at record checkpoint alarm pattern since
  simp only [cycleNoticesOf] at links
  dsimp only at checkpoint
  have record' := (only.parcel p).trans record
  have lines := only.lines
  refine ⟨lc, _, cycle, snapshot, grade, tanks, meters, ship, shore, delta, q, band, half, causes, outcome, totals, volumes, massShip,
    massShore, tankMasses, massGsv, rfl, record', ?notices, ?judged, ?checkpoint, ?alarm, ?pattern, ?pulse, ?since, ?engine, ?within⟩
  case notices => rw [record']; exact posted_transmitAll fun m => by rw [links, State.link_engineIdle, State.engineIdle_clock]
  case judged => intro moved; rw [outcome] at moved; exact band_of_alarm_moved moved
  case checkpoint =>
    rw [record']
    by_cases whole : (r.cycle + 1).toNat % r.params.checkpointInterval = 0
    · rw [if_pos whole] at checkpoint ⊢
      exact (CheckpointRequested.of_store s.engineIdle_store checkpoint).of_onlyLinks (.refl s) only
    · rw [if_neg whole] at checkpoint ⊢
      rw [only.store, checkpoint, State.engineIdle_store]
  case alarm =>
    rw [lines]
    split
    next raised => rw [if_pos raised] at alarm; exact alarm
    next other =>
      rw [if_neg other] at alarm
      exact (AlarmEnded.from_kept s.engineIdle_aside.alarm alarm).of_lines lines (by rw [only])
  case pattern => rw [record', lines]; exact pattern
  case pulse => rw [lines, pulse, State.engineIdle_msec]
  case since => rw [record', lines, since, State.engineIdle_lines, State.engineIdle_msec]
  case engine => rw [only.engine, engine]; exact s.engineIdle_idle
  case within => exact ((s.engineIdle_aside.within p).trans within).of_onlyLinks (.refl s) only

end Sys2Proof.Machine
end

section
/-!
PROOFS. Runs of cycles (R119, R120, R125 to R127): what a run of outcomes makes of a count.
-/

namespace Sys2Proof.Machine

/-- A run of outcomes of which one kind counts and every other leaves the record: below its limit the count is the number of
that kind. -/
theorem foldl_counts {step : CycleOutcome → Recon → Recon} {counted : CycleOutcome} {withCount : Nat → Recon} {limit : Nat}
    (counts : ∀ n, n + 1 < limit → step counted (withCount n) = withCount (n + 1)) (os : List CycleOutcome)
    (others : ∀ o ∈ os, o = counted ∨ ∀ n, step o (withCount n) = withCount n) (n : Nat)
    (below : n + os.count counted < limit) :
    os.foldl (fun acc o => step o acc) (withCount n) = withCount (n + os.count counted) := by
  induction os generalizing n with
  | nil => rfl
  | cons o os ih =>
    have others' : ∀ o ∈ os, o = counted ∨ ∀ n, step o (withCount n) = withCount n := fun o mem => others o (.tail _ mem)
    by_cases same : o = counted
    · rw [same, List.count_cons_self] at below
      rw [same, List.foldl_cons, List.count_cons_self, counts n (by omega), ih others' (n + 1) (by omega)]
      congr 1
      omega
    · rw [List.count_cons_of_ne same] at below
      have rests := (others o (.head _)).resolve_left same
      rw [List.foldl_cons, List.count_cons_of_ne same, rests n, ih others' n below]

/-- Below DOWNSHIFT_N an INDETERMINATE cycle counts (R119). -/
theorem gradeAfter_indeterminate_below {x : Params} {r : Recon} (below : r.indeterminate + 1 < x.downshiftN) :
    gradeAfter x .indeterminate r = { r with indeterminate := r.indeterminate + 1 } := if_pos below

/-- At DOWNSHIFT_N it shifts the grade down (R120). -/
theorem gradeAfter_indeterminate_full {x : Params} {r : Recon} (full : r.indeterminate + 1 = x.downshiftN) :
    gradeAfter x .indeterminate r = if r.grade = 1 then { r with indeterminate := 0, grade := 2, downFrom1 := true }
      else { r with indeterminate := 0, grade := 3, downFrom2 := true } := if_neg (by omega)

/-- A DIVERGENT cycle out of ALARM, below CONFIRM_COUNT and at it (R126). -/
theorem alarmAfter_divergent {x : Params} {r : Recon} (normal : r.alarm = false) :
    alarmAfter x .divergent r = if r.divergent + 1 < x.confirmCount then { r with divergent := r.divergent + 1 }
      else { r with alarm := true, divergent := 0, clear := 0 } := by
  simp only [alarmAfter, normal]

/-- A clean cycle in ALARM, below CLEAR_COUNT and at it (R127). -/
theorem alarmAfter_clean {x : Params} {r : Recon} (raised : r.alarm = true) :
    alarmAfter x (.within true) r = if r.clear + 1 < x.clearCount then { r with clear := r.clear + 1 }
      else { r with alarm := false, divergent := 0, clear := 0 } := by
  simp only [alarmAfter, raised]

/-- An outcome that is not judged on a band leaves the alarm and its counts (R125). -/
theorem alarmAfter_unjudged {x : Params} {o : CycleOutcome} (r : Recon)
    (unjudged : o = .indeterminate ∨ o = .notJudgedGrade3 ∨ o = .notJudgedBelowMinimum) : alarmAfter x o r = r := by
  obtain ⟨grade, indeterminate, downFrom1, downFrom2, alarm, divergent, clear, latest⟩ := r
  rcases unjudged with rfl | rfl | rfl <;> cases alarm <;> rfl

/-- Settles O59: each run by induction over its outcomes, ended by the cycle that meets the limit. -/
theorem runsOfCyclesMoveGradeAndAlarm : Obligations.RunsOfCyclesMoveGradeAndAlarm := by
  unfold Obligations.RunsOfCyclesMoveGradeAndAlarm
  intro x r os idle graded judged
  refine ⟨fun run => ?grade, fun _ => rfl, rfl, fun normal run => ?raise, fun normal clean => ?within, fun raised run => ?clear,
    fun raised => ⟨?unclean, ?divergent⟩⟩
  case grade =>
    have counted := foldl_counts (step := gradeAfter x) (withCount := fun n => { r with indeterminate := n })
      (fun n below => gradeAfter_indeterminate_below below) os
      (fun o mem => (run o mem).imp_right fun unjudged n => by rcases unjudged with rfl | rfl <;> rfl) r.indeterminate
    refine ⟨counted, fun full => ?_⟩
    rw [show graded = _ from counted (by omega)]
    exact gradeAfter_indeterminate_full full
  case raise =>
    have counted := foldl_counts (step := alarmAfter x) (withCount := fun n => { r with divergent := n })
      (fun n below => (alarmAfter_divergent (r := { r with divergent := n }) normal).trans (if_pos below)) os
      (fun o mem => (run o mem).imp_right fun unjudged n => alarmAfter_unjudged _ unjudged) r.divergent
    refine ⟨counted, fun full => ?_⟩
    rw [show judged = _ from counted (by omega)]
    exact (alarmAfter_divergent (r := { r with divergent := r.divergent + os.count .divergent }) normal).trans (if_neg full.not_lt)
  case within => simp only [alarmAfter, normal]
  case clear =>
    have counted := foldl_counts (step := alarmAfter x) (withCount := fun n => { r with clear := n })
      (fun n below => (alarmAfter_clean (r := { r with clear := n }) raised).trans (if_pos below)) os
      (fun o mem => (run o mem).imp_right fun unjudged n => alarmAfter_unjudged _ unjudged) r.clear
    refine ⟨counted, fun full => ?_⟩
    rw [show judged = _ from counted (by omega)]
    exact (alarmAfter_clean (r := { r with clear := r.clear + os.count (.within true) }) raised).trans (if_neg full.not_lt)
  case unclean => simp only [alarmAfter, raised]
  case divergent => simp only [alarmAfter, raised]

end Sys2Proof.Machine
end

section
/-!
PROOFS. The receive framer, the discards and the break (R193 to R195), and the bytes of a whole frame (R192).
-/

namespace Sys2Proof.Machine

theorem State.setLink_setLink (s : State) (l : Link) (k k' : LinkState) : (s.setLink l k).setLink l k' = s.setLink l k' := by
  cases l <;> rfl

theorem State.setLink_self (s : State) (l : Link) : s.setLink l (s.link l) = s := by
  cases l <;> rfl

theorem State.hunt_eq (s : State) (l : Link) : s.hunt l = s.setLink l { s.link l with framer := .hunting false } := rfl

/-! ### What a frame stands for (R195, R196) -/

theorem exec_command (r : Req) (l : Link) (tag : Byte) (pl : List Byte) (s : State) :
    exec (r.command l tag pl) s = .next (serve r r.body l tag pl s) := by
  cases r <;> rfl

theorem reqOf_code (r : Req) : reqOf (BitVec.ofNat 8 r.code) = some r := by
  cases r <;> rfl

theorem code_of_reqOf {kind : Byte} {r : Req} (named : reqOf kind = some r) : r.code = kind.toNat := by
  unfold reqOf at named
  split at named <;> cases named <;> exact Eq.symm ‹_›

theorem reqOf_eq_none {kind : Byte} (none : ∀ r : Req, r.code ≠ kind.toNat) : reqOf kind = .none :=
  Option.eq_none_iff_forall_ne_some.mpr fun r named => none r (code_of_reqOf named)

/-- The code of an UNKNOWN_REQUEST, where its KIND is no request code (R195). -/
theorem exec_unknownRequest {kind : Byte} (unknown : ∀ r : Req, r.code ≠ kind.toNat) (l : Link) (tag : Byte) (pl : List Byte)
    (s : State) : exec (.unknownRequest l kind tag pl) s = .next (s.takeFrame l tag fun x => refuse x .unknownRequest) := by
  change Host.Outcome.next (s.takeUnknown l kind tag pl) = _
  simp only [State.takeUnknown, reqOf_eq_none unknown]

/-! ### A frame taken, or not (R193) -/

theorem State.takeFrame_broken {s : State} {l : Link} (broken : (s.link l).condition = .broken) (tag : Byte)
    (answer : State → State × Reply) : s.takeFrame l tag answer = s := by
  simp only [State.takeFrame, broken]

theorem State.takeFrame_full {s : State} {l : Link} (normal : (s.link l).condition = .normal)
    (full : 8 ≤ (s.link l).responses.length) (tag : Byte) (answer : State → State × Reply) :
    s.takeFrame l tag answer = s.hunt l := by
  simp only [State.takeFrame, normal, full, if_true]

theorem State.takeFrame_taken {s : State} {l : Link} (takes : s.takes l) (tag : Byte) (answer : State → State × Reply) :
    s.takeFrame l tag answer = ((answer (s.hunt l)).1.respond l tag (answer (s.hunt l)).2).transmitAll := by
  obtain ⟨normal, room⟩ := takes
  simp only [State.takeFrame, normal, Nat.not_le.mpr room, if_false]

/-- The framer's own state does not matter to the frame it has completed. -/
theorem State.takeFrame_framer (s : State) (l : Link) (k : LinkState) (f : Framer) (tag : Byte)
    (answer : State → State × Reply) (normal : k.condition = .normal) :
    (s.setLink l { k with framer := f }).takeFrame l tag answer = (s.setLink l k).takeFrame l tag answer := by
  have hunts : (s.setLink l { k with framer := f }).hunt l = (s.setLink l k).hunt l := by
    simp only [State.hunt_eq, State.setLink_setLink, State.link_setLink_same]
  simp only [State.takeFrame, State.link_setLink_same, hunts]
  rw [normal]

/-! ### One byte (R193) -/

theorem State.takeByte_broken {s : State} {l : Link} (broken : (s.link l).condition = .broken) (b : Byte) :
    s.takeByte l b = s := by
  simp only [State.takeByte, broken]

/-- The framer a byte reaches: in HUNTING after a gap, else as it stood. -/
def State.framerAt (s : State) (l : Link) : Framer := if (s.link l).gap s.msec then .hunting false else (s.link l).framer

theorem State.framerAt_gap {s : State} {l : Link} (gap : (s.link l).framer ≠ .hunting false ∧ (s.link l).lastByte + 20 < s.msec) :
    s.framerAt l = .hunting false := if_pos ((LinkState.gap_iff _ _).mpr gap)

theorem State.framerAt_noGap {s : State} {l : Link}
    (noGap : ¬((s.link l).framer ≠ .hunting false ∧ (s.link l).lastByte + 20 < s.msec)) :
    s.framerAt l = (s.link l).framer := if_neg fun gap => noGap ((LinkState.gap_iff _ _).mp gap)

/-- A byte that completes no frame moves the framer alone. -/
theorem State.takeByte_moves {s : State} {l : Link} {b : Byte} {f : Framer} (normal : (s.link l).condition = .normal)
    (takes : (s.framerAt l).take b = (f, none)) :
    s.takeByte l b = s.setLink l { s.link l with framer := f, lastByte := s.msec } := by
  unfold State.framerAt at takes
  simp only [State.takeByte, normal, takes]

/-- The byte that completes a frame has it examined by its KIND (R195). -/
theorem State.takeByte_completes {s : State} {l : Link} {b : Byte} {f : Framer} {got : List Byte}
    (normal : (s.link l).condition = .normal) (takes : (s.framerAt l).take b = (f, some got)) :
    s.takeByte l b = (s.setLink l { s.link l with framer := f, lastByte := s.msec }).takeFrame l ((got[2]?).getD 0)
      (answerFrame ((got[1]?).getD 0) l ((got.drop 3).take (u8 got 0 - 2))) := by
  unfold State.framerAt at takes
  simp only [State.takeByte, normal, takes]

/-! ### What the framer makes of a byte (R193) -/

theorem Framer.take_hunting_start : (Framer.hunting true).take 0x3A = (.receiving [], none) := rfl

theorem Framer.take_hunting {saw : Bool} {b : Byte} (other : ¬(saw = true ∧ b = 0x3A)) :
    (Framer.hunting saw).take b = (.hunting (decide (b = 0xC5)), none) := by
  simp only [Framer.take, Bool.and_eq_true, decide_eq_true_eq, other, if_false]

section
variable {bytes : List Byte} {b : Byte}

theorem Framer.take_badLen (bad : ¬(2 ≤ u8 (bytes ++ [b]) 0 ∧ u8 (bytes ++ [b]) 0 ≤ 250)) :
    (Framer.receiving bytes).take b = (.hunting false, none) := if_pos (by omega)

variable (low : 2 ≤ u8 (bytes ++ [b]) 0) (high : u8 (bytes ++ [b]) 0 ≤ 250)
include low high

theorem Framer.take_more (more : (bytes ++ [b]).length < u8 (bytes ++ [b]) 0 + 3) :
    (Framer.receiving bytes).take b = (.receiving (bytes ++ [b]), none) :=
  (if_neg (by omega)).trans (if_pos more)

theorem Framer.take_badCrc (whole : ¬(bytes ++ [b]).length < u8 (bytes ++ [b]) 0 + 3)
    (bad : (crc ((bytes ++ [b]).take (u8 (bytes ++ [b]) 0 + 1))).toNat ≠ u16 (bytes ++ [b]) (u8 (bytes ++ [b]) 0 + 1)) :
    (Framer.receiving bytes).take b = (.hunting false, none) :=
  (if_neg (by omega)).trans ((if_neg whole).trans (if_neg bad))

theorem Framer.take_goodCrc (whole : ¬(bytes ++ [b]).length < u8 (bytes ++ [b]) 0 + 3)
    (good : (crc ((bytes ++ [b]).take (u8 (bytes ++ [b]) 0 + 1))).toNat = u16 (bytes ++ [b]) (u8 (bytes ++ [b]) 0 + 1)) :
    (Framer.receiving bytes).take b = (.hunting false, some (bytes ++ [b])) :=
  (if_neg (by omega)).trans ((if_neg whole).trans (if_pos good))

end

/-- Settles O49: the framer's next state, case by case of its state and the byte. -/
theorem framerFollowsTheBytes : Obligations.FramerFollowsTheBytes := by
  unfold Obligations.FramerFollowsTheBytes
  intro s l b k gap moves
  have moved {f : Framer} (normal : k.condition = .normal) (takes : (s.framerAt l).take b = (f, none)) : moves f :=
    congrArg Host.Outcome.next (State.takeByte_moves normal takes)
  refine ⟨fun broken => ?broken, fun normal after => ?gap, fun normal noGap saw hunting => ⟨fun start => ?start, fun other => ?other⟩,
    fun normal noGap fresh => ⟨fun good => ?len, fun bad => ?badLen⟩, fun normal noGap len rest receiving low high => ?body⟩
  case broken => exact congrArg Host.Outcome.next (State.takeByte_broken broken b)
  case gap => exact moved normal (by rw [State.framerAt_gap after]; exact Framer.take_hunting (by simp))
  case start =>
    obtain ⟨rfl, rfl⟩ := start
    exact moved normal (by rw [State.framerAt_noGap noGap, hunting]; rfl)
  case other => exact moved normal (by rw [State.framerAt_noGap noGap, hunting]; exact Framer.take_hunting other)
  case len =>
    exact moved normal (by
      rw [State.framerAt_noGap noGap, fresh]
      exact Framer.take_more (bytes := []) good.1 good.2 (Nat.succ_lt_succ (Nat.zero_lt_succ _)))
  case badLen => exact moved normal (by rw [State.framerAt_noGap noGap, fresh]; exact Framer.take_badLen (bytes := []) bad)
  case body =>
    refine ⟨fun more => moved normal ?_, fun whole bad => moved normal ?_⟩ <;> rw [State.framerAt_noGap noGap, receiving]
    · exact Framer.take_more low high more
    · exact Framer.take_badCrc low high whole.not_lt bad

/-! ### The bytes of a whole frame (R192) -/

/-- The framer has come to the end of the bytes of a link, and its last byte is of this moment. -/
def LinkState.at (k : LinkState) (f : Framer) (now : Nat) : LinkState := { k with framer := f, lastByte := now }

theorem State.after_cons_byte (s : State) (l : Link) (b : Byte) (bs : List Byte) :
    s.after ((b :: bs).map (.byteReceived l)) = (s.takeByte l b).after (bs.map (.byteReceived l)) := rfl

theorem State.framerAt_at (s : State) (l : Link) (k : LinkState) (f : Framer) :
    (s.setLink l (k.at f s.msec)).framerAt l = f := by
  rw [State.framerAt_noGap] <;> simp only [State.link_setLink_same, State.setLink_msec, LinkState.at]
  omega

/-- One more byte within a frame, at once. -/
theorem State.takeByte_at {s : State} {l : Link} {k : LinkState} {f g : Framer} {b : Byte} (normal : k.condition = .normal)
    (takes : f.take b = (g, none)) :
    (s.setLink l (k.at f s.msec)).takeByte l b = s.setLink l (k.at g s.msec) := by
  rw [State.takeByte_moves (f := g) (by rw [State.link_setLink_same]; exact normal) (by rw [State.framerAt_at]; exact takes),
    State.setLink_setLink, State.link_setLink_same, State.setLink_msec]
  rfl

theorem u8_append_zero (xs : List Byte) (b : Byte) (ys : List Byte) : u8 (xs ++ [b]) 0 = u8 (xs ++ b :: ys) 0 := by
  cases xs <;> rfl

/-- The bytes of a frame short of its last one are gathered. -/
theorem State.after_bytes {s : State} {l : Link} {k : LinkState} (normal : k.condition = .normal) (bs : List Byte)
    (got : List Byte) (low : 2 ≤ u8 (got ++ bs) 0) (high : u8 (got ++ bs) 0 ≤ 250)
    (more : (got ++ bs).length < u8 (got ++ bs) 0 + 3) (rest : List Byte) :
    (s.setLink l (k.at (.receiving got) s.msec)).after ((bs ++ rest).map (.byteReceived l))
      = (s.setLink l (k.at (.receiving (got ++ bs)) s.msec)).after (rest.map (.byteReceived l)) := by
  induction bs generalizing got with
  | nil => rw [List.nil_append, List.append_nil]
  | cons b bs ih =>
    have whole : got ++ b :: bs = (got ++ [b]) ++ bs := by rw [List.append_assoc, List.singleton_append]
    have first := u8_append_zero got b bs
    have step : (got ++ [b]).length < u8 (got ++ [b]) 0 + 3 := by
      rw [first]
      simp only [List.length_append, List.length_cons, List.length_nil] at more ⊢
      omega
    rw [List.cons_append, State.after_cons_byte,
      State.takeByte_at normal (Framer.take_more (first ▸ low) (first ▸ high) step),
      ih (got ++ [b]) (whole ▸ low) (whole ▸ high) (whole ▸ more), whole]

theorem e2_eq (v : Nat) : e2 v = [BitVec.ofNat 8 (v / 256), BitVec.ofNat 8 v] := by
  simp [e2, bigEndian]

/-- A two-byte field reads the value it was written from. -/
theorem u16_append_e2 (xs : List Byte) {v : Nat} (small : v < 65536) : u16 (xs ++ e2 v) xs.length = v := by
  rw [e2_eq]
  simp [u16, u8]
  omega

section
variable (kind tag : Byte) (pl : List Byte) (fits : pl.length ≤ 248)

theorem frameBody_length : (frameBody kind tag pl).length = pl.length + 3 := rfl

include fits

theorem u8_frameBody (rest : List Byte) : u8 (frameBody kind tag pl ++ rest) 0 = pl.length + 2 := by
  change (BitVec.ofNat 8 (pl.length + 2)).toNat = _
  rw [BitVec.toNat_ofNat]
  omega

/-- The bytes of a whole frame, one by one: the frame is taken and examined by its KIND (R193, R195). -/
theorem State.after_frame {s : State} {l : Link} {saw : Bool} (normal : (s.link l).condition = .normal)
    (hunts : (s.link l).framer = .hunting saw) :
    s.after ((frameBytes kind tag pl).map (.byteReceived l))
      = (s.setLink l { s.link l with lastByte := s.msec }).takeFrame l tag (answerFrame kind l pl) := by
  set body := frameBody kind tag pl with hbody
  set check := (crc body).toNat with hcheck
  have len : body.length = pl.length + 3 := frameBody_length kind tag pl
  have first (rest : List Byte) : u8 (body ++ rest) 0 = pl.length + 2 := u8_frameBody kind tag pl fits rest
  have sync : s.takeByte l 0xC5 = s.setLink l ((s.link l).at (.hunting true) s.msec) := by
    refine State.takeByte_moves normal ?_
    unfold State.framerAt
    rw [hunts]
    split <;> exact Framer.take_hunting (by simp)
  have gathered := State.after_bytes (s := s) (l := l) (k := s.link l) normal (body ++ [BitVec.ofNat 8 (check / 256)]) []
    (by rw [List.nil_append, first]; omega) (by rw [List.nil_append, first]; omega)
    (by rw [List.nil_append, first, List.length_append, len, List.length_singleton]; omega) [BitVec.ofNat 8 check]
  have split : body ++ e2 check = (body ++ [BitVec.ofNat 8 (check / 256)]) ++ [BitVec.ofNat 8 check] := by
    rw [e2_eq, List.append_assoc, List.singleton_append]
  have whole : (body ++ e2 check).length = pl.length + 5 := by rw [List.length_append, len, e2_eq]; rfl
  have ends : (Framer.receiving (body ++ [BitVec.ofNat 8 (check / 256)])).take (BitVec.ofNat 8 check)
      = (.hunting false, some (body ++ e2 check)) := by
    rw [split]
    refine Framer.take_goodCrc ?_ ?_ ?_ ?_ <;> rw [← split, first]
    · omega
    · omega
    · omega
    · rw [← len, List.take_left, u16_append_e2 body (crc body).isLt]
  rw [show frameBytes kind tag pl = 0xC5 :: 0x3A :: (body ++ e2 check) from rfl, State.after_cons_byte, sync,
    State.after_cons_byte, State.takeByte_at normal Framer.take_hunting_start, split, gathered]
  change State.takeByte _ l (BitVec.ofNat 8 check) = _
  rw [List.nil_append, State.takeByte_completes (by rw [State.link_setLink_same]; exact normal)
      (by rw [State.framerAt_at]; exact ends), State.setLink_setLink, State.link_setLink_same, State.setLink_msec, first]
  have payload : ((body ++ e2 check).drop 3).take (pl.length + 2 - 2) = pl := by
    change (pl ++ e2 check).take pl.length = pl
    exact List.take_left
  rw [payload]
  exact s.takeFrame_framer l { s.link l with lastByte := s.msec } (.hunting false) tag _ normal

end

/-- Settles O50: the bytes gather to the frame, and the frame is the command's. -/
theorem bytesOfAFrameAreItsCommand : Obligations.BytesOfAFrameAreItsCommand := by
  unfold Obligations.BytesOfAFrameAreItsCommand
  intro s l tag pl saw normal hunts fits start
  refine ⟨fun r => ⟨_, exec_command r l tag pl start, ?_⟩, fun kind unknown => ⟨_, exec_unknownRequest unknown l tag pl start, ?_⟩⟩
  · rw [State.after_frame _ tag pl fits normal hunts, serve]
    unfold answerFrame
    rw [reqOf_code]
  · rw [State.after_frame _ tag pl fits normal hunts]
    unfold answerFrame
    rw [reqOf_eq_none unknown]

/-- Settles O51: what discards, breaks and their ends leave of the link. -/
theorem linksDiscardAndBreak : Obligations.LinksDiscardAndBreak := by
  unfold Obligations.LinksDiscardAndBreak
  intro s l k hunts
  refine ⟨fun kind tag pl takes unknown => ⟨_, exec_unknownRequest unknown l tag pl s, ?unknown⟩, fun bytes receiving => ?discard,
    fun begun late => ?gap, fun normal full => ⟨?full, fun r tag pl => ?fullRequest⟩, rfl,
    fun broken => ⟨?ends, fun r tag pl => ?brokenRequest⟩⟩
  case unknown =>
    rw [State.takeFrame_taken takes]
    refine ⟨replied_of_links ?_ fun m ne => ?_, (s.hunt_onlyLinks l).trans (State.answered_onlyLinks _ l tag _)⟩
    · exact State.link_hunt_same s l
    · exact State.link_hunt_ne s ne
  case discard =>
    change Host.Outcome.next (s.discardFrame l) = _
    simp only [State.discardFrame, show (s.link l).framer = _ from receiving]
    rfl
  case gap => exact congrArg Host.Outcome.next (if_pos ((LinkState.gap_iff _ _).mpr ⟨begun, late⟩))
  case full => exact congrArg Host.Outcome.next (if_pos ⟨normal, full⟩)
  case fullRequest => rw [exec_command]; exact congrArg Host.Outcome.next (State.takeFrame_full normal full tag _)
  case ends =>
    change Host.Outcome.next (s.setLink l (s.link l).breakEnd) = _
    simp only [LinkState.breakEnd, show (s.link l).condition = _ from broken]
    rfl
  case brokenRequest => rw [exec_command]; exact congrArg Host.Outcome.next (State.takeFrame_broken broken tag _)

end Sys2Proof.Machine
end

section
/-!
PROOFS. The encoders of Machine/Wire.lean against the bytes of R197, field by field, and with them the frames (R192, R198, R201).
The equations are of functions, so that they serve inside an optional field or a list as well.
-/

namespace Sys2Proof.Machine

/-! ### Numbers -/

theorem shownInt_zero (v : Int) : shownInt 0 v = [] := rfl

theorem shownInt_succ (n : Nat) (v : Int) : shownInt (n + 1) v = BitVec.ofInt 8 (v / 256 ^ n) :: shownInt n v := by
  simp only [shownInt, List.range_succ_eq_map, List.map_cons, List.map_map, Nat.add_sub_cancel, Nat.sub_zero]
  congr 1
  refine List.map_congr_left fun i _ => ?_
  rw [Function.comp_apply, show n - i.succ = n - 1 - i by omega]

theorem bigEndian_eq (n v : Nat) : bigEndian n v = shownInt n v := by
  induction n with
  | zero => rfl
  | succ n ih =>
    rw [bigEndian, shownInt_succ, ih]
    rfl

/-- A field holds its number modulo the numbers it has room for. -/
theorem shownInt_emod (n : Nat) (v : Int) (m : Nat) (room : n ≤ m) : shownInt n (v % 256 ^ m) = shownInt n v := by
  induction n with
  | zero => rfl
  | succ n ih =>
    rw [shownInt_succ, shownInt_succ, ih (by omega)]
    congr 1
    obtain ⟨k, rfl⟩ := Nat.exists_eq_add_of_le room
    apply BitVec.eq_of_toNat_eq
    rw [BitVec.toNat_ofInt, BitVec.toNat_ofInt]
    congr 1
    have split : v = v % 256 ^ (n + 1 + k) + 256 ^ n * (256 * (256 ^ k * (v / 256 ^ (n + 1 + k)))) := by
      refine (Int.emod_add_mul_ediv v (256 ^ (n + 1 + k))).symm.trans (congrArg _ ?_)
      generalize v / 256 ^ (n + 1 + k) = q
      ring
    conv_rhs => rw [split, Int.add_mul_ediv_left _ _ (by positivity)]
    exact (Int.add_mul_emod_self_left _ _ _).symm

theorem bigEndian_signed (n : Nat) (v : Int) : bigEndian n (v % 256 ^ n).toNat = shownInt n v := by
  rw [bigEndian_eq, Int.toNat_of_nonneg (Int.emod_nonneg _ (by positivity)), shownInt_emod n v n le_rfl]

@[simp] theorem shownNat_eq : shownNat = fun n (v : Nat) => shownInt n v := rfl
@[simp] theorem e1_eq : e1 = fun (v : Nat) => shownInt 1 v := funext (bigEndian_eq 1)
@[simp] theorem e2_eq_shown : e2 = fun (v : Nat) => shownInt 2 v := funext (bigEndian_eq 2)
@[simp] theorem e4_eq : e4 = fun (v : Nat) => shownInt 4 v := funext (bigEndian_eq 4)
@[simp] theorem i2_eq : i2 = shownInt 2 := funext (bigEndian_signed 2)
@[simp] theorem i4_eq : i4 = shownInt 4 := funext (bigEndian_signed 4)
@[simp] theorem i8_eq : i8 = shownInt 8 := funext (bigEndian_signed 8)
@[simp] theorem eTime_eq : eTime = shownTime := funext fun t => bigEndian_eq 4 t.toNat

/-! ### Composed fields -/

@[simp] theorem eOpt_eq {α : Type} (f : α → List Byte) : eOpt f = shownOpt f := funext fun x => by cases x <;> rfl

@[simp] theorem eList_eq {α : Type} (f : α → List Byte) : eList f = shownList f := funext fun xs => by
  simp only [eList, shownList, e1_eq]

@[simp] theorem eText_eq : eText = shownText := funext fun t => by simp only [eText, shownText, e1_eq]

theorem setValue_zipIdx (members : List Bool) (k : Nat) :
    ((members.zipIdx k).map (fun x => if x.1 then 2 ^ x.2 else 0)).sum = 2 ^ k * setValue members := by
  induction members generalizing k with
  | nil => rfl
  | cons b rest ih =>
    rw [List.zipIdx_cons, List.map_cons, List.sum_cons, ih, setValue, Nat.pow_succ]
    cases b <;> simp <;> ring

theorem shownSet_eq (n : Nat) (members : List Bool) : shownSet n members = shownInt n (setValue members) := by
  rw [shownSet, setValue_zipIdx members 0, Nat.pow_zero, Nat.one_mul]

@[simp] theorem eSet_eq : eSet = shownSet 1 := funext fun ms => by rw [shownSet_eq, eSet, e1_eq]
@[simp] theorem eWideSet_eq : eWideSet = shownSet 2 := funext fun ms => by rw [shownSet_eq, eWideSet, e2_eq_shown]

/-! ### Names -/

@[simp] theorem eBool_eq : eBool = shownIf := funext fun b => by cases b <;> rfl
@[simp] theorem eAlarm_eq : eAlarm = fun b => shownFirst (!b) := funext fun b => by cases b <;> rfl
@[simp] theorem eLevel_eq : eLevel = shownFirst := funext fun b => by cases b <;> rfl
@[simp] theorem eEnding_eq : eEnding = shownFirst := funext fun b => by cases b <;> rfl
@[simp] theorem eJudgement_eq : eJudgement = shownFirst := funext fun b => by cases b <;> rfl
@[simp] theorem eParcel_eq : eParcel = shownParcel := funext fun p => by simp only [eParcel, shownParcel, e1_eq]; rfl
@[simp] theorem eLink_eq : eLink = shownLink := funext fun l => by cases l <;> rfl
@[simp] theorem eState_eq : eState = shownState := funext fun x => by cases x <;> rfl
@[simp] theorem eDirection_eq : eDirection = shownDirection := funext fun d => by cases d <;> rfl
@[simp] theorem eDispute_eq : eDispute = shownDispute := funext fun c => by cases c <;> rfl
@[simp] theorem eClosedFrom_eq : eClosedFrom = shownIn [.transferring, .suspended] := funext fun c => by cases c <;> rfl
@[simp] theorem eMethod_eq : eMethod = shownIn [.tab, .quad, .lin] := funext fun m => by cases m <;> rfl
@[simp] theorem eMassBasis_eq : eMassBasis = shownIn [.vac, .air] := funext fun m => by cases m <;> rfl
@[simp] theorem eFreeWater_eq : eFreeWater = shownIn [.measured, .none] := funext fun m => by cases m <;> rfl
@[simp] theorem ePressureMode_eq : ePressureMode = shownIn [.on, .off] := funext fun m => by cases m <;> rfl
@[simp] theorem eResolveFailure_eq :
    eResolveFailure = shownIn [.refMismatch, .densityMismatch, .massBasis, .noCommonMethod, .tableInvalid] :=
  funext fun c => by cases c <;> rfl
@[simp] theorem eSource_eq : eSource = shownSource := funext fun x => by
  cases x <;> simp only [eSource, shownSource, e1_eq] <;> rfl
@[simp] theorem eInput_eq : eInput = shownIn [.esd, .mv 0, .mv 1, .mv 2, .mv 3, .spare] := funext fun i => by
  cases i with
  | esd => rfl
  | mv n => revert n; decide
  | spare => rfl
@[simp] theorem eVefReason_eq : eVefReason = shownIn [.historyInvalid, .fewEntries, .outOfRange] :=
  funext fun r => by cases r <;> rfl
@[simp] theorem eVef_eq : eVef = VefResult.shown := funext fun v => by
  cases v <;> simp only [eVef, VefResult.shown, i4_eq, eVefReason_eq]
@[simp] theorem eGradeCause_eq : eGradeCause = shownIn [.downshift, .restoredByTime, .restoreGrade] :=
  funext fun c => by cases c <;> rfl
@[simp] theorem eCause_eq : eCause = Cause.shown := funext fun c => by
  cases c with
  | request r l => simp only [eCause, Cause.shown, e1_eq, eLink_eq, List.cons_append]
  | _ => rfl
@[simp] theorem eOpenCause_eq : eOpenCause = OpenCause.shown := funext fun c => by
  cases c <;> simp only [eOpenCause, OpenCause.shown, eSource_eq, e1_eq]

theorem e1_first (b : Bool) : e1 (if b then 1 else 2) = shownFirst b := by cases b <;> rfl

/-! ### Sets and records -/

@[simp] theorem ePartySet_eq : ePartySet = shownParties := funext fun x => by simp only [ePartySet, shownParties, eSet_eq]
@[simp] theorem eSuspendSet_eq : eSuspendSet = shownSuspend := funext fun x => by
  simp only [eSuspendSet, shownSuspend, eSet_eq]
@[simp] theorem eAcceptSet_eq : eAcceptSet = shownAccept := funext fun x => by simp only [eAcceptSet, shownAccept, eSet_eq]
@[simp] theorem eDownFlags_eq : eDownFlags = fun a b => shownSet 1 [a, b] := funext fun a => funext fun b => by
  simp only [eDownFlags, eSet_eq]

@[simp] theorem eBasis_eq : eBasis = Basis.shown := funext fun b => by simp [eBasis, Basis.shown]

@[simp] theorem eTankFigure_eq : eTankFigure = TankFigure.shown := funext fun f => by
  have att : eAtt = fun a => shownInt 2 a.trim ++ shownInt 2 a.list ++ shownTime a.arrival := funext fun a => by simp [eAtt]
  unfold eTankFigure TankFigure.shown
  simp only [TankFlags.toList, att, e1_eq, e2_eq_shown, i2_eq, i4_eq, eTime_eq, eOpt_eq,
    eWideSet_eq, shownNat_eq]

@[simp] theorem eMeterFigure_eq : eMeterFigure = MeterFigure.shown := funext fun f => by
  have aligned : eAligned = fun x => shownTime x.1 ++ shownInt 4 x.2 := funext fun x => by simp [eAligned]
  unfold eMeterFigure MeterFigure.shown
  simp only [MeterFlags.toList, aligned, e1_eq, e2_eq_shown, e4_eq, i2_eq, i4_eq, i8_eq,
    eTime_eq, eOpt_eq, eWideSet_eq, shownNat_eq]

@[simp] theorem eTotals_eq : eTotals = TankTotals.shown := funext fun t => by simp [eTotals, TankTotals.shown]

@[simp] theorem eCauses_eq : eCauses = Causes.shown := funext fun c => by simp [eCauses, Causes.shown]

@[simp] theorem eOutcome_eq : eOutcome = CycleOutcome.shown := funext fun o => by
  cases o with
  | within clean => simp [eOutcome, CycleOutcome.shown]
  | _ => rfl

@[simp] theorem eOutcomeCause_eq : eOutcomeCause = fun c => shownFirst c.isNone ++ shownOpt shownDispute c :=
  funext fun c => by
    have outcome : e1 (if c.isSome then 2 else 1) = shownFirst c.isNone := by rw [← e1_first]; cases c <;> rfl
    rw [eOutcomeCause, outcome, eOpt_eq, eDispute_eq]

/-! ### Notices (R201) -/

theorem CommitEnding.code_shown (e : CommitEnding) : eCommitEnding e = shownInt 1 e.shown.1 := by
  cases e <;> simp only [eCommitEnding, CommitEnding.shown] <;> rfl

theorem CommitEnding.block_shown (e : CommitEnding) : e.block = e.shown.2 := by cases e <;> rfl

theorem shownInt_first (b : Bool) : shownInt 1 ((if b then 1 else 2 : Nat) : Int) = shownFirst b := by cases b <;> rfl

theorem NoticeBody.fields_eq (b : NoticeBody) : b.fields = b.shown := by
  have one : shownInt 1 ((1 : Nat) : Int) = [1] := rfl
  have two : shownInt 1 ((2 : Nat) : Int) = [2] := rfl
  have four : shownInt 1 ((4 : Nat) : Int) = [4] := rfl
  cases b <;> unfold NoticeBody.fields NoticeBody.shown <;>
    simp only [e1_eq, e2_eq_shown, i4_eq, eTime_eq, eOpt_eq, eList_eq, shownNat_eq, eBool_eq,
      eAlarm_eq, eLevel_eq, eEnding_eq, eJudgement_eq, eParcel_eq, eLink_eq, eState_eq, eDispute_eq, eResolveFailure_eq,
      eInput_eq, eVef_eq, eGradeCause_eq, eCause_eq, eOpenCause_eq, ePartySet_eq, eSuspendSet_eq, eAcceptSet_eq, eDownFlags_eq,
      eBasis_eq, eCauses_eq, eOutcome_eq, eOutcomeCause_eq, CommitEnding.code_shown, CommitEnding.block_shown, shownInt_first,
      List.append_assoc, one, two, four]

theorem NoticeBody.code_eq (b : NoticeBody) : e1 b.code = [b.kindShown] := by
  cases b <;> simp only [NoticeBody.code, NoticeBody.kindShown] <;> rfl

/-! ### Frames (R192) -/

theorem frameBytes_eq (kind tag : Byte) (pl : List Byte) : frameBytes kind tag pl = frameShown kind tag pl := by
  have len : BitVec.ofNat 8 (pl.length + 2) :: kind :: tag :: pl = shownInt 1 (pl.length + 2) ++ [kind, tag] ++ pl := by
    rw [show ((pl.length : Int) + 2) = ((pl.length + 2 : Nat) : Int) by push_cast; rfl, ← bigEndian_eq]
    simp [bigEndian]
  rw [frameBytes, frameShown, frameBody, len, e2_eq_shown]
  rfl

theorem Response.frame_eq (r : Response) :
    r.frame = frameShown 0x80 r.tag (BitVec.ofNat 8 r.code.value :: shownSet 1 [r.clamped, r.truncated] ++ r.fields) := by
  rw [Response.frame, frameBytes_eq, eSet_eq]
  simp [e1, bigEndian]

theorem Notice.frame_eq (n : Notice) : n.frame = frameShown 0x81 0 (n.body.kindShown :: shownTime n.posted ++ n.body.shown) := by
  rw [Notice.frame, frameBytes_eq, NoticeBody.code_eq, NoticeBody.fields_eq, eTime_eq]
  rfl

theorem Code.shown (c : Code) : (c, BitVec.ofNat 8 c.value) ∈ codesShown := by cases c <;> decide

/-- One more byte turns the register eight times (R192). -/
theorem crc_append (bytes : List Byte) (b : Byte) : crc (bytes ++ [b]) = (List.range 8).foldl
    (fun r _ => if r.msb then (r <<< 1) ^^^ 0x1021 else r <<< 1) (crc bytes ^^^ (b.setWidth 16 <<< 8)) := by
  rw [crc, List.foldl_append]
  rfl

/-! ### The transmitter and the notice queue (R199, R202) -/

theorem dropCycleResult_eq {older newer : List Notice} {c : Notice} (is : c.body.isCycleResult = true)
    (before : ∀ x ∈ older, x.body.isCycleResult = false) : dropCycleResult (older ++ c :: newer) = older ++ newer := by
  induction older with
  | nil => simp [dropCycleResult, is]
  | cons x older ih =>
    have first := before x (.head _)
    simp [dropCycleResult, first, ih fun y mem => before y (.tail _ mem)]

/-- A transmitter that has sent its frame, by what is left to send. -/
theorem LinkState.sent_eq {k : LinkState} (sends : k.tx ≠ .idle) : k.sent = LinkState.transmit { k with
    tx := .idle
    responses := match k.tx with
      | .response _ => k.responses.drop 1
      | _ => k.responses } := by
  unfold LinkState.sent
  cases tx : k.tx with
  | idle => exact absurd tx sends
  | response _ => rfl
  | notice _ => rfl

/-- Settles O52: the frames by the encoders' equations, the transmitter's choice and the notice queue by cases. -/
theorem responsesGoBeforeNotices : Obligations.ResponsesGoBeforeNotices := by
  unfold Obligations.ResponsesGoBeforeNotices
  refine ⟨fun r => ⟨_, r.code.shown, r.frame_eq⟩, Notice.frame_eq, frameBytes_eq, rfl, crc_append, fun s l => ?sent, fun k n => ?place⟩
  case sent =>
    intro k left normal sends
    have sent : exec (.frameSent l) s = .next (s.setLink l (LinkState.transmit { k with tx := .idle, responses := left })) := by
      change Host.Outcome.next (s.setLink l (s.link l).sent) = _
      exact congrArg (fun k => Host.Outcome.next (s.setLink l k)) (LinkState.sent_eq sends)
    rw [sent]
    refine ⟨fun r more next => ?_, fun none n more next => ?_, fun none quiet => ?_⟩
    · simp only [LinkState.transmit, normal, next]
    · simp only [LinkState.transmit, normal, none, next]
    · simp only [LinkState.transmit, normal, none, quiet]
  case place =>
    refine ⟨fun broken => ?_, fun normal room => ?_, fun normal full => ⟨fun older c newer split is before => ?_, fun none => ?_⟩⟩
    · simp only [LinkState.place, broken]
    · simp only [LinkState.place, normal, room, if_true]
    · have any : k.notices.any (fun m => m.body.isCycleResult) = true := by
        rw [List.any_eq_true]
        exact ⟨c, by rw [split]; simp, is⟩
      simp only [LinkState.place, normal, Nat.not_lt.mpr full, any, if_false, if_true]
      rw [split, dropCycleResult_eq is before]
    · have any : k.notices.any (fun m => m.body.isCycleResult) = false := by
        rw [List.any_eq_false]
        exact fun x mem => by rw [none x mem]; decide
      simp only [LinkState.place, normal, Nat.not_lt.mpr full, any, if_false, Bool.false_eq_true]

end Sys2Proof.Machine
end

section
/-!
PROOFS. STATUS, SET_CALENDAR and SILENCE_ALARM (R203, R205, R210).
-/

namespace Sys2Proof.Machine

/-! ### A request whose block leaves its own link's buffers changed -/

/-- A served request whose block replaces its own link's buffers and touches nothing else. -/
theorem serve_relinked {r : Req} {body : Body} {l : Link} {tag : Byte} {pl : List Byte} {s : State} {k : LinkState} {reply : Reply}
    (takes : s.takes l) (right : mayRequest r l = true)
    (answer : body l pl (s.hunt l) = ((s.hunt l).setLink l { k with framer := .hunting false }, reply)) :
    RepliedFrom s (serve r body l tag pl s) l k tag reply [] ∧ OnlyLinks s (serve r body l tag pl s) := by
  rw [serve_taken takes right, answer]
  refine ⟨replied_of_links (State.link_setLink_same _ l _) fun m ne => ?_,
    ((s.hunt_onlyLinks l).trans (State.setLink_onlyLinks _ l _)).trans (State.answered_onlyLinks _ l tag reply)⟩
  exact (State.link_setLink_ne _ ne _).trans (State.link_hunt_ne s ne)

/-! ### The bytes of a STATUS (R203) -/

theorem e1_single (v : Nat) : e1 v = [BitVec.ofNat 8 v] := by simp [e1, bigEndian]

/-- One of two names, 2 where `b` holds. -/
theorem e1_second (b : Bool) : e1 (if b then 2 else 1) = [if b then 2 else 1] := by cases b <;> rfl

theorem shownFirst_byte (b : Bool) : shownFirst b = [if b then 1 else 2] := by cases b <;> rfl
theorem eBool_byte (b : Bool) : eBool b = [if b then 1 else 0] := by cases b <;> rfl
theorem eLevel_byte (b : Bool) : eLevel b = [if !b then 2 else 1] := by cases b <;> rfl
theorem eOutput_byte (b : Bool) : eOutput b = [if !b then 2 else 1] := by cases b <;> rfl
theorem eLatch_byte (b : Bool) : eLatch b = [if !b then 2 else 1] := by cases b <;> rfl

theorem eTime_bytes (t : BitVec 32) :
    eTime t = [t.extractLsb' 24 8, t.extractLsb' 16 8, t.extractLsb' 8 8, t.extractLsb' 0 8] := by
  have byte (k : Nat) : BitVec.ofNat 8 (t.toNat / 256 ^ k) = t.extractLsb' (8 * k) 8 := by
    apply BitVec.eq_of_toNat_eq
    rw [BitVec.toNat_ofNat, BitVec.extractLsb'_toNat, Nat.shiftRight_eq_div_pow, Nat.pow_mul]
  simp only [eTime, bigEndian, byte]

theorem eState_byte (x : ParcelState) : eState x = [BitVec.ofNat 8 (([.free, .declared, .basisAgreed, .opening, .transferring,
    .suspended, .closing, .awaitingAccept, .closed, .disputed] : List ParcelState).idxOf x + 1)] := by
  cases x <;> rfl

theorem eStoreState_byte (st : Store) :
    eStoreState st = [if st.verify ≠ .idle then 1 else if st.writer = none then 2 else 3] := by
  unfold eStoreState Store.verifying
  cases st.verify <;> cases st.writer <;> simp

theorem eResetCause_byte (c : ResetCause) : eResetCause c = [if c = .powerOn then 1 else 2] := by cases c <;> rfl

theorem State.statusFields_hunt (s : State) (l : Link) : (s.hunt l).statusFields l = s.statusFields l := by
  simp only [State.statusFields, State.hunt_resetCause, State.hunt_restoreLost, State.hunt_store, State.poolFree_hunt, State.parcel_hunt,
    State.hunt_lines, State.hunt_straps, State.hunt_clock, State.hunt_calendar, State.link_hunt_same]

/-! ### SILENCE_ALARM (R210) -/

/-- What silencing does to the alarm output, and that it touches no link. -/
theorem State.silenced_spec (s : State) :
    s.silenced = { s with lines := s.silenced.lines }
      ∧ s.silenced.lines = { s.lines with silence := s.silenced.lines.silence, alarmOut := s.silenced.lines.alarmOut }
      ∧ (s.anyAlarm = true → s.silenced.lines.silence = true ∧ s.silenced.lines.alarmOut = false)
      ∧ (s.anyAlarm = false → AlarmKept s s.silenced) := by
  cases alarm : s.anyAlarm with
  | true =>
    have is : s.silenced = s.setLines { s.lines with silence := true, alarmOut := false } := if_pos alarm
    rw [is]
    exact ⟨rfl, rfl, fun _ => ⟨rfl, rfl⟩, fun no => absurd no (by decide)⟩
  | false =>
    have is : s.silenced = s := if_neg (by rw [alarm]; decide)
    rw [is]
    exact ⟨rfl, rfl, fun yes => absurd yes (by decide), fun _ => ⟨rfl, rfl⟩⟩

/-- Settles O46: the STATUS byte by byte, the calendar stored, the alarm silenced. -/
theorem statusCalendarAndSilence : Obligations.StatusCalendarAndSilence := by
  unfold Obligations.StatusCalendarAndSilence
  intro s l tag pl takes yes second four states
  refine ⟨s.anyAlarm_iff, fun form => ?status, fun form survey => ?calendar, fun form => ?silence⟩
  case status =>
    have right : mayRequest .status l = true := by cases l <;> rfl
    have answer : reqStatus l pl (s.hunt l) = ((s.hunt l).setLink l { { s.link l with lost := false } with framer := .hunting false },
        Reply.withFields .ok (s.statusFields l)) := by
      rw [reqStatus, form, State.statusFields_hunt, State.link_hunt_same]
      rfl
    obtain ⟨replied, only⟩ := serve_relinked (tag := tag) takes right answer
    refine ⟨_, rfl, only, replied, ?_⟩
    have parcels : allParcels.flatMap (fun p => eStatusParcel (s.parcel p)) = allParcels.flatMap (fun p =>
        BitVec.ofNat 8 (states.idxOf (s.parcel p).state + 1) :: (if (s.parcel p).state = .free then []
          else [BitVec.ofNat 8 (s.parcel p).recon.grade, second (s.parcel p).recon.alarm])) := by
      refine List.flatMap_congr fun p _ => ?_
      simp only [eStatusParcel, eAlarm, eState_byte, e1_single (Recon.grade _), e1_second, List.singleton_append]
      rfl
    have calendar : eOpt (fun c : Calendar => eTime (c.timeOf s.clock)) s.calendar = match s.calendar with
        | none => [0]
        | some c => 1 :: four (c.value + BitVec.ofInt 32 (roundDiv (s.clock - c.setAt).toInt 10)) := by
      cases s.calendar with
      | none => rfl
      | some c => exact congrArg _ (eTime_bytes _)
    rw [State.statusFields, parcels, calendar, eResetCause_byte, eStoreState_byte, e1_single, e1_single, eOutput_byte, eLatch_byte,
      eTime_bytes]
    simp only [eBool_byte, eLevel_byte, eStrap, e1_second, List.append_assoc, List.cons_append,
      List.nil_append]
    rfl
  case calendar =>
    have right : mayRequest .setCalendar l = true := by rw [survey]; rfl
    have answer : reqSetCalendar l pl (s.hunt l)
        = ({ s.hunt l with calendar := some ⟨BitVec.ofNat 32 (u32 pl 0), s.clock⟩ }, Reply.plain .ok) := by
      simp only [reqSetCalendar, formLen, form, decide_true, if_true, State.hunt_clock]
    have answered := serve_answered (tag := tag) (bs := []) takes right answer fun m => by cases m <;> rfl
    refine ⟨_, rfl, ?_, answered.replied⟩
    have only := answered.only
    have hunted := s.hunt_onlyLinks l
    unfold OnlyLinks at only hunted
    rw [only, hunted]
  case silence =>
    have right : mayRequest .silenceAlarm l = true := by cases l <;> rfl
    obtain ⟨rest, lines, silences, keeps⟩ := (s.hunt l).silenced_spec
    have same : (s.hunt l).anyAlarm = s.anyAlarm := State.anyAlarm_congr fun p => by rw [State.parcel_hunt]
    have answer : reqSilenceAlarm l pl (s.hunt l) = ((s.hunt l).silenced,
        Reply.withFields .ok (eLatch (s.hunt l).silenced.lines.silence ++ eOutput (s.hunt l).silenced.lines.alarmOut)) := by
      rw [reqSilenceAlarm, form]
      rfl
    have answered := serve_answered (tag := tag) (bs := []) takes right answer fun m => by rw [rest]; cases m <;> rfl
    have linesOf := answered.only.lines
    unfold AlarmKept at keeps ⊢
    rw [State.hunt_lines] at lines keeps
    refine ⟨_, rfl, ?_, by rw [linesOf]; exact lines, fun any => by rw [linesOf]; exact silences (same.trans any),
      fun none => by rw [linesOf]; exact keeps (same.trans none), ?_⟩
    · have only := answered.only
      have hunted := s.hunt_onlyLinks l
      unfold OnlyLinks at only hunted
      rw [only, rest, hunted]
    · have replied := answered.replied
      rw [← linesOf, eLatch, eOutput, e1_first, e1_first, shownFirst_byte, shownFirst_byte] at replied
      exact replied

end Sys2Proof.Machine
end

section
/-!
PROOFS. The reply to READ_PARCEL, field by field (R1, R25, R38, R60, R100, R133, R158).
-/

namespace Sys2Proof.Machine

/-! ### Figures and records (R41, R118, R141, section 8.6) -/

@[simp] theorem eOpening_eq : eOpening = OpeningFigures.shown := funext fun o => by
  unfold eOpening OpeningFigures.shown
  simp only [eTime_eq, eOpt_eq, eList_eq, eTankFigure_eq, eTotals_eq, eMeterFigure_eq, i4_eq]

@[simp] theorem eLatestCycle_eq : eLatestCycle = LatestCycle.shown := funext fun c => by
  unfold eLatestCycle LatestCycle.shown
  simp only [e1_eq, e2_eq_shown, i4_eq, eTime_eq, eOpt_eq, eList_eq, eTankFigure_eq, eTotals_eq, eMeterFigure_eq, eOutcome_eq,
    eCauses_eq]

@[simp] theorem eClosing_eq : eClosing = ClosingFigures.shown := funext fun f => by
  unfold eClosing ClosingFigures.shown
  simp only [e1_eq, i4_eq, eTime_eq, eOpt_eq, eList_eq, eTankFigure_eq, eTotals_eq, eMeterFigure_eq, eVef_eq, eJudgement_eq,
    eCauses_eq]

@[simp] theorem eFigureSource_eq : eFigureSource = shownIn [.revision, .running, .none] := funext fun x => by cases x <;> rfl

@[simp] theorem eRecord_eq : eRecord = TransferRecord.shown := funext fun r => by
  have tank : eRecordTank = fun e => shownInt 1 e.tank ++ shownOpt (shownInt 4) e.openGsv ++ shownOpt (shownInt 4) e.closeGsv
      ++ shownSet 2 e.flags.toList := funext fun e => by simp only [eRecordTank, e1_eq, i4_eq, eOpt_eq, eWideSet_eq]
  have meter : eRecordMeter = fun e => shownInt 1 e.meter ++ shownOpt (shownInt 4) e.volume ++ shownSet 2 e.flags.toList :=
    funext fun e => by simp only [eRecordMeter, e1_eq, i4_eq, eOpt_eq, eWideSet_eq]
  unfold eRecord TransferRecord.shown eRecordDeclaration
  simp only [e1_eq, e2_eq_shown, i4_eq, eTime_eq, eOpt_eq, eList_eq, eParcel_eq, eText_eq, eDirection_eq, eBool_eq,
    eOutcomeCause_eq, eFigureSource_eq, eBasis_eq, eJudgement_eq, eCauses_eq, eAcceptSet_eq, shownNat_eq, tank, meter,
    List.append_assoc]

/-! ### Sources (R60) -/

theorem eFreshness_eq (s : State) (staleness : Nat) (arrival : Option Instant) :
    eFreshness (freshness arrival s.clock staleness) = s.freshnessShown staleness arrival := by
  cases arrival with
  | none => rfl
  | some t =>
    change eFreshness (if (s.clock - t).toNat ≤ staleness then .fresh else .stale) = if _ then [2] else [3]
    by_cases fresh : (s.clock - t).toNat ≤ staleness
    · rw [if_pos fresh, if_pos fresh]; rfl
    · rw [if_neg fresh, if_neg fresh]; rfl

theorem State.eTankSource_eq (s : State) (staleness : Nat) : s.eTankSource staleness = s.tankShown staleness := funext fun n => by
  have reading : eTankReading = fun r => shownOpt (fun v : Nat => shownInt 2 v) r.ullage ++ shownOpt (shownInt 2) r.temp
      ++ shownInt 2 r.dip ++ shownTime r.arrival := funext fun r => by
    simp only [eTankReading, e2_eq_shown, i2_eq, eTime_eq, eOpt_eq]
  unfold State.eTankSource State.tankShown
  simp only [e1_eq, eOpt_eq, eFreshness_eq, eBool_eq, eList_eq, shownNat_eq, reading, show shownIf false = [0] from rfl]

theorem State.eMeterSource_eq (s : State) (staleness : Nat) : s.eMeterSource staleness = s.meterShown staleness := funext fun n => by
  have reading : eMeterReading = fun r => shownOpt (fun v : Nat => shownInt 4 v) r.total ++ shownOpt (shownInt 2) r.temp
      ++ shownOpt (fun v : Nat => shownInt 2 v) r.pressure ++ shownTime r.arrival := funext fun r => by
    simp only [eMeterReading, e2_eq_shown, e4_eq, i2_eq, eTime_eq, eOpt_eq]
  unfold State.eMeterSource State.meterShown
  simp only [e1_eq, e4_eq, eOpt_eq, eFreshness_eq, eBool_eq, eList_eq, shownNat_eq, reading]

theorem heldDepth_eq (owner : Option ParcelNo) (depth : Nat) : heldDepth owner depth = if owner = none then 0 else depth := by
  cases owner <;> rfl

theorem State.depthSum_shown (s : State) : s.depthSum
    = ((List.range' 1 16).map (fun n => if (s.tank n).owner = none then 0 else (s.tank n).depth)).sum
      + ((List.range' 1 8).map (fun n => if (s.meter n).owner = none then 0 else (s.meter n).depth)).sum := by
  simp only [State.depthSum, heldDepth_eq]
  rfl

/-! ### Jobs and the checkpoint's status (R25, R100) -/

theorem State.eJob_eq (s : State) (p : ParcelNo) (k : JobKind) : s.eJob p k
    = if ∃ j ∈ s.engine.running, j.kind = k ∧ j.parcel = p then [2] else if (s.engine.jobs p).has k then [1] else [3] := by
  have runs : s.engine.runs k p = true ↔ ∃ j ∈ s.engine.running, j.kind = k ∧ j.parcel = p := by
    unfold Engine.runs
    cases s.engine.running <;> simp
  simp only [State.eJob, runs]

theorem eReported_report (x : Status) : eReported x.report = shownIn [.empty, .valid, .invalid] x := by cases x <;> rfl

/-- The offer of a parcel as a link sees it (R38). -/
theorem eOfferShown_eq {α : Type} (f : α → List Byte) (visible : Prop) [Decidable visible] :
    eOfferShown f (decide visible) = shownOffer f visible := funext fun o => by
  cases o <;> simp only [eOfferShown, shownOffer, decide_eq_true_eq]

/-! ### The whole reply -/

theorem ActiveWrite.writesCheckpoint_of {w : ActiveWrite} {p : ParcelNo} {b : Bool}
    (checkpoint : ∀ q c, w.entry = .checkpoint q c → b = (!w.paused && decide (w.kind = .checkpoint ∧ q = p)))
    (finalize : ∀ q x, w.entry = .finalize q x → b = (!w.paused && decide (w.kind = .clearCheckpoint ∧ q = p)))
    (commit : ∀ item l clear image check, w.entry = .commit item l clear image check → b = (!w.paused && false)) :
    w.writesCheckpoint p = b := by
  unfold ActiveWrite.writesCheckpoint
  cases entry : w.entry with
  | checkpoint q c => rw [checkpoint q c entry]; cases w.kind <;> simp
  | finalize q x => rw [finalize q x entry]; cases w.kind <;> simp
  | commit item l clear image check => rw [commit _ _ _ _ _ entry]; cases w.kind <;> simp

/-- The reply to READ_PARCEL of a parcel that is not FREE. -/
theorem State.parcelReply_shown {s : State} {p : ParcelNo} (l : Link) (busy : (s.parcel p).state ≠ .free) :
    s.parcelReply p l = s.parcelShown p l := by
  unfold State.parcelReply State.parcelShown
  rw [if_neg busy]
  extract_lets r d tanks meters depths job written
  have declaration : eDeclaration (r.decl.getD default)
      = shownDirection d.direction ++ shownText d.label ++ shownIf d.witnessed ++ shownLink d.declaring := by
    simp only [eDeclaration, eDirection_eq, eText_eq, eBool_eq, eLink_eq, d]
  have tanksOf : s.tanksOf p = tanks := rfl
  have metersOf : s.metersOf p = meters := rfl
  have ship : eOfferShown eShipOffer (r.showsShip l) r.shipOffer
      = shownOffer eShipOffer (r.basis ≠ none ∨ l ≠ .shore) r.shipOffer := by
    rw [← eOfferShown_eq]
    congr 1
    unfold Parcel.showsShip
    cases r.basis <;> simp
  have shore : eOfferShown eShoreOffer (r.showsShore l) r.shoreOffer
      = shownOffer eShoreOffer (r.basis ≠ none ∨ l ≠ .ship) r.shoreOffer := by
    rw [← eOfferShown_eq]
    congr 1
    unfold Parcel.showsShore
    cases r.basis <;> simp
  have run : eMeterRun = fun m => shownInt 1 m.meter ++ shownInt 2 m.d ++ shownOpt (fun v : Nat => shownInt 4 v) m.lastAligned
      ++ shownInt 8 m.acc := funext fun m => by simp only [eMeterRun, e1_eq, e4_eq, i2_eq, i8_eq, eOpt_eq]
  have required : r.required = ⟨true, true, decide (∃ x ∈ r.decl, x.witnessed = true)⟩ := by
    unfold Parcel.required Parcel.witnessed
    cases r.decl <;> simp
  have free : s.poolFree = 96 - depths := by rw [State.poolFree, State.depthSum_shown]
  have sources : s.eSources p = shownList (s.tankShown r.params.staleness) tanks ++ shownList (s.meterShown r.params.staleness) meters
      ++ (if tanks = [] then [0]
        else 1 :: shownList (fun a => shownInt 2 a.trim ++ shownInt 2 a.list ++ shownTime a.arrival) s.att.ring
          ++ s.freshnessShown r.params.staleness (s.att.latest.map (·.arrival)))
      ++ shownInt 1 (96 - depths : Nat) := by
    have att : eAtt = fun a => shownInt 2 a.trim ++ shownInt 2 a.list ++ shownTime a.arrival := funext fun a => by
      simp only [eAtt, i2_eq, eTime_eq]
    simp only [State.eSources, State.eAttSource, State.eTankSource_eq, State.eMeterSource_eq, eFreshness_eq, eList_eq, e1_eq, free,
      tanksOf, metersOf, att, List.isEmpty_iff, List.cons_append]
    rfl
  have jobs (k : JobKind) : s.eJob p k = job k ((s.engine.jobs p).has k) := s.eJob_eq p k
  have checkpoint : eReported (s.store.reportedCheckpoint p)
      = if written then [4] else shownIn [Status.empty, .valid, .invalid] (s.store.checkpoint p).status := by
    have is : (s.store.writer.map (·.writesCheckpoint p)).getD false = written := by
      unfold written
      cases s.store.writer with
      | none => rfl
      | some w =>
        refine ActiveWrite.writesCheckpoint_of (fun q c entry => ?_) (fun q x entry => ?_) fun item l clear image check entry => ?_ <;>
          simp only [entry]
    rw [Store.reportedCheckpoint, is, ← eReported_report]
    cases written <;> rfl
  unfold State.eParcelRecord eRecon eClosingState
  simp only [e1_eq, e2_eq_shown, e4_eq, i4_eq, eTime_eq, eOpt_eq, eList_eq, eBool_eq, eAlarm_eq, eParcel_eq, eState_eq, eDispute_eq,
    eBasis_eq, ePartySet_eq, eSuspendSet_eq, eAcceptSet_eq, eDownFlags_eq, eClosedFrom_eq, eOpening_eq, eLatestCycle_eq, eClosing_eq,
    eRecord_eq, shownNat_eq, jobs, checkpoint, sources, tanksOf, metersOf, run]
  rw [show s.parcel p = r from rfl, declaration, ship, shore, required]
  rfl

end Sys2Proof.Machine
end

section
/-!
PROOFS. The content of an offer as READ_PARCEL shows it is that of the payload it was sent in (R30, R38).
-/

namespace Sys2Proof.Machine

/-! ### Fields read and written again (R197) -/

theorem e1_toNat (b : Byte) : e1 b.toNat = [b] := by
  rw [e1_single, BitVec.ofNat_toNat, BitVec.setWidth_eq]

theorem e2_toNat (a b : Byte) : e2 (a.toNat * 256 + b.toNat) = [a, b] := by
  have high : BitVec.ofNat 8 ((a.toNat * 256 + b.toNat) / 256) = a := BitVec.eq_of_toNat_eq (by
    rw [BitVec.toNat_ofNat]; omega)
  have low : BitVec.ofNat 8 (a.toNat * 256 + b.toNat) = b := BitVec.eq_of_toNat_eq (by rw [BitVec.toNat_ofNat]; omega)
  rw [e2_eq, high, low]

theorem drop_byte {pl : List Byte} {i : Nat} (inside : i < pl.length) : pl.drop i = e1 (u8 pl i) ++ pl.drop (i + 1) := by
  rw [u8, e1_toNat, List.getElem?_eq_getElem inside, List.drop_eq_getElem_cons inside]
  rfl

theorem drop_word {pl : List Byte} {i : Nat} (inside : i + 1 < pl.length) : pl.drop i = e2 (u16 pl i) ++ pl.drop (i + 2) := by
  rw [u16, u8, u8, e2_toNat, ← e1_toNat, drop_byte (i := i) (by omega), drop_byte (i := i + 1) inside, u8, u8, e1_toNat, e1_toNat]
  rfl

/-- Two's complement keeps the bytes. -/
theorem i2_signed (v : Nat) (n : Int) (same : n = v ∨ n = (v : Int) - 65536) (small : v < 65536) : i2 n = e2 v := by
  have back : (n % 65536).toNat = v := by omega
  rw [i2, back, e2]

/-- A set of three members from its value. -/
theorem eSet_three {v : Nat} (small : v ≤ 7) :
    eSet [decide (v % 2 = 1), decide (v / 2 % 2 = 1), decide (v / 4 % 2 = 1)] = e1 v := by
  interval_cases v <;> rfl

/-- A set of two members from its value. -/
theorem eSet_two {v : Nat} (small : v ≤ 3) : eSet [decide (v % 2 = 1), decide (v / 2 % 2 = 1)] = e1 v := by
  interval_cases v <;> rfl

theorem eFreeWater_of {n : Nat} {m : FreeWaterMode} (mode : freeWaterOf n = some m) : eFreeWater m = e1 n := by
  unfold freeWaterOf at mode
  split at mode <;> cases mode <;> rfl

theorem ePressureMode_of {n : Nat} {m : PressureMode} (mode : pressureModeOf n = some m) : ePressureMode m = e1 n := by
  unfold pressureModeOf at mode
  split at mode <;> cases mode <;> rfl

/-! ### The common part of an offer -/

theorem eCommonOffer_offerFields {pl : List Byte} (ok : OfferInRange pl) (table : u8 pl 1 % 2 = 1 ∨ u8 pl 2 = 0) :
    eCommonOffer (offerFields pl) = e1 (u8 pl 1) ++ (e1 (u8 pl 2) ++ if u8 pl 2 = 1 then e1 (u8 pl 3) else [])
      ++ e2 (u16 pl (3 + u8 pl 2)) ++ e2 (u16 pl (3 + u8 pl 2 + 2)) ++ e1 (u8 pl (3 + u8 pl 2 + 4))
      ++ e2 (u16 pl (3 + u8 pl 2 + 5)) := by
  obtain ⟨some_, three, tab, alphaLo, alphaHi, refTemp, massLo, massHi, densityLo, densityHi⟩ := ok
  have temp : i2 (s16 pl (3 + u8 pl 2 + 2)) = e2 (u16 pl (3 + u8 pl 2 + 2)) := by
    have high := ((pl[3 + u8 pl 2 + 2]?).getD 0).isLt
    have low := ((pl[3 + u8 pl 2 + 2 + 1]?).getD 0).isLt
    refine i2_signed _ _ ?_ (by unfold u16 u8; omega)
    unfold s16
    split <;> omega
  have present : eOpt e1 (if u8 pl 1 % 2 = 1 then some (u8 pl 3) else none)
      = e1 (u8 pl 2) ++ if u8 pl 2 = 1 then e1 (u8 pl 3) else [] := by
    by_cases odd : u8 pl 1 % 2 = 1
    · rw [if_pos odd, (tab odd).1]; rfl
    · rw [if_neg odd, table.resolve_left odd]; rfl
  simp only [eCommonOffer, offerFields, eSet_three three, eSet_two massHi, temp, present]

/-- The common part is that of the payload up to its last fields. -/
theorem drop_offerFields {pl : List Byte} (form : u8 pl 2 ≤ 1) (length : 3 + u8 pl 2 + 7 ≤ pl.length) (ok : OfferInRange pl)
    (table : u8 pl 1 % 2 = 1 ∨ u8 pl 2 = 0) :
    pl.drop 1 = eCommonOffer (offerFields pl) ++ pl.drop (3 + u8 pl 2 + 7) := by
  have item : pl.drop 3 = (if u8 pl 2 = 1 then e1 (u8 pl 3) else []) ++ pl.drop (3 + u8 pl 2) := by
    rcases Nat.le_one_iff_eq_zero_or_eq_one.mp form with absent | present
    · rw [absent]; rfl
    · rw [present, if_pos rfl]; exact drop_byte (by omega)
  rw [eCommonOffer_offerFields ok table, drop_byte (by omega : 1 < _), drop_byte (by omega : 2 < _), item,
    drop_word (i := 3 + u8 pl 2) (by omega), drop_word (i := 3 + u8 pl 2 + 2) (by omega), drop_byte (i := 3 + u8 pl 2 + 4) (by omega),
    drop_word (i := 3 + u8 pl 2 + 5) (by omega)]
  simp only [List.append_assoc]

/-- The offer that a payload in range holds is the only one it can be taken for. -/
theorem commonOfferOf_some {pl : List Byte} {c : CommonOffer} (form : u8 pl 2 ≤ 1) (is : commonOfferOf pl = some c) :
    OfferInRange pl ∧ c = offerFields pl := by
  by_cases ok : OfferInRange pl
  · rw [commonOfferOf_in form ok] at is
    exact ⟨ok, (Option.some.inj is).symm⟩
  · rw [commonOfferOf_out form ok] at is
    exact nomatch is

/-! ### The two offers -/

/-- A ship offer is shown as it was sent (R38). -/
theorem eShipOffer_sent {pl : List Byte} {o : ShipOffer} (form : Req.formed .offerBasis .ship pl) (is : shipOfferOf pl = some o)
    (table : o.common.tab = true ∨ u8 pl 2 = 0) : eShipOffer o = pl.drop 1 := by
  obtain ⟨few, length⟩ := form
  unfold shipOfferOf at is
  split at is
  next c m common mode =>
    obtain rfl := Option.some.inj is
    obtain ⟨ok, rfl⟩ := commonOfferOf_some few common
    rw [offerRest_eq few] at mode
    have last : pl.drop (3 + u8 pl 2 + 7) = e1 (u8 pl (3 + u8 pl 2 + 7)) := by
      rw [drop_byte (by rw [length]; change _ < 11 + _; omega), List.drop_of_length_le (by rw [length]; change 11 + _ ≤ _; omega),
        List.append_nil]
    rw [drop_offerFields few (by rw [length]; change _ ≤ 11 + _; omega) ok (table.imp_left (by simp [offerFields])), last, eShipOffer,
      eFreeWater_of mode]
  next => exact nomatch is

/-- A shore offer is shown as it was sent (R38). -/
theorem eShoreOffer_sent {pl : List Byte} {o : ShoreOffer} (form : Req.formed .offerBasis .shore pl)
    (is : shoreOfferOf pl = some o) (table : o.common.tab = true ∨ u8 pl 2 = 0) : eShoreOffer o = pl.drop 1 := by
  obtain ⟨few, length⟩ := form
  simp only [shoreOfferOf, offerRest_eq few] at is
  split at is
  next c m common mode =>
    split at is
    next small =>
      obtain rfl := Option.some.inj is
      obtain ⟨ok, rfl⟩ := commonOfferOf_some few common
      have last : pl.drop (3 + u8 pl 2 + 7) = e1 (u8 pl (3 + u8 pl 2 + 7)) ++ e2 (u16 pl (3 + u8 pl 2 + 8)) := by
        rw [drop_byte (by rw [length]; change _ < 13 + _; omega), drop_word (by rw [length]; change _ < 13 + _; omega),
          List.drop_of_length_le (by rw [length]; change 13 + _ ≤ _; omega), List.append_nil]
      rw [drop_offerFields few (by rw [length]; change _ ≤ 13 + _; omega) ok (table.imp_left (by simp [offerFields])), last,
        eShoreOffer, ePressureMode_of mode, List.append_assoc]
    next => exact nomatch is
  next => exact nomatch is

end Sys2Proof.Machine
end

section
/-!
PROOFS. READ_PARCEL, READ_TABLE and READ_RECORD: the replies of the store and the pages (R157, R172, R185, R200).
-/

namespace Sys2Proof.Machine

/-! ### Pages (R200) -/

/-- A read whose own checks pass is answered by pages of its reply. -/
theorem serve_page {r : Req} {body : Body} {l : Link} {tag : Byte} {pl : List Byte} {s : State} {kind : ReadKind} {target page : Nat}
    {reply : List Byte} (takes : s.takes l) (right : mayRequest r l = true)
    (answer : body l pl (s.hunt l) = (s.hunt l).servePage l kind target page reply) :
    PageServed s (serve r body l tag pl s) l tag kind target page reply := by
  have refused (c : Code) (is : (s.hunt l).servePage l kind target page reply = refuse (s.hunt l) c) :
      Replied s (serve r body l tag pl s) l tag (Reply.plain c) [] ∧ OnlyLinks s (serve r body l tag pl s) :=
    serve_unchanged takes right (answer.trans is)
  unfold PageServed
  by_cases beyond : 34 < page
  · obtain ⟨replied, only⟩ := refused .refusedRange (by simp only [State.servePage, beyond, if_true])
    exact ⟨only, by rw [if_pos beyond]; exact replied⟩
  rw [if_neg beyond]
  by_cases first : page = 0
  · rw [if_pos first]
    obtain ⟨replied, only⟩ := serve_relinked (tag := tag) (k := { s.link l with readBuffer := some (bufferOf kind target reply) })
      (reply := (bufferOf kind target reply).pageReply 0) takes right
      (answer.trans (by
        rw [State.servePage, if_neg beyond, if_pos first, State.link_hunt_same]))
    refine ⟨only, bufferOf kind target reply, rfl, rfl, rfl, decide_eq_true_iff, ?_, ?_, replied⟩ <;> simp only [bufferOf] <;> omega
  rw [if_neg first]
  cases held : (s.link l).readBuffer with
  | none =>
    obtain ⟨replied, only⟩ := refused .refusedState (by
      simp only [State.servePage, beyond, first, if_false, State.link_hunt_same, held])
    exact ⟨only, replied⟩
  | some b =>
    have serves : (s.hunt l).servePage l kind target page reply = if b.kind = kind ∧ b.target = target then
        if page < b.pages then (s.hunt l, b.pageReply page) else refuse (s.hunt l) .refusedRange
      else refuse (s.hunt l) .refusedState := by
      simp only [State.servePage, beyond, first, if_false, State.link_hunt_same, held]
    simp only
    by_cases same : b.kind = kind ∧ b.target = target
    · rw [if_pos same] at serves
      rw [if_pos same]
      by_cases inside : page < b.pages
      · rw [if_pos inside] at serves ⊢
        obtain ⟨replied, only⟩ := serve_unchanged (tag := tag) takes right (answer.trans serves)
        exact ⟨only, replied⟩
      · rw [if_neg inside] at serves ⊢
        obtain ⟨replied, only⟩ := refused .refusedRange serves
        exact ⟨only, replied⟩
    · rw [if_neg same] at serves ⊢
      obtain ⟨replied, only⟩ := refused .refusedState serves
      exact ⟨only, replied⟩

/-! ### The replies do not see the links -/

theorem OnlyLinks.parcelReply {s t : State} (h : OnlyLinks s t) (p : ParcelNo) (l : Link) :
    t.parcelReply p l = s.parcelReply p l := by
  rw [h]
  rfl

theorem OnlyLinks.tableReply {s t : State} (h : OnlyLinks s t) (id : Nat) : t.tableReply id = s.tableReply id := by
  rw [h]
  rfl

/-! ### The place of an offer (R38) -/

/-- The reply to READ_PARCEL before the ship offer. -/
def State.replyBefore (s : State) (p : ParcelNo) : List Byte :=
  eParcel p ++ eState (s.parcel p).state ++ eDeclaration ((s.parcel p).decl.getD default)
    ++ eList (fun n => e1 n ++ e1 (s.tank n).depth) (s.tanksOf p) ++ eList (fun n => e1 n ++ e1 (s.meter n).depth) (s.metersOf p)
    ++ (s.parcel p).params.values.flatMap e4

/-- The reply to READ_PARCEL after the shore offer. -/
def State.replyAfter (s : State) (p : ParcelNo) : List Byte :=
  let r := s.parcel p
  eOpt eBasis r.basis ++ (ePartySet r.openSet ++ (eSuspendSet r.suspendSet ++ (ePartySet r.restartResume
    ++ (ePartySet r.closeReservation ++ (eOpt eClosedFrom r.closedFrom ++ (eOpt eOpening r.opening
    ++ (eOpt eTime r.flowRef ++ (eOpt eTime r.lastFlow ++ (eList eMeterRun r.run ++ (e2 r.cycle.toNat ++ (eRecon r
    ++ (eClosingState r ++ (eOpt eDispute r.disputeCause ++ (ePartySet r.releaseSet ++ (s.eSources p
    ++ (s.eJob p .openJob ++ (s.eJob p .cycle ++ (s.eJob p .close ++ (eBool r.overrun
    ++ eReported (s.store.reportedCheckpoint p))))))))))))))))))))

theorem State.parcelReply_eq {s : State} {p : ParcelNo} (l : Link) (busy : (s.parcel p).state ≠ .free) :
    s.parcelReply p l = s.replyBefore p ++ eOfferShown eShipOffer ((s.parcel p).showsShip l) (s.parcel p).shipOffer
      ++ eOfferShown eShoreOffer ((s.parcel p).showsShore l) (s.parcel p).shoreOffer ++ s.replyAfter p := by
  rw [State.parcelReply, if_neg busy]
  unfold State.eParcelRecord State.replyBefore State.replyAfter
  simp only [List.append_assoc]

/-- The offers apart, a record with another offer is shown alike. -/
theorem State.replyAround {s : State} {p : ParcelNo} (so : Option ShipOffer) (ho : Option ShoreOffer) :
    let t := s.setParcel p { s.parcel p with shipOffer := so, shoreOffer := ho }
    t.replyBefore p = s.replyBefore p ∧ t.replyAfter p = s.replyAfter p := by
  intro t
  have record : t.parcel p = { s.parcel p with shipOffer := so, shoreOffer := ho } := State.parcel_setParcel_same s p _
  have tank (n : Nat) : t.tank n = s.tank n := State.tank_setParcel s p _ n
  have meter (n : Nat) : t.meter n = s.meter n := State.meter_setParcel s p _ n
  have tanksOf : t.tanksOf p = s.tanksOf p := State.tanksOf_setParcel s p _ p
  have metersOf : t.metersOf p = s.metersOf p := State.metersOf_setParcel s p _ p
  have free : t.poolFree = s.poolFree := congrArg (96 - ·) (State.depthSum_congr rfl rfl)
  have clock : t.clock = s.clock := rfl
  have att : t.att = s.att := rfl
  have engine : t.engine = s.engine := rfl
  have store : t.store = s.store := rfl
  have recon : eRecon { s.parcel p with shipOffer := so, shoreOffer := ho } = eRecon (s.parcel p) := rfl
  have closing : eClosingState { s.parcel p with shipOffer := so, shoreOffer := ho } = eClosingState (s.parcel p) := rfl
  clear_value t
  have sources : t.eSources p = s.eSources p := by
    unfold State.eSources State.eTankSource State.eMeterSource State.eAttSource
    simp only [record, free, tank, meter, tanksOf, metersOf, clock, att]
  refine ⟨?_, ?_⟩
  · unfold State.replyBefore
    simp only [record, tank, meter, tanksOf, metersOf]
  · unfold State.replyAfter State.eJob
    simp only [record, engine, store, sources, recon, closing]

/-- The reply of a record with other offers. -/
theorem State.parcelReply_offers {s : State} {p : ParcelNo} (l : Link) (busy : (s.parcel p).state ≠ .free) (so : Option ShipOffer)
    (ho : Option ShoreOffer) :
    (s.setParcel p { s.parcel p with shipOffer := so, shoreOffer := ho }).parcelReply p l
      = s.replyBefore p ++ shownOffer eShipOffer ((s.parcel p).basis ≠ none ∨ l ≠ .shore) so
        ++ shownOffer eShoreOffer ((s.parcel p).basis ≠ none ∨ l ≠ .ship) ho ++ s.replyAfter p := by
  have record : (s.setParcel p { s.parcel p with shipOffer := so, shoreOffer := ho }).parcel p
      = { s.parcel p with shipOffer := so, shoreOffer := ho } := State.parcel_setParcel_same s p _
  obtain ⟨before, after⟩ := s.replyAround (p := p) so ho
  rw [State.parcelReply_eq l (by rw [record]; exact busy), before, after, record, ← eOfferShown_eq, ← eOfferShown_eq]
  unfold Parcel.showsShip Parcel.showsShore
  cases (s.parcel p).basis <;> simp

/-! ### READ_TABLE and READ_RECORD -/

theorem entriesAt_eq (img : List Byte) (off n : Nat) :
    entriesAt img off n = (List.range n).map (fun k => (u32i img (off + 8 * k), u32i img (off + 4 + 8 * k))) := by
  induction n generalizing off with
  | zero => rfl
  | succ n ih =>
    rw [entriesAt, ih, List.range_succ_eq_map, List.map_cons, List.map_map]
    refine congrArg₂ _ rfl (List.map_congr_left fun k _ => ?_)
    simp only [Function.comp_apply, Nat.succ_eq_add_one]
    rw [show off + 8 + 8 * k = off + 8 * (k + 1) by omega, show off + 8 + 4 + 8 * k = off + 4 + 8 * (k + 1) by omega]

theorem shownList_map {α β : Type} (f : β → List Byte) (g : α → β) (xs : List α) :
    shownList f (xs.map g) = shownList (fun x => f (g x)) xs := by
  simp only [shownList, List.length_map, List.flatMap_map]

theorem eOrigin_eq : eOrigin = shownIn [.imported, .recorded] := funext fun o => by cases o <;> rfl

/-- What READ_TABLE reports of a history besides (R172). -/
theorem eHistory_eq (i : Item) (v : VefState) : eHistory i v = i.historyShown v := by
  have voyage : eVoyage = fun x => shownInt 4 x.1.1 ++ shownInt 4 x.1.2 ++ shownIn [.imported, .recorded] x.2.1
      ++ shownInt 4 x.2.2.1 ++ shownIf x.2.2.2 := funext fun x => by simp only [eVoyage, i4_eq, eOrigin_eq, eBool_eq]
  unfold eHistory Item.historyShown
  extract_lets entries
  have is : i.entries = entries.map (fun e => ((e.1 : Int), (e.2 : Int))) := by
    unfold Item.entries entries
    cases i.status with
    | valid =>
      rw [if_pos rfl, historyOf, entriesAt_eq, List.map_map]
      rfl
    | empty => rfl
    | invalid => rfl
  rw [is, List.zip_map_left]
  simp only [e1_eq, i4_eq, eOpt_eq, eList_eq, eVef_eq, voyage, shownList_map, Prod.map_fst, Prod.map_snd, id]

theorem e2_word (w : Word16) : e2 w.toNat = [w.extractLsb' 8 8, w.extractLsb' 0 8] := by
  rw [e2_eq]
  have high : BitVec.ofNat 8 (w.toNat / 256) = w.extractLsb' 8 8 := BitVec.eq_of_toNat_eq (by
    rw [BitVec.toNat_ofNat, BitVec.extractLsb'_toNat, Nat.shiftRight_eq_div_pow])
  have low : BitVec.ofNat 8 w.toNat = w.extractLsb' 0 8 := BitVec.eq_of_toNat_eq (by
    rw [BitVec.toNat_ofNat, BitVec.extractLsb'_toNat, Nat.shiftRight_zero])
  rw [high, low]

/-- The entry of a record in the list of the records held (R157). -/
theorem eRecordEntry_eq (r : StoredRecord) : eRecordEntry r = [BitVec.ofNat 8 (r.record.seq / 256), BitVec.ofNat 8 r.record.seq,
    BitVec.ofNat 8 (r.record.parcel.val + 1), if r.record.cause = none then 1 else 2,
    match r.status with | .empty => 1 | .valid => 2 | .invalid => 3] := by
  have outcome : e1 (if r.record.cause.isSome then 2 else 1) = [if r.record.cause = none then 1 else 2] := by
    cases r.record.cause with
    | none => rfl
    | some c => exact e1_single 2
  have status : eReported r.status.report = [match r.status with | .empty => 1 | .valid => 2 | .invalid => 3] := by
    cases r.status <;> rfl
  rw [eRecordEntry, outcome, status, e2_eq, eParcel, e1_single]
  rfl

/-- The record of a sequence number held, the first of that number (R157). -/
theorem Store.recordReply_some {st : Store} {older newer : List StoredRecord} {r : StoredRecord} {n : Nat} (number : n ≠ 0)
    (split : st.records = older ++ r :: newer) (held : r.writing = false) (is : r.record.seq = n)
    (before : ∀ e ∈ older, e.writing = false → e.record.seq ≠ n) :
    st.recordReply n = some (r.record.shown ++ shownIn [Status.empty, .valid, .invalid] r.status) := by
  have first : st.heldRecords.find? (fun e => decide (e.record.seq = n)) = some r := by
    rw [Store.heldRecords, split, List.filter_append, List.find?_append, List.find?_eq_none.mpr]
    · simp [held, is]
    · intro e mem
      obtain ⟨mem, writing⟩ := List.mem_filter.mp mem
      simpa using before e mem (by simpa using writing)
  rw [Store.recordReply, if_neg number, first, Option.map_some, eRecord_eq, eReported_report]

theorem Store.recordReply_none {st : Store} {n : Nat} (number : n ≠ 0)
    (none : ∀ r ∈ st.records, r.writing = false → r.record.seq ≠ n) : st.recordReply n = .none := by
  rw [Store.recordReply, if_neg number, List.find?_eq_none.mpr]
  · rfl
  · intro e mem
    obtain ⟨mem, writing⟩ := List.mem_filter.mp mem
    simpa using none e mem (by simpa using writing)

theorem inRange_id {n : Nat} : inRange 1 34 n = true ↔ 1 ≤ n ∧ n ≤ 34 := by
  rw [inRange_iff]
  omega

/-- A request of the store passes its form and no verification turns it away (R2, R195). -/
theorem withStore_formed {s : State} {l : Link} {n : Nat} {pl : List Byte} (idle : s.store.verifying = false) (form : pl.length = n)
    (k : State × Reply) : withStore (formLen n pl) (s.hunt l) k = k := by
  simp only [withStore, State.hunt_store, idle, formLen, form, decide_true, if_true, Bool.false_eq_true, if_false]

/-- Settles O38: the replies field by field, and the pages they are served in. -/
theorem readsAreServedInPages : Obligations.ReadsAreServedInPages := by
  unfold Obligations.ReadsAreServedInPages
  have reads (r : Req) (l : Link) (all : r = .readParcel ∨ r = .readTable ∨ r = .readRecord) : mayRequest r l = true := by
    rcases all with rfl | rfl | rfl <;> cases l <;> rfl
  refine ⟨fun s p l free => ?free, fun s p l => s.parcelReply_shown l, fun s p l busy => ⟨?ship, ?shore⟩,
    fun pl o => eShipOffer_sent, fun pl o => eShoreOffer_sent, fun s id => ?table, eRecordEntry_eq, fun s l tag pl p takes named => ?parcel,
    fun s l tag pl takes form out => ?noParcel, fun s l tag pl serves form out => ?noTable,
    fun s l tag pl serves form low high => ⟨fun quiet => ?readTable, fun writing => ?busyTable⟩,
    fun s l tag pl serves form => ⟨fun zero => ?listed, fun older r newer number split held is before => ?record,
      fun number none => ?noRecord⟩⟩
  case free =>
    rw [State.parcelReply, if_pos free, eParcel, e1_single, eBool_byte]
    rfl
  case ship =>
    exact ⟨s.replyBefore p, _, (s.parcelReply_offers l busy none (s.parcel p).shoreOffer).trans (List.append_assoc _ _ _),
      fun o => (s.parcelReply_offers l busy (some o) (s.parcel p).shoreOffer).trans (List.append_assoc _ _ _)⟩
  case shore =>
    exact ⟨_, s.replyAfter p, s.parcelReply_offers l busy (s.parcel p).shipOffer none,
      fun o => s.parcelReply_offers l busy (s.parcel p).shipOffer (some o)⟩
  case table =>
    have reported : eReported (s.store.reported id)
        = [match s.store.reported id with | .empty => 1 | .valid => 2 | .invalid => 3 | .writing => 4] := by
      cases s.store.reported id <;> rfl
    refine ⟨match (historyDirection id).bind s.vef with
      | some v => eHistory (s.store.item id) v
      | none => [], fun noLoad noDischarge => ?_, ?_, ?_, ?_⟩
    · simp only [historyDirection, noLoad, noDischarge, if_false, Option.bind_none]
    · rintro rfl
      change (match s.vefLoad with | some v => _ | none => []) = _
      cases s.vefLoad with
      | none => rfl
      | some v => exact eHistory_eq _ v
    · rintro rfl
      change (match s.vefDischarge with | some v => _ | none => []) = _
      cases s.vefDischarge with
      | none => rfl
      | some v => exact eHistory_eq _ v
    · rw [State.tableReply, reported, eBool_byte, e2_word]
      rfl
  case parcel =>
    obtain ⟨form, named⟩ := named
    refine ⟨_, rfl, serve_page takes (reads _ l (.inl rfl)) ?_⟩
    rw [reqReadParcel, named]
    simp only [formLen, form, decide_true, if_true, (s.hunt_onlyLinks l).parcelReply]
  case noParcel =>
    have none : parcelOf (u8 pl 0) = none := Option.eq_none_iff_forall_ne_some.mpr fun p is => by
      have := parcelOf_eq_some.mp is
      omega
    refine ⟨_, rfl, turnedAway_of_refuse takes (reads _ l (.inl rfl)) ?_⟩
    simp only [reqReadParcel, formLen, form, decide_true, if_true, none]
  case noTable =>
    obtain ⟨takes, right, idle⟩ := serves
    refine ⟨_, rfl, turnedAway_of_refuse takes right ?_⟩
    rw [reqReadTable, withStore_formed idle form]
    exact if_neg fun inside => by have := inRange_id.mp inside; omega
  case readTable =>
    obtain ⟨takes, right, idle⟩ := serves
    refine ⟨_, rfl, serve_page takes right ?_⟩
    rw [reqReadTable, withStore_formed idle form]
    simp only [(s.hunt_onlyLinks l).tableReply, inRange_id.mpr ⟨low, high⟩, if_true, Store.isWriting, State.hunt_store, quiet, decide_false, Bool.false_eq_true, if_false]
  case busyTable =>
    obtain ⟨takes, right, idle⟩ := serves
    refine ⟨_, rfl, turnedAway_of_refuse takes right ?_⟩
    rw [reqReadTable, withStore_formed idle form]
    simp only [inRange_id.mpr ⟨low, high⟩, if_true, Store.isWriting, State.hunt_store, writing, decide_true]
  all_goals
    obtain ⟨takes, right, idle⟩ := serves
    refine ⟨_, rfl, ?_⟩
  case listed =>
    refine serve_page takes right ?_
    rw [reqReadRecord, withStore_formed idle form, State.hunt_store, zero]
    rfl
  case record =>
    refine serve_page takes right ?_
    rw [reqReadRecord, withStore_formed idle form, State.hunt_store, Store.recordReply_some number split held is before]
  case noRecord =>
    refine turnedAway_of_refuse takes right ?_
    rw [reqReadRecord, withStore_formed idle form, State.hunt_store, Store.recordReply_none number none]

end Sys2Proof.Machine
end

section
/-!
PROOFS. The staging buffers, the witness locks and CLEAR_HISTORY (R170, R176 to R178, R181).
-/

namespace Sys2Proof.Machine

/-! ### A request that changes the store -/

/-- A served request whose block replaces the store and its own link's buffers, and nothing else. -/
structure Restored (s t : State) (l : Link) (k : LinkState) (tag : Byte) (st : Store) (reply : Reply) : Prop where
  store : t.store = st
  rest : t = { s with store := t.store, ship := t.ship, shore := t.shore, survey := t.survey }
  replied : RepliedFrom s t l k tag reply []

theorem serve_restored {r : Req} {body : Body} {l : Link} {tag : Byte} {pl : List Byte} {s : State} {k : LinkState} {st : Store}
    {reply : Reply} (takes : s.takes l) (right : mayRequest r l = true)
    (answer : body l pl (s.hunt l) = (((s.hunt l).setLink l { k with framer := .hunting false }).setStore st, reply)) :
    Restored s (serve r body l tag pl s) l k tag st reply := by
  rw [serve_taken takes right, answer]
  have links : OnlyLinks s ((s.hunt l).setLink l { k with framer := .hunting false }) :=
    (s.hunt_onlyLinks l).trans (State.setLink_onlyLinks _ l _)
  have only := State.answered_onlyLinks (((s.hunt l).setLink l { k with framer := .hunting false }).setStore st) l tag reply
  refine ⟨only.store, ?_, replied_of_links ?_ fun m ne => ?_⟩
  · unfold OnlyLinks at only links
    rw [only, links]
    rfl
  · rw [State.link_setStore]
    exact State.link_setLink_same _ l _
  · rw [State.link_setStore]
    exact (State.link_setLink_ne _ ne _).trans (State.link_hunt_ne s ne)

/-- As `serve_restored`, of a block that leaves the links alone. -/
theorem serve_stored {r : Req} {body : Body} {l : Link} {tag : Byte} {pl : List Byte} {s : State} {st : Store}
    {reply : Reply} (takes : s.takes l) (right : mayRequest r l = true)
    (answer : body l pl (s.hunt l) = ((s.hunt l).setStore st, reply)) :
    Restored s (serve r body l tag pl s) l (s.link l) tag st reply := by
  refine serve_restored takes right (answer.trans ?_)
  rw [State.hunt_eq, State.setLink_setLink]

theorem Store.setItem_eq (st : Store) (id : Nat) (i : Item) : st.setItem id i = { st with items := (st.setItem id i).items } := by
  unfold Store.setItem
  split <;> rfl

theorem OnlyLinks.inUse {s t : State} (h : OnlyLinks s t) (id : Nat) : t.inUse id = s.inUse id := by
  rw [h]
  rfl

/-! ### TABLE_BEGIN and TABLE_DATA (R177, R178) -/

theorem placeBytes_length {bytes run : List Byte} {off : Nat} (inside : off + run.length ≤ bytes.length) :
    (placeBytes bytes off run).length = bytes.length := by
  simp only [placeBytes, List.length_append, List.length_take, List.length_drop]
  omega

theorem placeBytes_inside {bytes run : List Byte} {off i : Nat} (within : off + run.length ≤ bytes.length) (inside : i < run.length) :
    (placeBytes bytes off run)[off + i]? = run[i]? := by
  have taken : (bytes.take off).length = off := by rw [List.length_take]; omega
  rw [placeBytes, List.append_assoc, List.getElem?_append_right (by rw [taken]; omega), taken, Nat.add_sub_cancel_left,
    List.getElem?_append_left inside]

theorem placeBytes_outside {bytes run : List Byte} {off i : Nat} (within : off + run.length ≤ bytes.length)
    (outside : i < off ∨ off + run.length ≤ i) : (placeBytes bytes off run)[i]? = bytes[i]? := by
  have taken : (bytes.take off).length = off := by rw [List.length_take]; omega
  rcases outside with before | after
  · rw [placeBytes, List.append_assoc, List.getElem?_append_left (by rw [taken]; exact before), List.getElem?_take_of_lt before]
  · rw [placeBytes, List.append_assoc, List.getElem?_append_right (by rw [taken]; omega), taken,
      List.getElem?_append_right (by omega), List.getElem?_drop]
    congr 1
    omega

/-- Settles O39: the buffer opened with every byte 0, the run placed in it. -/
theorem stagingHoldsTheImage : Obligations.StagingHoldsTheImage := by
  unfold Obligations.StagingHoldsTheImage
  refine ⟨fun s l tag pl serves form => ?begin, fun s l tag pl serves form => ?data⟩
  case begin =>
    intro good
    obtain ⟨takes, right, idle⟩ := serves
    have inside : (inRange 1 34 (u8 pl 0) && inRange 2 4096 (u16 pl 1) && decide (u16 pl 1 % 2 = 0)) = true ↔ good := by
      simp only [Bool.and_eq_true, inRange_iff, decide_eq_true_eq, good]
      omega
    refine ⟨fun ok => ?_, fun out => ⟨_, rfl, turnedAway_of_refuse takes right ?_⟩⟩
    · obtain ⟨replied, only⟩ := serve_relinked (r := .tableBegin) (body := reqTableBegin) (tag := tag) (pl := pl)
        (k := { s.link l with staging := some ⟨u8 pl 0, u16 pl 1, List.replicate (u16 pl 1) 0⟩ }) (reply := Reply.plain .ok) takes right (by
          rw [reqTableBegin, withStore_formed idle form]
          refine (if_pos (inside.mpr ok)).trans ?_
          rw [State.setStaging, State.link_hunt_same])
      exact ⟨_, rfl, only, replied⟩
    · rw [reqTableBegin, withStore_formed idle form]
      exact if_neg fun yes => out (inside.mp yes)
  case data =>
    obtain ⟨takes, right, idle⟩ := serves
    have formed : withStore (decide (3 ≤ pl.length) && decide (pl.length = 3 + u8 pl 2)) (s.hunt l) = id := by
      funext k
      simp [withStore, idle, form]
    have run : (pl.drop 3).length = u8 pl 2 := by rw [List.length_drop]; omega
    refine ⟨fun closed => ⟨_, rfl, turnedAway_of_refuse takes right ?_⟩, fun g staged => ?_⟩
    · rw [reqTableData, formed, State.link_hunt_same]
      simp only [closed, id]
    intro good
    have inside : (inRange 1 240 (pl.drop 3).length && decide (u16 pl 0 + (pl.drop 3).length ≤ g.length)) = true ↔ good := by
      rw [run]
      simp only [Bool.and_eq_true, inRange_iff, decide_eq_true_eq, good]
      omega
    refine ⟨fun ok => ?_, fun out => ⟨_, rfl, turnedAway_of_refuse takes right ?_⟩⟩
    · obtain ⟨replied, only⟩ := serve_relinked (r := .tableData) (body := reqTableData) (tag := tag) (pl := pl)
        (k := { s.link l with staging := some { g with bytes := placeBytes g.bytes (u16 pl 0) (pl.drop 3) } })
        (reply := Reply.plain .ok) takes right (by
          rw [reqTableData, formed, State.link_hunt_same]
          simp only [staged, id]
          refine (if_pos (inside.mpr ok)).trans ?_
          rw [State.setStaging, State.link_hunt_same])
      refine ⟨_, placeBytes g.bytes (u16 pl 0) (pl.drop 3), rfl, only, replied, fun full => ?_⟩
      obtain ⟨low, high, fits⟩ := ok
      have within : u16 pl 0 + (pl.drop 3).length ≤ g.bytes.length := by omega
      refine ⟨(placeBytes_length within).trans full, fun i lt => ?_, fun i outside => placeBytes_outside within (run ▸ outside)⟩
      rw [placeBytes_inside within (run ▸ lt), List.getElem?_drop]
    · rw [reqTableData, formed, State.link_hunt_same]
      simp only [staged, id]
      exact if_neg fun yes => out (inside.mp yes)

/-! ### Locks (R176) -/

/-- A lock set or cleared at once. -/
theorem serve_lock {r : Req} {body : Body} {l : Link} {tag : Byte} {pl : List Byte} {s : State} {set : Bool} (serves : s.serves l r)
    (form : pl.length = 1) (is : body l pl (s.hunt l) = answerLock set pl (s.hunt l)) :
    (1 ≤ u8 pl 0 → u8 pl 0 ≤ 34 → ∃ t, t = serve r body l tag pl s
      ∧ t.store.item (u8 pl 0) = { s.store.item (u8 pl 0) with lock := set }
      ∧ OtherItems (u8 pl 0) s.store t.store ∧ t.store = { s.store with items := t.store.items }
      ∧ t = { s with store := t.store, ship := t.ship, shore := t.shore, survey := t.survey }
      ∧ Replied s t l tag (Reply.plain .ok) [])
    ∧ (¬(1 ≤ u8 pl 0 ∧ u8 pl 0 ≤ 34) → TurnedAway s (serve r body l tag pl s) l tag .refusedRange) := by
  obtain ⟨takes, right, idle⟩ := serves
  refine ⟨fun low high => ?_, fun out => turnedAway_of_refuse takes right ?_⟩
  · obtain ⟨store, rest, replied⟩ := serve_stored (tag := tag) (reply := Reply.plain .ok)
      (st := s.store.setItem (u8 pl 0) { s.store.item (u8 pl 0) with lock := set }) takes right (is.trans (by
        rw [answerLock, withStore_formed idle form]
        exact if_pos (inRange_id.mpr ⟨low, high⟩) |>.trans (by rw [State.hunt_store])))
    refine ⟨_, rfl, ?_, fun k ne => ?_, ?_, rest, replied⟩ <;> rw [store]
    · exact Store.item_setItem_same _ low high _
    · exact Store.item_setItem_ne _ ne _
    · exact Store.setItem_eq _ _ _
  · rw [is, answerLock, withStore_formed idle form]
    exact if_neg fun inside => out (inRange_id.mp inside)

/-! ### CLEAR_HISTORY (R170) -/

/-- A commit placed in the write queue, its item's write indication set (R181). -/
theorem Store.commitPlaced (st : Store) {id : Nat} (low : 1 ≤ id) (high : id ≤ 34) (l : Link) (clear : Bool) (image : List Byte)
    (check : Word16) : CommitPlaced id l clear image check st
      ((st.setItem id { st.item id with commitPending := true }).enqueue (.commit id l clear image check)) := by
  refine ⟨?_, Store.item_setItem_same _ low high _, fun k ne => Store.item_setItem_ne _ ne _⟩
  rw [Store.setItem_eq]
  rfl

/-- The clear of a history, check by check (R170). -/
theorem reqClearHistory_of {s : State} {l : Link} {pl : List Byte} {d : Direction} (idle : s.store.verifying = false)
    (form : pl.length = 1) (direction : directionOf (u8 pl 0) = some d) :
    reqClearHistory l pl (s.hunt l) = if (s.store.item (historyId d)).lock then refuse (s.hunt l) .refusedLocked
      else if s.inUse (historyId d) then refuse (s.hunt l) .refusedState
      else if s.store.isWriting (historyId d) || s.store.commitsFull then refuse (s.hunt l) .refusedBusy
      else ((s.hunt l).setStore ((s.store.setItem (historyId d) { s.store.item (historyId d) with commitPending := true }).enqueue
        (.commit (historyId d) .ship true [0, 0] 0xFFFF)), Reply.plain .accepted) := by
  rw [reqClearHistory, withStore_formed idle form, direction]
  simp only [State.hunt_store, (s.hunt_onlyLinks l).inUse, State.placeCommit]
  rfl

/-- Settles O41: the locks at once, the clear of a history check by check. -/
theorem locksAndClears : Obligations.LocksAndClears := by
  unfold Obligations.LocksAndClears
  refine ⟨fun s l tag pl c req set serves form which => ?locks, fun s l tag pl id serves form => ?clears⟩
  case locks =>
    rcases which with ⟨rfl, rfl, rfl⟩ | ⟨rfl, rfl, rfl⟩
    · obtain ⟨inside, outside⟩ := serve_lock (body := reqLockTable) (tag := tag) serves form rfl
      refine ⟨fun low high => ?_, fun out => ⟨_, rfl, outside out⟩⟩
      obtain ⟨t, rfl, facts⟩ := inside low high
      exact ⟨_, rfl, facts⟩
    · obtain ⟨inside, outside⟩ := serve_lock (body := reqUnlockTable) (tag := tag) serves form rfl
      refine ⟨fun low high => ?_, fun out => ⟨_, rfl, outside out⟩⟩
      obtain ⟨t, rfl, facts⟩ := inside low high
      exact ⟨_, rfl, facts⟩
  case clears =>
    obtain ⟨takes, right, idle⟩ := serves
    refine ⟨fun out => ⟨_, rfl, turnedAway_of_refuse takes right ?_⟩, fun which => ?_⟩
    · rw [reqClearHistory, withStore_formed idle form, directionOf_eq_none.mpr (not_or.mp out)]
    intro turned
    have turnedBy {c : Code} (refused : reqClearHistory l pl (s.hunt l) = refuse (s.hunt l) c) : turned c :=
      ⟨_, rfl, turnedAway_of_refuse takes right refused⟩
    obtain ⟨d, direction, rfl⟩ : ∃ d, directionOf (u8 pl 0) = some d ∧ historyId d = id := by
      rcases which with ⟨one, rfl⟩ | ⟨two, rfl⟩
      · exact ⟨.load, by rw [one]; rfl, rfl⟩
      · exact ⟨.discharge, by rw [two]; rfl, rfl⟩
    have body := reqClearHistory_of (l := l) idle form direction
    have bounds : 1 ≤ historyId d ∧ historyId d ≤ 34 := by cases d <;> decide
    refine ⟨fun locked => turnedBy (body.trans (if_pos locked)), fun unlocked used => turnedBy ?_, fun unlocked unused busy => turnedBy ?_,
      fun unlocked unused quiet room => ?_⟩ <;> rw [if_neg (by rw [unlocked]; decide)] at body
    · exact body.trans (if_pos used)
    · rw [if_neg (by rw [unused]; decide)] at body
      refine body.trans (if_pos ?_)
      simpa [Store.isWriting, Store.commitsFull] using busy
    · rw [if_neg (by rw [unused]; decide), if_neg (by simp [Store.isWriting, Store.commitsFull, quiet, room])] at body
      obtain ⟨store, rest, replied⟩ := serve_stored (tag := tag) takes right body
      exact ⟨_, rfl, by rw [store]; exact s.store.commitPlaced bounds.1 bounds.2 .ship true [0, 0] 0xFFFF, rest, replied⟩

end Sys2Proof.Machine
end

section
/-!
PROOFS. The structure check of an image, field by field in order (R174), and the sum of its words (R175).
-/

namespace Sys2Proof.Machine

/-! ### The first field at fault -/

/-- The offset of the first field that is not allowed. -/
def firstOff (fs : List (Nat × Bool)) : Option Nat := (fs.find? (fun f => !f.2)).map (·.1)

theorem firstOff_nil : firstOff [] = none := rfl

theorem firstOff_cons (off : Nat) (ok : Bool) (fs : List (Nat × Bool)) :
    firstOff ((off, ok) :: fs) = (faultUnless ok off).or (firstOff fs) := by
  cases ok <;> rfl

theorem firstOff_append (fs gs : List (Nat × Bool)) : firstOff (fs ++ gs) = (firstOff fs).or (firstOff gs) := by
  induction fs with
  | nil => rfl
  | cons f fs ih => rw [List.cons_append, firstOff_cons, firstOff_cons, ih, Option.or_assoc]

theorem firstFault_cons (x : Option Nat) (rest : List (Option Nat)) : firstFault (x :: rest) = x.or (firstFault rest) := by
  cases x <;> rfl

theorem inRange_eq (lo hi v : Int) : inRange lo hi v = decide (lo ≤ v ∧ v ≤ hi) := (Bool.decide_and _ _).symm

theorem inRange_nat_eq (lo hi v : Nat) : inRange lo hi v = decide (lo ≤ v ∧ v ≤ hi) := by
  rw [inRange_eq, decide_eq_decide]
  omega

/-! ### Rows (section 10.2) -/

/-- The two fields of row `i` of a section at `off`, each with whether R174 allows it. -/
def RowForm.fieldsAt (f : RowForm) (img : List Byte) (off i : Nat) : List (Nat × Bool) :=
  let at0 := off + f.rowLen * i
  [(at0, decide (f.keyLo ≤ f.key img at0 ∧ f.key img at0 ≤ f.keyHi ∧ (0 < i → f.key img (at0 - f.rowLen) < f.key img at0))),
   (at0 + 2, decide (f.valueLo ≤ f.value img (at0 + 2) ∧ f.value img (at0 + 2) ≤ f.valueHi
     ∧ (0 < i → f.falling = true → f.value img (at0 + 2) ≤ f.value img (at0 + 2 - f.rowLen))))]

/-- The row before row `i`. -/
def RowForm.before (f : RowForm) (img : List Byte) (off : Nat) : Nat → Option (Int × Int)
  | 0 => none
  | i + 1 => some (f.key img (off + f.rowLen * i), f.value img (off + f.rowLen * i + 2))

/-- One row checked against the row before it. -/
theorem rowsFault_succ (f : RowForm) (img : List Byte) (prev : Option (Int × Int)) (off n : Nat) :
    rowsFault f img prev off (n + 1)
      = (faultUnless (inRange f.keyLo f.keyHi (f.key img off) && prev.all (fun r => decide (r.1 < f.key img off))) off).or
        ((faultUnless (inRange f.valueLo f.valueHi (f.value img (off + 2))
          && prev.all (fun r => !f.falling || decide (f.value img (off + 2) ≤ r.2))) (off + 2)).or
          (rowsFault f img (some (f.key img off, f.value img (off + 2))) (off + f.rowLen) n)) := by
  have choose (ok : Bool) (at0 : Nat) (rest : Option Nat) :
      (if !ok then some at0 else rest) = (faultUnless ok at0).or rest := by cases ok <;> rfl
  rw [← choose, ← choose]
  cases prev <;> rfl

theorem RowForm.key_allowed (f : RowForm) (img : List Byte) (off i : Nat) :
    (inRange f.keyLo f.keyHi (f.key img (off + f.rowLen * i))
      && (f.before img off i).all (fun r => decide (r.1 < f.key img (off + f.rowLen * i))))
    = decide (f.keyLo ≤ f.key img (off + f.rowLen * i) ∧ f.key img (off + f.rowLen * i) ≤ f.keyHi
      ∧ (0 < i → f.key img (off + f.rowLen * i - f.rowLen) < f.key img (off + f.rowLen * i))) := by
  cases i with
  | zero => simp [RowForm.before, inRange_eq]
  | succ i =>
    rw [show off + f.rowLen * (i + 1) - f.rowLen = off + f.rowLen * i by rw [Nat.mul_succ]; omega]
    simp [RowForm.before, inRange_eq, Bool.and_assoc]

theorem RowForm.value_allowed (f : RowForm) (img : List Byte) (off i : Nat) :
    (inRange f.valueLo f.valueHi (f.value img (off + f.rowLen * i + 2))
      && (f.before img off i).all (fun r => !f.falling || decide (f.value img (off + f.rowLen * i + 2) ≤ r.2)))
    = decide (f.valueLo ≤ f.value img (off + f.rowLen * i + 2) ∧ f.value img (off + f.rowLen * i + 2) ≤ f.valueHi
      ∧ (0 < i → f.falling = true
        → f.value img (off + f.rowLen * i + 2) ≤ f.value img (off + f.rowLen * i + 2 - f.rowLen))) := by
  cases i with
  | zero => simp [RowForm.before, inRange_eq]
  | succ i =>
    rw [show off + f.rowLen * (i + 1) + 2 - f.rowLen = off + f.rowLen * i + 2 by rw [Nat.mul_succ]; omega]
    cases f.falling <;> simp [RowForm.before, inRange_eq, Bool.and_assoc]

theorem rowsFault_from (f : RowForm) (img : List Byte) (off i n : Nat) :
    rowsFault f img (f.before img off i) (off + f.rowLen * i) n = firstOff ((List.range' i n).flatMap (f.fieldsAt img off)) := by
  induction n generalizing i with
  | zero => rfl
  | succ n ih =>
    have next := ih (i + 1)
    rw [show off + f.rowLen * (i + 1) = off + f.rowLen * i + f.rowLen by ring] at next
    rw [rowsFault_succ, f.key_allowed, f.value_allowed, List.range'_succ, List.flatMap_cons, firstOff_append, ← next,
      RowForm.fieldsAt, firstOff_cons, firstOff_cons, firstOff_nil, Option.or_none, Option.or_assoc]
    rfl

theorem rowsFault_eq (f : RowForm) (img : List Byte) (off n : Nat) : rowsFault f img none off n
    = firstOff (rowFields img off f.rowLen n f.key f.value (f.keyLo, f.keyHi) (f.valueLo, f.valueHi) f.falling) := by
  have whole := rowsFault_from f img off 0 n
  rw [← List.range_eq_range'] at whole
  exact whole

/-- The figures of a voyage history (R169). -/
theorem entriesFault_eq (img : List Byte) (off n : Nat) : entriesFault img off n = firstOff ((List.range (2 * n)).map (fun i =>
    (off + 4 * i, decide (100000 ≤ u32 img (off + 4 * i) ∧ u32 img (off + 4 * i) ≤ 999999999)))) := by
  induction n generalizing off with
  | zero => rfl
  | succ n ih =>
    have rest (i : Nat) : off + 8 + 4 * i = off + 4 * (i + 1 + 1) := by omega
    have range (v : Nat) : inRange 100000 999999999 (v : Int) = decide (100000 ≤ v ∧ v ≤ 999999999) := inRange_nat_eq _ _ v
    rw [entriesFault, ih, show 2 * (n + 1) = 2 * n + 1 + 1 by ring, List.range_succ_eq_map, List.range_succ_eq_map]
    simp only [List.map_cons, List.map_map, firstOff_cons, Function.comp_def, Nat.succ_eq_add_one, rest, u32i, range, faultUnless,
      Nat.mul_zero, Nat.add_zero, Nat.zero_add, Nat.mul_one]
    by_cases first : 100000 ≤ u32 img off ∧ u32 img off ≤ 999999999 <;>
      by_cases second : 100000 ≤ u32 img (off + 4) ∧ u32 img (off + 4) ≤ 999999999 <;> simp [first, second]

/-- The structure check names the first field that R174 does not allow. -/
theorem imageFault_eq (id : Nat) (img : List Byte) : imageFault id img = firstOff (imageFields id img) := by
  have count (lo hi v : Nat) : inRange lo hi v = decide (lo ≤ v ∧ v ≤ hi) := inRange_nat_eq lo hi v
  unfold imageFault imageFields
  extract_lets two nc nt nl n
  by_cases tank : id ≤ 16
  · rw [if_pos tank, if_pos tank]
    simp only [tankImageFault, firstFault_cons, rowsFault_eq, firstOff_append, firstOff_cons, firstOff_nil, Option.none_or, Option.or_assoc,
      show inRange 2 200 (u16 img 2) = _ from count 2 200 _, show inRange 2 16 (u16 img 4) = _ from count 2 16 _,
      show inRange 2 16 (u16 img 6) = _ from count 2 16 _, inRange_eq, show firstFault [] = none from rfl, Option.or_none]
    rfl
  rw [if_neg tank, if_neg tank]
  by_cases meter : id ≤ 24
  · rw [if_pos meter, if_pos meter]
    simp only [meterImageFault, firstFault_cons, firstOff_cons, firstOff_nil, inRange_eq, printable, ← Bool.decide_and]
    rfl
  rw [if_neg meter, if_neg meter]
  by_cases expansion : id ≤ 32
  · rw [if_pos expansion, if_pos expansion]
    simp only [expansionImageFault, firstFault_cons, rowsFault_eq, firstOff_append, firstOff_cons, firstOff_nil, Option.none_or,
      Option.or_assoc, show inRange 2 64 (u16 img 0) = _ from count 2 64 _, show firstFault [] = none from rfl, Option.or_none]
    rfl
  · rw [if_neg expansion, if_neg expansion]
    simp only [historyImageFault, firstFault_cons, entriesFault_eq, firstOff_append, firstOff_cons, firstOff_nil, Option.none_or,
      Option.or_assoc, show firstFault [] = none from rfl, Option.or_none]
    rfl

theorem wordSum_cons (a b : Byte) (rest : List Byte) :
    wordSum (a :: b :: rest) = BitVec.ofNat 16 (256 * a.toNat + b.toNat) + wordSum rest := by
  have word : (a ++ b : Word16) = BitVec.ofNat 16 (256 * a.toNat + b.toNat) := by
    apply BitVec.eq_of_toNat_eq
    rw [BitVec.toNat_append, BitVec.toNat_ofNat, ← Nat.shiftLeft_add_eq_or_of_lt b.isLt, Nat.shiftLeft_eq]
    have := a.isLt
    have := b.isLt
    omega
  rw [← word]
  rfl

end Sys2Proof.Machine
end

section
/-!
PROOFS. TABLE_COMMIT check by check, and the terms of its checks (R168, R173, R179 to R181).
-/

namespace Sys2Proof.Machine

/-! ### Rights, use and reported status -/

theorem mayWriteItem_iff {id : Nat} (low : 1 ≤ id) (high : id ≤ 34) (l : Link) : mayWriteItem id l = true ↔
    ((id ≤ 16 ∨ 33 ≤ id) ∧ l = .ship) ∨ (17 ≤ id ∧ id ≤ 24 ∧ l = .shore) ∨ (25 ≤ id ∧ id ≤ 32 ∧ l ≠ .ship) := by
  unfold mayWriteItem
  by_cases tank : id ≤ 16
  · have := show ¬17 ≤ id ∧ ¬25 ≤ id by omega
    simp [tank, this]
  by_cases meter : id ≤ 24
  · have := show 17 ≤ id ∧ ¬25 ≤ id ∧ ¬33 ≤ id by omega
    simp [tank, meter, this]
  by_cases expansion : id ≤ 32
  · have := show 25 ≤ id ∧ ¬33 ≤ id by omega
    simp [tank, meter, expansion, this]
  · have := show 33 ≤ id by omega
    simp [tank, meter, expansion, this]

theorem Parcel.namesTable_iff (r : Parcel) (k : Nat) : r.namesTable k = true ↔ r.state ≠ .free
    ∧ ((∃ o, r.shipOffer = some o ∧ o.common.tableId = some k) ∨ (∃ o, r.shoreOffer = some o ∧ o.common.tableId = some k)
      ∨ ∃ b, r.basis = some b ∧ b.tableId = some k) := by
  simp [Parcel.namesTable, Option.bind_eq_some_iff, or_assoc]

theorem Parcel.holdsHistory_iff (r : Parcel) (d : Direction) : r.holdsHistory d = true ↔ (∃ e, r.decl = some e ∧ e.direction = d)
    ∧ r.state ∈ [.opening, .transferring, .suspended, .closing, .awaitingAccept] := by
  have state : (match r.state with
      | .opening | .transferring | .suspended | .closing | .awaitingAccept => true
      | .free | .declared | .basisAgreed | .closed | .disputed => false) = true
      ↔ r.state ∈ [.opening, .transferring, .suspended, .closing, .awaitingAccept] := by
    cases r.state <;> simp
  rw [Parcel.holdsHistory, Bool.and_eq_true, decide_eq_true_iff, Option.map_eq_some_iff]
  exact and_congr_right fun _ => state

theorem State.inUse_iff (s : State) {id : Nat} (low : 1 ≤ id) (high : id ≤ 34) : s.inUse id = true ↔
    (id ≤ 16 ∧ (s.tank id).owner ≠ none) ∨ (17 ≤ id ∧ id ≤ 24 ∧ (s.meter (id - 16)).owner ≠ none)
    ∨ (25 ≤ id ∧ id ≤ 32 ∧ ∃ p, (s.parcel p).state ≠ .free
      ∧ ((∃ o, (s.parcel p).shipOffer = some o ∧ o.common.tableId = some (id - 24))
        ∨ (∃ o, (s.parcel p).shoreOffer = some o ∧ o.common.tableId = some (id - 24))
        ∨ ∃ b, (s.parcel p).basis = some b ∧ b.tableId = some (id - 24)))
    ∨ (33 ≤ id ∧ ∃ p d, (s.parcel p).decl = some d ∧ (d.direction = .load ↔ id = 33)
      ∧ (s.parcel p).state ∈ [.opening, .transferring, .suspended, .closing, .awaitingAccept]) := by
  have some_iff {α : Type} (x : Option α) : x.isSome = true ↔ x ≠ none := Option.isSome_iff_ne_none
  have any_iff (f : ParcelNo → Bool) : allParcels.any f = true ↔ ∃ p, f p = true := by
    rw [List.any_eq_true]
    exact ⟨fun ⟨p, _, yes⟩ => ⟨p, yes⟩, fun ⟨p, yes⟩ => ⟨p, mem_allParcels p, yes⟩⟩
  unfold State.inUse
  by_cases tank : id ≤ 16
  · have := show ¬17 ≤ id ∧ ¬25 ≤ id ∧ ¬33 ≤ id by omega
    simp only [tank, this, if_true, some_iff, true_and, false_and, or_false]
  by_cases meter : id ≤ 24
  · have := show 17 ≤ id ∧ ¬25 ≤ id ∧ ¬33 ≤ id by omega
    simp only [tank, meter, this, if_true, if_false, some_iff, true_and, false_and, or_false, false_or]
  by_cases expansion : id ≤ 32
  · have := show 25 ≤ id ∧ ¬33 ≤ id by omega
    simp only [tank, meter, expansion, this, if_true, if_false, any_iff, Parcel.namesTable_iff, true_and, false_and, and_false, or_false,
      false_or]
  · have late := show 33 ≤ id by omega
    obtain ⟨d, direction, is⟩ : ∃ d, historyDirection id = some d ∧ ∀ e : Direction, e = d ↔ (e = .load ↔ id = 33) := by
      rcases show id = 33 ∨ id = 34 by omega with rfl | rfl
      · exact ⟨.load, rfl, fun e => by cases e <;> decide⟩
      · exact ⟨.discharge, rfl, fun e => by cases e <;> decide⟩
    simp only [tank, meter, expansion, late, if_false, direction, any_iff, Parcel.holdsHistory_iff, is, true_and, false_and, and_false,
      false_or, exists_and_right, ← and_assoc]

/-- The write unit is writing item `id` (R173). -/
theorem ActiveWrite.writesItem_iff (w : ActiveWrite) (id : Nat) : w.writesItem id = true ↔ w.paused = false
    ∧ ((w.kind = .commit ∧ ∃ l clear image check, w.entry = .commit id l clear image check)
      ∨ (w.kind = .history ∧ ∃ p x, w.entry = .finalize p x
        ∧ id = if (x.decl.map (·.direction)).getD .load = .load then 33 else 34)) := by
  have history (d : Direction) : historyId d = if d = .load then 33 else 34 := by cases d <;> rfl
  rcases w with ⟨entry, kind, block, blocks, paused⟩
  rw [ActiveWrite.writesItem, Bool.and_eq_true, Bool.not_eq_true']
  refine and_congr_right fun _ => ?_
  cases entry <;> cases kind <;> simp [history]

theorem Store.reported_iff (st : Store) (id : Nat) :
    ((st.item id).commitPending || (st.writer.map (·.writesItem id)).getD false) = true ↔
      (st.item id).commitPending = true ∨ ∃ w, st.writer = some w ∧ w.paused = false
      ∧ ((w.kind = .commit ∧ ∃ l clear image check, w.entry = .commit id l clear image check)
        ∨ (w.kind = .history ∧ ∃ p x, w.entry = .finalize p x
          ∧ id = if (x.decl.map (·.direction)).getD .load = .load then 33 else 34)) := by
  rw [Bool.or_eq_true]
  refine or_congr_right ?_
  cases st.writer with
  | none => simp
  | some w => simp [ActiveWrite.writesItem_iff]

/-! ### The checks of a commit (R179) -/

section
variable {s : State} {l : Link} {pl : List Byte} {g : Staging} (idle : s.store.verifying = false) (form : pl.length = 2)
  (staged : (s.link l).staging = some g)
include idle form staged

/-- A commit that a check refuses. -/
theorem reqTableCommit_fault {reply : Reply} (fault : s.commitFault l g (BitVec.ofNat 16 (u16 pl 0)) = some reply) :
    reqTableCommit l pl (s.hunt l) = ((s.hunt l).setLink l { (if reply.code = .refusedBusy then s.link l
      else { s.link l with staging := none }) with framer := .hunting false }, reply) := by
  have same : (s.hunt l).commitFault l g (BitVec.ofNat 16 (u16 pl 0)) = some reply := by
    rw [← fault]
    unfold State.commitFault
    simp only [State.hunt_store, (s.hunt_onlyLinks l).inUse]
  rw [reqTableCommit, withStore_formed idle form, State.link_hunt_same]
  simp only [staged, same]
  split
  · rw [State.hunt_eq, State.setLink_setLink]
  · rw [State.setStaging, State.link_hunt_same]

/-- A commit that passes every check. -/
theorem reqTableCommit_passed (fault : s.commitFault l g (BitVec.ofNat 16 (u16 pl 0)) = none) :
    reqTableCommit l pl (s.hunt l) = (((s.hunt l).setLink l { { s.link l with staging := none } with framer := .hunting false }).setStore
      ((s.store.setItem g.item { s.store.item g.item with commitPending := true }).enqueue
        (.commit g.item l false g.bytes (BitVec.ofNat 16 (u16 pl 0)))), Reply.plain .accepted) := by
  have same : (s.hunt l).commitFault l g (BitVec.ofNat 16 (u16 pl 0)) = none := by
    rw [← fault]
    unfold State.commitFault
    simp only [State.hunt_store, (s.hunt_onlyLinks l).inUse]
  rw [reqTableCommit, withStore_formed idle form, State.link_hunt_same]
  simp only [staged, same, State.placeCommit, State.setStaging, State.link_hunt_same, State.setLink_store, State.hunt_store]

end

/-- Settles O40: the structure check, the terms of the checks, and the commit check by check. -/
theorem commitIsExaminedAndQueued : Obligations.CommitIsExaminedAndQueued := by
  unfold Obligations.CommitIsExaminedAndQueued
  refine ⟨imageFault_eq, rfl, wordSum_cons, fun id l low high => mayWriteItem_iff low high l, fun s id low high => s.inUse_iff low high,
    fun st id => ?reported, fun s l tag pl serves form => ⟨fun closed => ?closed, fun g staged => ?checks⟩⟩
  case reported =>
    intro marked
    have iff : _ ↔ marked := st.reported_iff id
    refine ⟨fun yes => ?_, fun no => ?_, decide_eq_true_iff⟩
    · exact if_pos (iff.mpr yes)
    · refine (if_neg fun yes => no (iff.mp yes)).trans ?_
      cases (st.item id).status <;> rfl
  case closed =>
    obtain ⟨takes, right, idle⟩ := serves
    refine ⟨_, rfl, turnedAway_of_refuse takes right ?_⟩
    rw [reqTableCommit, withStore_formed idle form, State.link_hunt_same]
    simp only [closed]
  case checks =>
    obtain ⟨takes, right, idle⟩ := serves
    intro closed check rights unlocked unused quiet sums room refusedWith
    obtain ⟨found, is⟩ : ∃ found, s.commitFault l g check = found := ⟨_, rfl⟩
    have refused {r : Reply} (fault : found = some r) :
        refusedWith (if r.code = .refusedBusy then s.link l else closed) r := by
      obtain ⟨replied, only⟩ := serve_relinked (tag := tag) takes right (reqTableCommit_fault idle form staged (is.trans fault))
      exact ⟨_, rfl, only, replied⟩
    have rights_iff : (!mayWriteItem g.item l) = true ↔ ¬rights := by simp [rights]
    have lock_iff : (s.store.item g.item).lock = true ↔ ¬unlocked := by simp [unlocked]
    have use_iff : s.inUse g.item = true ↔ ¬unused := by simp [unused]
    have writing_iff : s.store.isWriting g.item = true ↔ ¬quiet := by simp [quiet, Store.isWriting]
    have sums_iff : wordSum g.bytes + check ≠ 0xFFFF ↔ ¬sums := Iff.rfl
    have full_iff : s.store.commitsFull = true ↔ ¬room := by simp [room, Store.commitsFull]
    have faults := is.symm
    unfold State.commitFault at faults
    simp only [rights_iff, lock_iff, use_iff, writing_iff, sums_iff, full_iff] at faults
    refine ⟨fun a => ?_, fun a b => ?_, fun a b c => ?_, fun a b c d => ?_, fun a b c d e => ?_, fun off a b c d e f => ?_,
      fun a b c d e f g' => ?_, fun a b c d e f g' low high => ?_⟩
    · exact refused (faults.trans (if_pos a))
    · exact refused (faults.trans (by rw [if_neg (not_not.mpr a), if_pos b]))
    · exact refused (faults.trans (by rw [if_neg (not_not.mpr a), if_neg (not_not.mpr b), if_pos c]))
    · exact refused (faults.trans (by rw [if_neg (not_not.mpr a), if_neg (not_not.mpr b), if_neg (not_not.mpr c), if_pos d]))
    all_goals
      rw [if_neg (not_not.mpr a), if_neg (not_not.mpr b), if_neg (not_not.mpr c), if_neg (not_not.mpr d)] at faults
    · exact refused (faults.trans (if_pos e))
    all_goals
      rw [if_neg (not_not.mpr e), f] at faults
    · exact refused faults
    · exact refused (faults.trans (if_pos g'))
    · obtain ⟨store, rest, replied⟩ := serve_restored (tag := tag) takes right
        (reqTableCommit_passed idle form staged (is.trans (faults.trans (if_neg (not_not.mpr g')))))
      exact ⟨_, rfl, by rw [store]; exact s.store.commitPlaced low high l false g.bytes check, rest, replied⟩

end Sys2Proof.Machine
end

section
/-!
PROOFS. The write unit: an entry taken and begun, a block written, a commit and a checkpoint ended (R25, R181, R183, R184).
-/

namespace Sys2Proof.Machine

/-! ### An entry taken and begun (R183) -/

theorem State.startWrite_taken {s : State} {e : QueueEntry} {rest : List QueueEntry} (idle : s.store.verify = .idle)
    (unit : s.store.writer = none) (queue : s.store.queue = e :: rest) :
    s.startWrite = (s.setStore { s.store with queue := rest }).beginEntry e := by
  simp only [State.startWrite, idle, unit, queue]

theorem importedOrigins_history {id : Nat} (history : id = 33 ∨ id = 34) (image : List Byte) :
    importedOrigins id image = List.replicate (u16 image 0) .imported := by
  have yes : (historyDirection id).isSome = true := by rcases history with rfl | rfl <;> rfl
  rw [importedOrigins, if_pos yes, historyOf, entriesAt_eq, List.map_map, List.eq_replicate_iff]
  refine ⟨by rw [List.length_map, List.length_range], fun o mem => ?_⟩
  obtain ⟨_, _, rfl⟩ := List.mem_map.mp mem
  rfl

theorem freeBlocks_bounds (draw : Nat) {most : Nat} (some_ : 0 < most) : 1 ≤ freeBlocks draw most ∧ freeBlocks draw most ≤ most := by
  have := Nat.mod_lt (Config.imageLength draw).toNat some_
  unfold freeBlocks
  omega

/-- The slot taken is the newest, the oldest of eight removed (R156). -/
theorem takeSlot_eq (records : List StoredRecord) (record : TransferRecord) (sum : Word16) :
    let r : StoredRecord := ⟨.invalid, true, record, sum, checkOf sum⟩
    (records.length < 8 → takeSlot records record sum = records ++ [r])
      ∧ (records.length = 8 → takeSlot records record sum = records.tail ++ [r]) := by
  refine ⟨fun few => ?_, fun full => ?_⟩ <;> rw [takeSlot]
  · rw [show records.length - 7 = 0 by omega, List.drop_zero]
  · rw [full, List.drop_one]

/-- Settles O43: the entry's item, checkpoint or record slot INVALID, its write at block 1. -/
theorem writeUnitTakesTheOldestEntry : Obligations.WriteUnitTakesTheOldestEntry := by
  unfold Obligations.WriteUnitTakesTheOldestEntry
  intro s e rest idle unit queue
  have starts : exec .writeStart s = .next ((s.setStore { s.store with queue := rest }).beginEntry e) :=
    congrArg Host.Outcome.next (State.startWrite_taken idle unit queue)
  rw [starts]
  cases e with
  | commit id l clear image check =>
    set marked := (({ s.store with queue := rest } : Store).setItem id { s.store.item id with status := .invalid }) with is
    have items : marked = { s.store with queue := rest, items := marked.items } := Store.setItem_eq _ _ _
    have queued : marked.queue = rest := congrArg Store.queue items
    have verify : marked.verify = .idle := (congrArg Store.verify items).trans idle
    have nextSeq : marked.nextSeq = s.store.nextSeq := Store.setItem_nextSeq _ _ _
    have records : marked.records = s.store.records := Store.setItem_records _ _ _
    have checkpoints : marked.checkpoints = s.store.checkpoints := Store.setItem_checkpoints _ _ _
    refine ⟨_, _, rfl, queued, rfl, rfl, rfl, rfl, verify, nextSeq, rfl, rfl, ?_, ?_, rfl, rfl, (fun history => importedOrigins_history history image), ?_, ?_, records, checkpoints, rfl⟩
    · change 64 * (blocksOf image.length - 1) < _
      unfold blocksOf
      omega
    · change _ ≤ 64 * blocksOf image.length
      unfold blocksOf
      omega
    · exact fun k ne => Store.item_setItem_ne _ ne _
    · exact fun low high => Store.item_setItem_same _ low high _
  | checkpoint p copy =>
    obtain ⟨some_, most⟩ := freeBlocks_bounds s.freeDraws (most := 16) (by decide)
    exact ⟨_, _, rfl, rfl, rfl, rfl, rfl, rfl, idle, rfl, rfl, rfl, some_, most, Store.checkpoint_setCheckpoint_same _ p _,
      fun q ne => Store.checkpoint_setCheckpoint_ne _ ne _, rfl, rfl⟩
  | finalize p record =>
    obtain ⟨some_, most⟩ := freeBlocks_bounds s.freeDraws (most := 12) (by decide)
    obtain ⟨few, full⟩ := takeSlot_eq s.store.records record (Config.imageWordSum s.freeDraws)
    exact ⟨_, _, rfl, rfl, rfl, rfl, rfl, rfl, idle, rfl, rfl, rfl, some_, most, ⟨_, rfl, rfl, rfl, few, full⟩, rfl, rfl⟩

/-! ### A block written and read back (R183) -/

section
variable {s : State} {w : ActiveWrite} (unit : s.store.writer = some w) (works : w.paused = false)
include unit works

theorem State.blockDone_more (more : w.block < w.blocks) :
    s.blockDone true = s.setWriter (some { w with block := w.block + 1 }) := by
  simp only [State.blockDone, unit, works, more, if_true, Bool.false_eq_true, if_false]

theorem State.blockDone_ends {equal : Bool} (last : equal = true → w.blocks ≤ w.block) :
    s.blockDone equal = (s.endWrite w equal).transmitAll := by
  cases equal with
  | false => simp only [State.blockDone, unit, works, Bool.false_eq_true, if_false]
  | true => simp only [State.blockDone, unit, works, Nat.not_lt.mpr (last rfl), if_true, Bool.false_eq_true, if_false]

end

/-! ### The end of a commit and of a checkpoint (R25, R161, R184) -/

theorem State.computeVefOf_spec (s : State) (id : Nat) : let t := s.computeVefOf id
    t = { s with vefLoad := t.vefLoad, vefDischarge := t.vefDischarge }
      ∧ t.vefLoad = (if id = 33 then some (vefOfItem (s.store.item 33)) else s.vefLoad)
      ∧ t.vefDischarge = (if id = 34 then some (vefOfItem (s.store.item 34)) else s.vefDischarge) := by
  unfold State.computeVefOf historyDirection
  obtain rfl | load := eq_or_ne id 33
  · exact ⟨rfl, rfl, rfl⟩
  obtain rfl | discharge := eq_or_ne id 34
  · exact ⟨rfl, rfl, rfl⟩
  · simp [load, discharge]

/-- A commit's ending goes to its link and the survey link, once when they are the same (R184). -/
theorem State.link_postResult (s : State) (l : Link) (b : NoticeBody) (m : Link) :
    (s.postResult l b).link m = (s.link m).placeAll s.clock (if m = l ∨ m = .survey then [b] else []) := by
  unfold State.postResult
  cases l <;> cases m <;> rfl

theorem State.postResult_onlyLinks (s : State) (l : Link) (b : NoticeBody) : OnlyLinks s (s.postResult l b) := by
  unfold State.postResult
  cases l <;> rfl

/-- The commit's item, write unit, factors and notices once its write has ended. -/
theorem State.endWrite_commit {s : State} {w : ActiveWrite} {id : Nat} {l : Link} {clear : Bool} {image : List Byte} {check : Word16}
    (entry : w.entry = .commit id l clear image check) (low : 1 ≤ id) (high : id ≤ 34) (equal : Bool) :
    let x : Status := if equal then (if clear then .empty else .valid) else .invalid
    let content := if equal then { s.store.item id with image := w.image, check := w.check, origins := w.origins } else s.store.item id
    let t := (s.endWrite w equal).transmitAll
    t.store.item id = { content with status := x, commitPending := false }
      ∧ OtherItems id s.store t.store ∧ t.store = { s.store with items := t.store.items, writer := none }
      ∧ (∀ m, t.link m = ((s.link m).placeAll s.clock (if m = l ∨ m = .survey then
        [.tableResult id l (if equal then (if clear then .empty else .valid) else .writeFault w.block) image.length check]
        else [])).transmit)
      ∧ t.vefLoad = (if id = 33 then some (vefOfItem (t.store.item 33)) else s.vefLoad)
      ∧ t.vefDischarge = (if id = 34 then some (vefOfItem (t.store.item 34)) else s.vefDischarge)
      ∧ t = { s with
        store := t.store
        vefLoad := t.vefLoad
        vefDischarge := t.vefDischarge
        ship := t.ship
        shore := t.shore
        survey := t.survey } := by
  intro x content t
  have settled : (if x = .invalid then s.store.item id
      else { s.store.item id with image := w.image, check := w.check, origins := w.origins }) = content := by
    cases equal <;> cases clear <;> rfl
  set u := (s.settleItem id x w false).setWriter none with isU
  obtain ⟨rest, load, discharge⟩ := u.computeVefOf_spec id
  set v := u.computeVefOf id
  set b := NoticeBody.tableResult id l (if equal then (if clear then .empty else .valid) else .writeFault w.block) image.length check
  have isT : t = (v.postResult l b).transmitAll := by
    change (s.endWrite w equal).transmitAll = _
    simp only [State.endWrite, entry]
    rfl
  have only := (v.postResult_onlyLinks l b).trans (v.postResult l b).transmitAll_onlyLinks
  rw [← isT] at only
  have store : t.store = u.store := only.store.trans (by rw [rest])
  have stored : u.store = { (s.store.setItem id { content with status := x, commitPending := false }) with writer := none } := by
    rw [isU, ← settled]
    rfl
  have vefs : t.vefLoad = v.vefLoad ∧ t.vefDischarge = v.vefDischarge := by rw [only]; exact ⟨rfl, rfl⟩
  refine ⟨?_, fun k ne => ?_, ?_, fun m => ?_, ?_, ?_, ?_⟩
  · rw [store, stored]
    exact Store.item_setItem_same _ low high _
  · rw [store, stored]
    exact Store.item_setItem_ne _ ne _
  · rw [store, stored, Store.setItem_eq]
  · rw [isT, State.link_transmitAll, State.link_postResult, rest]
    cases m <;> rfl
  · rw [vefs.1, load, store]
    rfl
  · rw [vefs.2, discharge, store]
    rfl
  · unfold OnlyLinks at only
    rw [only, rest]
    rfl

/-- The checkpoint item, the write unit and RESTORE_LOST once a checkpoint's write has ended well. -/
theorem State.endWrite_checkpoint_good {s : State} {w : ActiveWrite} {p : ParcelNo} {copy : Checkpoint}
    (entry : w.entry = .checkpoint p copy) : s.endWrite w true
      = (s.setStore { (s.store.setCheckpoint p ⟨.valid, some copy, w.wordSum, checkOf w.wordSum⟩) with writer := none }).setRestoreLost p
        false := by
  unfold State.endWrite
  rw [entry]
  cases w.kind <;> rfl

theorem State.endWrite_checkpoint_fault {s : State} {w : ActiveWrite} {p : ParcelNo} {copy : Checkpoint}
    (entry : w.entry = .checkpoint p copy) : s.endWrite w false = s.setWriter none := by
  unfold State.endWrite
  rw [entry]
  cases w.kind <;> rfl

theorem wordSum_checkOf (sum : Word16) : sum + checkOf sum = 0xFFFF := by
  unfold checkOf
  rw [BitVec.add_comm, BitVec.sub_add_cancel]

/-- Settles O44: the next block, and the ends of a commit and of a checkpoint. -/
theorem blockWritesEndCommitsAndCheckpoints : Obligations.BlockWritesEndCommitsAndCheckpoints := by
  unfold Obligations.BlockWritesEndCommitsAndCheckpoints
  refine ⟨fun s p => rfl, fun s w unit works => ⟨fun more => congrArg Host.Outcome.next (State.blockDone_more unit works more),
    fun id l clear image check entry low high => ?commit, fun p copy entry kind => ⟨fun last => ?good, ?fault⟩⟩⟩
  case commit =>
    intro result
    have ends {equal : Bool} (last : equal = true → w.blocks ≤ w.block) : exec (.blockWriteDone equal) s = .next _ :=
      congrArg Host.Outcome.next (State.blockDone_ends unit works last)
    exact ⟨fun last => ⟨_, ends fun _ => last, s.endWrite_commit entry low high true⟩,
      ⟨_, ends nofun, s.endWrite_commit entry low high false⟩⟩
  case good =>
    have ends : exec (.blockWriteDone true) s = .next _ :=
      congrArg Host.Outcome.next (State.blockDone_ends unit works fun _ => last)
    rw [State.endWrite_checkpoint_good entry] at ends
    have item := Store.checkpoint_setCheckpoint_same s.store p ⟨.valid, some copy, w.wordSum, checkOf w.wordSum⟩
    have passes : (⟨.valid, some copy, w.wordSum, checkOf w.wordSum⟩ : CheckpointItem).passes = true := by
      simp [CheckpointItem.passes, wordSum_checkOf]
    refine ⟨_, ends, congrArg CheckpointItem.status item, congrArg CheckpointItem.content item,
      (congrArg CheckpointItem.passes item).trans passes, fun q ne => ⟨Store.checkpoint_setCheckpoint_ne s.store ne _, ?_⟩, ?_, rfl,
      fun m => ?_, rfl⟩
    · exact (State.setRestoreLost_get _ p q false).trans (if_neg ne)
    · exact (State.setRestoreLost_get _ p p false).trans (if_pos rfl)
    · cases m <;> rfl
  case fault =>
    have ends : exec (.blockWriteDone false) s = .next _ :=
      congrArg Host.Outcome.next (State.blockDone_ends unit works nofun)
    rw [State.endWrite_checkpoint_fault entry] at ends
    exact ⟨_, ends, rfl, fun m => by cases m <;> rfl, rfl⟩

end Sys2Proof.Machine
end

section
/-!
PROOFS. A verification: asked for, its pass, and its end (R186, R187).
-/

namespace Sys2Proof.Machine

/-! ### The pass over the store (R186) -/

theorem StoredRecord.passes_iff (r : StoredRecord) : r.passes = true ↔ r.status = .valid ∧ r.wordSum + r.check = 0xFFFF := by
  rw [StoredRecord.passes, Bool.and_eq_true, decide_eq_true_iff, decide_eq_true_iff]

theorem CheckpointItem.passes_iff (c : CheckpointItem) : c.passes = true ↔ c.status = .valid ∧ c.wordSum + c.check = 0xFFFF := by
  rw [CheckpointItem.passes, Bool.and_eq_true, decide_eq_true_iff, decide_eq_true_iff]

theorem Item.fails_iff (i : Item) :
    i.status = .valid ∧ i.passes = false ↔ i.status = .valid ∧ wordSum i.image + i.check ≠ 0xFFFF := by
  refine and_congr_right fun valid => ?_
  rw [Item.passes, valid]
  simp

theorem Item.verified_eq (i : Item) :
    i.verified = if i.status = .valid ∧ wordSum i.image + i.check ≠ 0xFFFF then { i with status := .invalid } else i := by
  simp only [Item.verified, Item.fails_iff]

theorem Store.item_pass (st : Store) (id : Nat) : st.pass.item id = (st.item id).verified := by
  simp only [Store.item, Store.pass]
  split
  · rfl
  · rw [Vector.getElem?_map]
    cases st.items[id - 1]? <;> rfl

/-- An item, checkpoint or record that fails its check is not as before after the pass. -/
theorem Store.pass_made (st : Store) : PassMade st st.pass :=
  ⟨fun id => (st.item_pass id).trans (st.item id).verified_eq, rfl⟩

/-- The checkpoints a pass drops are those INVALID after it (R187). -/
theorem Store.dropped_iff (st : Store) (p : ParcelNo) : st.dropped p ↔ (st.checkpoint p).verified.status = .invalid := by
  unfold Store.dropped CheckpointItem.verified
  split
  next fails => simp [fails]
  next passes =>
    refine ⟨fun h => h.resolve_right passes, .inl⟩

theorem Store.verified_of_kept {st : Store} {p : ParcelNo} (kept : ¬st.dropped p) : (st.checkpoint p).verified = st.checkpoint p :=
  if_neg fun fails => kept (.inr fails)

theorem Store.mem_invalidCheckpoints (st : Store) (p : ParcelNo) : p ∈ st.pass.invalidCheckpoints ↔ st.dropped p := by
  rw [Store.invalidCheckpoints, List.mem_filter, decide_eq_true_iff, Store.checkpoint_pass, Store.dropped_iff]
  exact and_iff_right (mem_allParcels p)

theorem Store.mem_itemsFailing (st : Store) (id : Nat) : id ∈ st.itemsFailing ↔ 1 ≤ id ∧ id ≤ 34 ∧ (st.item id).status = .valid
    ∧ wordSum (st.item id).image + (st.item id).check ≠ 0xFFFF := by
  have fails := (st.item id).fails_iff
  simp only [Store.itemsFailing, itemIds, List.mem_filter, List.mem_range'_1, Bool.and_eq_true, decide_eq_true_eq,
    Bool.not_eq_true', fails, and_assoc]
  refine and_congr_right fun _ => and_congr_left' ?_
  omega

/-! ### The checkpoints dropped (R29, R187) -/

theorem State.dropCheckpoints_spec (ps : List ParcelNo) (s : State) : let t := ps.foldl (fun acc p => acc.dropCheckpoint p) s
    (∀ q, t.store.checkpoint q = if q ∈ ps then CheckpointItem.delivered else s.store.checkpoint q)
      ∧ (∀ q, t.restoreLost.get q = if q ∈ ps then true else s.restoreLost.get q)
      ∧ t = { s with store := { s.store with checkpoints := t.store.checkpoints }, restoreLost := t.restoreLost } := by
  induction ps generalizing s with
  | nil => exact ⟨fun _ => rfl, fun _ => rfl, rfl⟩
  | cons p ps ih =>
    obtain ⟨checkpoint, lost, rest⟩ := ih (s.dropCheckpoint p)
    rw [List.foldl_cons]
    refine ⟨fun q => ?_, fun q => ?_, ?_⟩
    · rw [checkpoint]
      by_cases here : q = p
      · rw [here]
        simp [State.dropCheckpoint]
      · rw [s.dropCheckpoint_checkpoint_ne here]
        simp [here]
    · rw [lost, State.dropCheckpoint, State.setRestoreLost_get]
      by_cases here : q = p <;> simp [here]
    · exact rest

/-- What a verification makes of the part before a waiting finalize goes on (R186, R187). -/
structure Verified (s u : State) : Prop where
  store : u.store = { s.store.pass with checkpoints := u.store.checkpoints, verify := .idle }
  dropped : ∀ p, s.store.dropped p → u.store.checkpoint p = ⟨.empty, none, 0, 0⟩ ∧ u.restoreLost.get p = true
  kept : ∀ p, ¬s.store.dropped p → u.store.checkpoint p = s.store.checkpoint p ∧ u.restoreLost.get p = s.restoreLost.get p
  load : u.vefLoad = if (u.store.item 33).status = .invalid then some (vefOfItem (u.store.item 33)) else s.vefLoad
  discharge : u.vefDischarge = if (u.store.item 34).status = .invalid then some (vefOfItem (u.store.item 34)) else s.vefDischarge
  survey : u.survey = s.survey.place
    ⟨s.clock, .verified s.store.itemsFailing s.store.recordsFailing s.store.pass.invalidCheckpoints⟩
  rest : u = { s with
    store := u.store
    restoreLost := u.restoreLost
    vefLoad := u.vefLoad
    vefDischarge := u.vefDischarge
    survey := u.survey }

theorem State.computeIfInvalid_eq (s : State) : (s.computeIfInvalid .load).computeIfInvalid .discharge = { s with
    vefLoad := if (s.store.item 33).status = .invalid then some (vefOfItem (s.store.item 33)) else s.vefLoad
    vefDischarge := if (s.store.item 34).status = .invalid then some (vefOfItem (s.store.item 34)) else s.vefDischarge } := by
  have load : s.computeIfInvalid .load = { s with
      vefLoad := if (s.store.item 33).status = .invalid then some (vefOfItem (s.store.item 33)) else s.vefLoad } := by
    unfold State.computeIfInvalid
    change (if (s.store.item 33).status = .invalid then _ else _) = _
    split <;> rfl
  rw [load]
  unfold State.computeIfInvalid
  change (if (s.store.item 34).status = .invalid then _ else _) = _
  split <;> rfl

/-- The part with its pass made and its INVALID checkpoints dropped. -/
def State.swept (s : State) : State :=
  s.store.pass.invalidCheckpoints.foldl (fun acc p => acc.dropCheckpoint p) (s.setStore s.store.pass)

/-- The part with its verification ended, before a waiting finalize goes on. -/
def State.passEnded (s : State) : State :=
  ((((s.swept).computeIfInvalid .load).computeIfInvalid .discharge).postTo .survey
    (.verified s.store.itemsFailing s.store.recordsFailing s.store.pass.invalidCheckpoints)).setVerify .idle

theorem State.completeVerify_eq {s : State} {began : Nat} (runs : s.store.verify = .running began) :
    s.completeVerify = s.passEnded.resumeWriter.transmitAll := by
  unfold State.completeVerify
  rw [runs]
  rfl

theorem State.passEnded_verified (s : State) : Verified s s.passEnded := by
  obtain ⟨checkpoint, lost, rest⟩ : _ ∧ _ ∧ s.swept = _ :=
    State.dropCheckpoints_spec s.store.pass.invalidCheckpoints (s.setStore s.store.pass)
  have member (p : ParcelNo) := s.store.mem_invalidCheckpoints p
  unfold State.passEnded
  rw [State.computeIfInvalid_eq]
  change ∀ q, s.swept.store.checkpoint q = _ at checkpoint
  change ∀ q, s.swept.restoreLost.get q = _ at lost
  have vefs : s.swept.vefLoad = s.vefLoad ∧ s.swept.vefDischarge = s.vefDischarge := by
    rw [rest]
    exact ⟨rfl, rfl⟩
  generalize s.swept = v at *
  refine ⟨?_, fun p dropped => ⟨?_, ?_⟩, fun p kept => ⟨?_, ?_⟩, ?_, ?_, ?_, ?_⟩
  · change { v.store with verify := .idle } = { s.store.pass with checkpoints := v.store.checkpoints, verify := .idle }
    rw [rest]
    rfl
  · exact (checkpoint p).trans (if_pos ((member p).mpr dropped))
  · exact (lost p).trans (if_pos ((member p).mpr dropped))
  · refine (checkpoint p).trans ((if_neg fun yes => kept ((member p).mp yes)).trans ?_)
    exact (s.store.checkpoint_pass p).trans (Store.verified_of_kept kept)
  · exact (lost p).trans (if_neg fun yes => kept ((member p).mp yes))
  · rw [← vefs.1]
    rfl
  · rw [← vefs.2]
    rfl
  · change v.survey.place ⟨v.clock, _⟩ = _
    rw [rest]
    rfl
  · rw [rest]
    rfl

/-! ### The finalize that waited goes on (R187) -/

theorem State.beginClear_eq (s : State) (p : ParcelNo) (w : ActiveWrite) : s.beginClear p w = s.setStore
    { (s.store.setCheckpoint p { s.store.checkpoint p with status := .invalid }) with
      writer := some { w with kind := .clearCheckpoint, block := 1, blocks := 1, paused := false } } := rfl

/-- The next write of a finalize touches the items, the checkpoints and the write unit alone. -/
theorem State.nextFinalizeWrite_store (s : State) (p : ParcelNo) (x : TransferRecord) (w : ActiveWrite) :
    let t := s.nextFinalizeWrite p x w
    t = s.setStore { s.store with items := t.store.items, checkpoints := t.store.checkpoints, writer := t.store.writer } := by
  unfold State.nextFinalizeWrite State.beginHistory
  cases w.kind with
  | record =>
    cases voyageEntry x with
    | none => rfl
    | some e =>
      simp only [State.markItem, State.setWriter]
      rw [Store.setItem_eq]
      rfl
  | _ => rfl

/-- The write unit that goes on likewise. -/
theorem State.resumeWriter_store (s : State) : let t := s.resumeWriter
    t = s.setStore { s.store with items := t.store.items, checkpoints := t.store.checkpoints, writer := t.store.writer } := by
  unfold State.resumeWriter
  cases s.store.writer with
  | none => rfl
  | some w =>
    obtain ⟨entry, kind, block, blocks, paused, image, check, origins, wordSum, recordStored, historyStored, appended⟩ := w
    cases paused with
    | false => rfl
    | true =>
      cases entry with
      | finalize p x => exact s.nextFinalizeWrite_store p x _
      | _ => rfl

/-- Settles O42: the verification asked for, its pass begun, and what its end makes of the store. -/
theorem verificationWaitsPassesAndEnds : Obligations.VerificationWaitsPassesAndEnds := by
  unfold Obligations.VerificationWaitsPassesAndEnds
  refine ⟨StoredRecord.passes_iff, CheckpointItem.passes_iff, fun s l tag pl serves form => ?asked, fun s waits quiet => ?begins,
    fun s began runs => ?ends⟩
  case asked =>
    obtain ⟨takes, right, idle⟩ := serves
    obtain ⟨store, rest, replied⟩ := serve_stored (r := .verifyStore) (body := reqVerifyStore) (tag := tag) (pl := pl)
      (st := { s.store with verify := .waiting }) (reply := Reply.plain .accepted) takes right (by
        rw [reqVerifyStore, withStore_formed idle (by rw [form]; rfl), State.setVerify, State.hunt_store])
    exact ⟨_, rfl, store, rest, replied⟩
  case begins =>
    have yes : s.store.writerQuiet = true := by
      unfold Store.writerQuiet
      cases unit : s.store.writer with
      | none => rfl
      | some w => exact quiet w unit
    change Host.Outcome.next s.startPass = _
    simp only [State.startPass, waits, yes, if_true]
    rfl
  case ends =>
    obtain ⟨store, dropped, kept, load, discharge, survey, rest⟩ := s.passEnded_verified
    have is := State.completeVerify_eq runs
    generalize s.passEnded = u at *
    refine ⟨_, congrArg Host.Outcome.next is, ?_⟩
    have resumed := u.resumeWriter_store
    have untouched : s.store.writer = none → u.resumeWriter = u := fun none => by
      have unit : u.store.writer = .none := by rw [store]; exact none
      simp only [State.resumeWriter, unit]
    set t := u.resumeWriter
    have tStore : t.store = { u.store with items := t.store.items, checkpoints := t.store.checkpoints, writer := t.store.writer } :=
      congrArg State.store resumed
    have lost : t.restoreLost = u.restoreLost := by rw [resumed]; rfl
    have vefs : t.vefLoad = u.vefLoad ∧ t.vefDischarge = u.vefDischarge := by rw [resumed]; exact ⟨rfl, rfl⟩
    have links : t.ship = s.ship ∧ t.shore = s.shore ∧ t.survey = u.survey := by rw [resumed, rest]; exact ⟨rfl, rfl, rfl⟩
    refine ⟨?_, ?_, ?_, ?_, fun none => ?_, fun p drop => ?_, fun p keep => ?_, fun none invalid => ?_, fun none other => ?_,
      fun none invalid => ?_, fun none other => ?_, ?_, ?_, ?_, ?_⟩
    · change t.store.verify = _
      rw [tStore, store]
    · change t.store.queue = _
      rw [tStore, store]
      rfl
    · change t.store.nextSeq = _
      rw [tStore, store]
      rfl
    · change t.store.records = _
      rw [tStore, store]
      rfl
    · change PassMade s.store t.store ∧ t.store.writer = .none ∧ (∀ p, _ → t.store.checkpoint p = _) ∧ ∀ p, _ → t.store.checkpoint p = _
      rw [untouched none]
      refine ⟨?_, by rw [store]; exact none, fun p drop => (dropped p drop).1, fun p keep => (kept p keep).1⟩
      rw [store]
      exact s.store.pass_made
    · exact (congrArg (·.get p) lost).trans (dropped p drop).2
    · exact (congrArg (·.get p) lost).trans (kept p keep).2
    all_goals
      try
        change (t.store.item _).status = _ at invalid
        rw [untouched none] at invalid
      try
        change ¬(t.store.item _).status = _ at other
        rw [untouched none] at other
    · refine vefs.1.trans (load.trans ((if_pos invalid).trans ?_))
      simp only [vefOfItem, invalid]
    · exact vefs.1.trans (load.trans (if_neg other))
    · refine vefs.2.trans (discharge.trans ((if_pos invalid).trans ?_))
      simp only [vefOfItem, invalid]
    · exact vefs.2.trans (discharge.trans (if_neg other))
    · exact congrArg LinkState.transmit links.1
    · exact congrArg LinkState.transmit links.2.1
    · exact ⟨_, _, _, congrArg LinkState.transmit (links.2.2.trans survey), s.store.mem_itemsFailing, rfl,
        s.store.mem_invalidCheckpoints⟩
    · change t.transmitAll = _
      rw [resumed, rest]
      rfl

end Sys2Proof.Machine
end

section
/-!
PROOFS. The three writes of a finalize (R154, R155, R165, R166, R184, R187).
-/

namespace Sys2Proof.Machine

theorem voyageEntry_iff (x : TransferRecord) (a b : Int) : voyageEntry x = some (a, b) ↔ x.cause = none ∧ x.ship = some a
    ∧ x.shore = some b ∧ 100000 ≤ a ∧ a ≤ 999999999 ∧ 100000 ≤ b ∧ b ≤ 999999999 := by
  unfold voyageEntry
  split
  next ship shore agreed isShip isShore =>
    rw [agreed, isShip, isShore, ← and_assoc (a := 100000 ≤ a), ← inRange_iff, ← inRange_iff]
    constructor
    · intro found
      split at found
      next ranges =>
        cases found
        rw [Bool.and_eq_true] at ranges
        exact ⟨rfl, rfl, rfl, ranges⟩
      next => cases found
    · rintro ⟨-, isA, isB, ranges⟩
      cases isA
      cases isB
      rw [if_pos (Bool.and_eq_true _ _ ▸ ranges)]
  next other => exact ⟨nofun, fun ⟨agreed, isShip, isShore, _⟩ => (other a b agreed isShip isShore).elim⟩

theorem historyId_bounds (d : Direction) : 1 ≤ historyId d ∧ historyId d ≤ 34 := by cases d <;> decide

/-! ### The writes a finalize begins (R154) -/

/-- The item of the history a record's voyage would join. -/
def TransferRecord.history (x : TransferRecord) : Nat := historyId ((x.decl.map (·.direction)).getD .load)

/-- `t` is `s` with the write of the changed history begun. -/
structure HistoryBegun (s t : State) (w : ActiveWrite) (x : TransferRecord) (e : Int × Int) : Prop where
  unit : ∃ v, t.store.writer = some v ∧ v.kind = .history ∧ v.block = 1 ∧ v.paused = false ∧ v.entry = w.entry
    ∧ v.recordStored = w.recordStored ∧ v.appended = true ∧ v.image = historyImage (appendedEntries (s.store.item x.history) e)
  invalid : (t.store.item x.history).status = .invalid

/-- `t` has the clear of the checkpoint begun. -/
structure ClearBegun (t : State) (w : ActiveWrite) (p : ParcelNo) : Prop where
  unit : ∃ v, t.store.writer = some v ∧ v.kind = .clearCheckpoint ∧ v.block = 1 ∧ v.blocks = 1 ∧ v.paused = false
    ∧ v.entry = w.entry ∧ v.recordStored = w.recordStored ∧ v.historyStored = w.historyStored ∧ v.appended = w.appended
  invalid : (t.store.checkpoint p).status = .invalid

theorem State.beginClear_begun (s : State) (p : ParcelNo) (w : ActiveWrite) : ClearBegun (s.beginClear p w) w p where
  unit := ⟨_, rfl, rfl, rfl, rfl, rfl, rfl, rfl, rfl, rfl⟩
  invalid := by
    rw [State.beginClear_eq]
    exact congrArg CheckpointItem.status (Store.checkpoint_setCheckpoint_same s.store p _)

theorem State.beginHistory_begun (s : State) (p : ParcelNo) {x : TransferRecord} {e : Int × Int} (w : ActiveWrite)
    (voyage : voyageEntry x = some e) : HistoryBegun s (s.beginHistory p x w) w x e := by
  unfold State.beginHistory
  rw [voyage]
  obtain ⟨low, high⟩ := historyId_bounds ((x.decl.map (·.direction)).getD .load)
  exact ⟨⟨_, rfl, rfl, rfl, rfl, rfl, rfl, rfl, rfl⟩, congrArg Item.status (Store.item_setItem_same s.store low high _)⟩

theorem State.beginHistory_none (s : State) (p : ParcelNo) {x : TransferRecord} (w : ActiveWrite) (voyage : voyageEntry x = none) :
    s.beginHistory p x w = s.beginClear p { w with historyStored := true, appended := false } := by
  unfold State.beginHistory
  rw [voyage]

theorem State.nextFinalizeWrite_of_record (s : State) (p : ParcelNo) (x : TransferRecord) {w : ActiveWrite} (kind : w.kind = .record) :
    s.nextFinalizeWrite p x w = s.beginHistory p x w := by
  unfold State.nextFinalizeWrite
  rw [kind]

theorem State.nextFinalizeWrite_of_history (s : State) (p : ParcelNo) (x : TransferRecord) {w : ActiveWrite} (kind : w.kind = .history) :
    s.nextFinalizeWrite p x w = s.beginClear p w := by
  unfold State.nextFinalizeWrite
  rw [kind]

theorem State.continueFinalize_idle {s : State} (p : ParcelNo) (x : TransferRecord) (w : ActiveWrite) (idle : s.store.verify = .idle) :
    s.continueFinalize p x w = s.nextFinalizeWrite p x w := by
  unfold State.continueFinalize
  rw [idle]

theorem State.continueFinalize_waits {s : State} (p : ParcelNo) (x : TransferRecord) (w : ActiveWrite) (busy : s.store.verify ≠ .idle) :
    s.continueFinalize p x w = s.setWriter (some { w with paused := true }) := by
  unfold State.continueFinalize
  split
  next idle => exact (busy idle).elim
  next => rfl

theorem State.continueFinalize_store (s : State) (p : ParcelNo) (x : TransferRecord) (w : ActiveWrite) :
    let t := s.continueFinalize p x w
    t = s.setStore { s.store with items := t.store.items, checkpoints := t.store.checkpoints, writer := t.store.writer } := by
  unfold State.continueFinalize
  split
  · exact s.nextFinalizeWrite_store p x w
  · rfl

/-! ### The ends of the three writes -/

/-- The part once a history write has ended, before the next write. -/
def State.historyEnded (s : State) (w : ActiveWrite) (d : Direction) (good : Bool) : State :=
  (s.settleItem (historyId d) (if good then .valid else .invalid) w (s.store.item (historyId d)).commitPending).computeVef d

section
variable {s : State} {w : ActiveWrite} {p : ParcelNo} {x : TransferRecord} (entry : w.entry = .finalize p x) (good : Bool)
include entry

theorem State.endWrite_record (kind : w.kind = .record) : s.endWrite w good
    = (s.setStore { s.store with records := settleRecord s.store.records good }).continueFinalize p x { w with recordStored := good } := by
  simp only [State.endWrite, entry, kind]

theorem State.endWrite_history (kind : w.kind = .history) : s.endWrite w good
    = (s.historyEnded w ((x.decl.map (·.direction)).getD .load) good).continueFinalize p x { w with historyStored := good } := by
  simp only [State.endWrite, entry, kind]
  rfl

theorem State.endWrite_clear (kind : w.kind = .clearCheckpoint) : s.endWrite w good
    = (if good then s.setStore (s.store.setCheckpoint p CheckpointItem.delivered) else s).finishFinalize p x w good := by
  simp only [State.endWrite, entry, kind]

end

theorem State.link_of_store {s t : State} {st : Store} (is : t = s.setStore st) (m : Link) : t.transmitAll.link m = (s.link m).transmit := by
  rw [is]
  cases m <;> rfl

theorem State.parcels_of_store {s t : State} {st : Store} (is : t = s.setStore st) : t.transmitAll.parcels = s.parcels := by
  rw [is]
  rfl

/-- The end of a finalize. -/
theorem State.finishFinalize_spec (s : State) (p : ParcelNo) (x : TransferRecord) (w : ActiveWrite) (cleared : Bool) :
    let t := (s.finishFinalize p x w cleared).transmitAll
    t.store = { s.store with writer := none } ∧ t.parcel p = { s.parcel p with finalizePending := false } ∧ OtherParcels p s t
      ∧ Posted s t [.outcomeStored p x.seq x.cause w.appended w.recordStored w.historyStored cleared]
      ∧ t = { s with parcels := t.parcels, store := t.store, ship := t.ship, shore := t.shore, survey := t.survey } :=
  ⟨rfl, State.parcel_setParcel_same _ _ _, fun _ ne => State.parcel_setParcel_ne _ ne _, fun m => by cases m <;> rfl, rfl⟩

/-- The history as the end of its write leaves it. -/
theorem State.settleItem_history (s : State) (w : ActiveWrite) {id : Nat} (low : 1 ≤ id) (high : id ≤ 34) (good : Bool) :
    (s.settleItem id (if good then .valid else .invalid) w (s.store.item id).commitPending).store.item id = (if good then
        { s.store.item id with status := .valid, image := w.image, check := w.check, origins := w.origins }
      else { s.store.item id with status := .invalid }) := by
  refine (Store.item_setItem_same s.store low high _).trans ?_
  cases good <;> rfl

theorem State.settleItem_eq (s : State) (id : Nat) (y : Status) (w : ActiveWrite) (pending : Bool) :
    let t := s.settleItem id y w pending
    t = s.setStore { s.store with items := t.store.items } := by
  intro t
  exact congrArg s.setStore (Store.setItem_eq s.store id _)

/-- What the end of the history write leaves for the next write. -/
theorem State.historyEnded_spec (s : State) (w : ActiveWrite) (d : Direction) (good : Bool) :
    let t := s.historyEnded w d good
    t.store.item (historyId d) = (if good then
        { s.store.item (historyId d) with status := .valid, image := w.image, check := w.check, origins := w.origins }
      else { s.store.item (historyId d) with status := .invalid })
      ∧ t.vef d = some (vefOfItem (t.store.item (historyId d)))
      ∧ t.store = { s.store with items := t.store.items } ∧ t.parcels = s.parcels ∧ ∀ m, t.link m = s.link m := by
  obtain ⟨low, high⟩ := historyId_bounds d
  unfold State.historyEnded
  have item := s.settleItem_history w low high good
  have eq := s.settleItem_eq (historyId d) (if good then .valid else .invalid) w (s.store.item (historyId d)).commitPending
  generalize s.settleItem (historyId d) (if good then .valid else .invalid) w (s.store.item (historyId d)).commitPending = v at *
  have store : v.store = { s.store with items := v.store.items } := congrArg State.store eq
  have parcels : v.parcels = s.parcels := by rw [eq]; rfl
  have links (m : Link) : v.link m = s.link m := by
    rw [eq]
    cases m <;> rfl
  cases d with
  | load => exact ⟨item, rfl, store, parcels, links⟩
  | discharge => exact ⟨item, rfl, store, parcels, links⟩

theorem HistoryBegun.of_verified {s u t : State} {w : ActiveWrite} {x : TransferRecord} {e : Int × Int}
    (verified : u.store.item x.history = (s.store.item x.history).verified) (begun : HistoryBegun u t w x e) :
    ∃ v, t.store.writer = some v ∧ (v.block = 1 ∧ v.paused = false ∧ v.entry = w.entry ∧ v.recordStored = w.recordStored)
      ∧ v.kind = .history ∧ v.appended = true ∧ v.image = historyImage (appendedEntries (s.store.item x.history).verified e) := by
  obtain ⟨v, is, kind, block, paused, entry, record, appended, image⟩ := begun.unit
  exact ⟨v, is, ⟨block, paused, entry, record⟩, kind, appended, verified ▸ image⟩

section
variable {s : State} {w : ActiveWrite} {p : ParcelNo} {x : TransferRecord} {equal : Bool} {t : State}

/-- A finalize that a verification kept waiting is gone on with at its end. -/
theorem State.completeVerify_resumes {began : Nat} (runs : s.store.verify = .running began) (unit : s.store.writer = some w)
    (waits : w.paused = true) (entry : w.entry = .finalize p x) :
    s.completeVerify = (s.passEnded.nextFinalizeWrite p x w).transmitAll := by
  rw [State.completeVerify_eq runs]
  have same : s.passEnded.store.writer = some w := by rw [s.passEnded_verified.store]; exact unit
  simp only [State.resumeWriter, same, waits, entry]

end

/-- What the next write of a finalize, begun or waiting, leaves as it was. -/
theorem State.continueFinalize_kept (u : State) (p : ParcelNo) (x : TransferRecord) (v : ActiveWrite) :
    let t := (u.continueFinalize p x v).transmitAll
    t.store.records = u.store.records ∧ t.parcels = u.parcels ∧ ∀ m, t.link m = (u.link m).transmit := by
  have only := u.continueFinalize_store p x v
  refine ⟨?_, State.parcels_of_store only, State.link_of_store only⟩
  have records := congrArg (fun v : State => v.store.records) only
  exact records

theorem State.nextFinalizeWrite_kept (u : State) (p : ParcelNo) (x : TransferRecord) (v : ActiveWrite) :
    let t := (u.nextFinalizeWrite p x v).transmitAll
    t.store.verify = u.store.verify ∧ t.store.queue = u.store.queue := by
  have only := u.nextFinalizeWrite_store p x v
  have verify := congrArg (fun v : State => v.store.verify) only
  have queue := congrArg (fun v : State => v.store.queue) only
  exact ⟨verify, queue⟩

/-- The record's write ended: the next write waits with a verification, or is begun. -/
theorem State.recordEnded_goes_on {u : State} {p : ParcelNo} {x : TransferRecord} {v : ActiveWrite} (kind : v.kind = .record)
    (idle : u.store.verify = .idle) : (∀ e, voyageEntry x = some e → HistoryBegun u (u.continueFinalize p x v).transmitAll v x e)
      ∧ (voyageEntry x = none →
        ClearBegun (u.continueFinalize p x v).transmitAll { v with historyStored := true, appended := false } p) := by
  rw [State.continueFinalize_idle p x v idle, u.nextFinalizeWrite_of_record p x kind]
  refine ⟨fun e voyage => ?_, fun none => ?_⟩
  · obtain ⟨begun, invalid⟩ := u.beginHistory_begun p v voyage
    exact ⟨begun, invalid⟩
  · rw [u.beginHistory_none p v none]
    obtain ⟨begun, invalid⟩ := u.beginClear_begun p { v with historyStored := true, appended := false }
    exact ⟨begun, invalid⟩

/-- Settles O45: each write of a finalize ended, and the write a verification kept waiting. -/
theorem finalizeGoesThroughItsWrites : Obligations.FinalizeGoesThroughItsWrites := by
  unfold Obligations.FinalizeGoesThroughItsWrites
  refine ⟨voyageEntry_iff, rfl, rfl, Item.verified_eq, fun s w p x equal unit works entry last => ?writes,
    fun s w p x began runs unit waits entry => ?resumes⟩
  case writes =>
    have ends : exec (.blockWriteDone equal) s = .next _ := congrArg Host.Outcome.next (State.blockDone_ends unit works last)
    refine ⟨fun kind => ?record, fun kind => ?clear, fun kind idle => ?history, fun kind busy => ?waits⟩
    case record =>
      rw [State.endWrite_record entry equal kind] at ends
      set v : ActiveWrite := { w with recordStored := equal }
      set u := s.setStore { s.store with records := settleRecord s.store.records equal } with isU
      obtain ⟨records, parcels, links⟩ := u.continueFinalize_kept p x v
      have goes (idle : s.store.verify = .idle) := State.recordEnded_goes_on (u := u) (p := p) (x := x) (v := v) kind idle
      refine ⟨_, ends, records, fun busy => ?_, fun idle e voyage => ?_, fun idle none => ?_, parcels, fun m => ?_⟩
      · rw [State.continueFinalize_waits (s := u) p x v busy]
        rfl
      · obtain ⟨⟨b, is, kind, block, paused, entry, stored, appended, image⟩, invalid⟩ := (goes idle).1 e voyage
        exact ⟨b, is, kind, block, paused, entry, stored, appended, image, invalid⟩
      · obtain ⟨⟨b, is, kind, block, blocks, paused, entry, record, history, appended⟩, invalid⟩ := (goes idle).2 none
        exact ⟨⟨b, is, kind, block, blocks, paused, entry, record, history, appended⟩, invalid⟩
      · rw [links, isU]
        cases m <;> rfl
    case clear =>
      rw [State.endWrite_clear entry equal kind] at ends
      cases equal with
      | false =>
        obtain ⟨store, parcel, others, posted, rest⟩ := s.finishFinalize_spec p x w false
        refine ⟨_, ends, congrArg Store.writer store, congrArg (·.checkpoint p) store, parcel, others, posted, store, rest⟩
      | true =>
        rw [if_pos rfl] at ends
        obtain ⟨store, parcel, others, posted, rest⟩ :=
          (s.setStore (s.store.setCheckpoint p CheckpointItem.delivered)).finishFinalize_spec p x w true
        refine ⟨_, ends, congrArg Store.writer store, ?_, parcel, others, fun m => ?_, store, rest⟩
        · exact (congrArg (·.checkpoint p) store).trans (Store.checkpoint_setCheckpoint_same s.store p _)
        · rw [posted m]
          cases m <;> rfl
    case history =>
      intro d
      rw [State.endWrite_history entry equal kind] at ends
      obtain ⟨item, vef, store, parcels, links⟩ := s.historyEnded_spec w d equal
      change exec _ s = .next (State.transmitAll ((s.historyEnded w d equal).continueFinalize p x _)) at ends
      generalize s.historyEnded w d equal = u at *
      have verify : u.store.verify = .idle := by rw [store]; exact idle
      rw [State.continueFinalize_idle p x _ verify, u.nextFinalizeWrite_of_history p x (w := { w with historyStored := equal }) kind] at ends
      obtain ⟨⟨b, is, kind, block, blocks, paused, entry, record, history, appended⟩, invalid⟩ :=
        u.beginClear_begun p { w with historyStored := equal }
      refine ⟨_, ends, item, ?_, ⟨b, is, kind, block, paused, entry, history, record⟩, invalid, parcels, fun m => ?_⟩
      · refine Eq.trans ?_ vef
        generalize d = c
        cases c <;> rfl
      · refine Eq.trans ?_ (congrArg LinkState.transmit (links m))
        cases m <;> rfl
    case waits =>
      rw [State.endWrite_history entry equal kind] at ends
      obtain ⟨-, -, store, parcels, links⟩ := s.historyEnded_spec w ((x.decl.map (·.direction)).getD .load) equal
      generalize s.historyEnded w ((x.decl.map (·.direction)).getD .load) equal = u at *
      have verify : u.store.verify ≠ .idle := by rw [store]; exact busy
      rw [State.continueFinalize_waits p x _ verify] at ends
      have kept : u.store.checkpoints = s.store.checkpoints := by rw [store]
      refine ⟨_, ends, rfl, kept, parcels, fun m => ?_⟩
      refine Eq.trans ?_ (congrArg LinkState.transmit (links m))
      cases m <;> rfl
  case resumes =>
    intro next begun id
    have is : exec .verifyComplete s = .next _ := congrArg Host.Outcome.next (State.completeVerify_resumes runs unit waits entry)
    have verified := s.passEnded_verified
    have item : s.passEnded.store.item x.history = (s.store.item x.history).verified :=
      (congrArg (·.item x.history) verified.store).trans (s.store.item_pass _)
    obtain ⟨phase, queue⟩ := s.passEnded.nextFinalizeWrite_kept p x w
    have ended : next (s.passEnded.nextFinalizeWrite p x w).transmitAll :=
      ⟨is, phase.trans (by rw [verified.store]), queue.trans (by rw [verified.store]; rfl)⟩
    clear is phase queue
    clear_value next
    generalize s.passEnded = u at *
    refine ⟨fun kind e voyage => ⟨_, ended, ?_⟩, fun kind none => ⟨_, ended, ?_⟩, fun kind => ⟨_, ended, ?_⟩⟩
    · rw [u.nextFinalizeWrite_of_record p x kind]
      have history := u.beginHistory_begun p w voyage
      exact ⟨history.invalid, HistoryBegun.of_verified (t := u.beginHistory p x w) item history⟩
    · rw [u.nextFinalizeWrite_of_record p x kind, u.beginHistory_none p w none]
      obtain ⟨⟨b, is, kind, block, blocks, paused, entry, record, history, appended⟩, invalid⟩ :=
        u.beginClear_begun p { w with historyStored := true, appended := false }
      exact ⟨invalid, b, is, ⟨block, paused, entry, record⟩, kind, blocks, history, appended⟩
    · rw [u.nextFinalizeWrite_of_history p x kind]
      obtain ⟨⟨b, is, kind, block, blocks, paused, entry, record, history, appended⟩, invalid⟩ := u.beginClear_begun p w
      exact ⟨invalid, b, is, ⟨block, paused, entry, record⟩, kind, blocks, history, appended⟩

end Sys2Proof.Machine
end

section
/-!
PROOFS. The discrete inputs: the loops as they are read, and a change of SPARE or of an opening valve (R206 to R208).
-/

namespace Sys2Proof.Machine

theorem levelOf_eq (straps : Straps) (i : InputName) (current : Bool) :
    levelOf straps i current = if i = .esd ∧ straps.esdPol = false then !current else current := by
  cases i with
  | esd => cases isPol : straps.esdPol <;> simp [levelOf, isPol]
  | _ => rfl

section
variable (x : InputState) (straps : Straps) (i : InputName) {c : Nat} (now : Nat)

theorem InputState.sample_current (current : 4000 ≤ c) : (x.sample straps i c now).lastRead = some (levelOf straps i true) := by
  simp only [InputState.sample, currentOf, current, if_true]

theorem InputState.sample_none (none : c ≤ 1000) : (x.sample straps i c now).lastRead = some (levelOf straps i false) := by
  simp only [InputState.sample, currentOf, none, if_true, if_neg (show ¬4000 ≤ c by omega)]

theorem InputState.sample_between (low : 1000 < c) (high : c < 4000) : (x.sample straps i c now).lastRead = x.lastRead := by
  simp only [InputState.sample, currentOf, if_neg (Nat.not_le.mpr low), if_neg (Nat.not_le.mpr high)]

/-- The level a loop is read at is the one last read, or the recognized one. -/
theorem InputState.reads_eq (c : Nat) : x.reads straps i c = (x.sample straps i c now).lastRead.getD x.level := by
  simp only [InputState.sample, InputState.reads]
  cases currentOf c <;> rfl

end

/-- Settles O53: a loop's reading by its three ranges, and the two inputs that feed nothing. -/
theorem inputsAreRecognized : Obligations.InputsAreRecognized := by
  unfold Obligations.InputsAreRecognized
  refine ⟨fun s i c => ?_, fun s i since candidate stood which => ?_⟩
  · intro old level
    have isLevel (current : Bool) : level current = levelOf s.straps i current := (levelOf_eq s.straps i current).symm
    obtain ⟨moves, drops, stays⟩ := old.sample_candidate s.straps i c s.msec
    rw [old.reads_eq s.straps i s.msec c] at moves drops stays
    refine ⟨_, old.sample s.straps i c s.msec, rfl, rfl, rfl, rfl, fun current => ?_, fun none => ?_, fun low high => ?_, moves,
      fun same => ⟨fun none => ?_, fun since is => ⟨fun short => ?_, fun stood => ?_⟩⟩⟩
    · rw [isLevel, old.sample_current s.straps i s.msec current]
    · rw [isLevel, old.sample_none s.straps i s.msec none]
    · exact old.sample_between s.straps i s.msec low high
    · exact drops same (by rw [InputState.due, none])
    · refine drops same (Bool.eq_false_iff.mpr fun due => ?_)
      obtain ⟨_, is', stood⟩ := (old.due_iff s.msec).mp due
      cases is.symm.trans is'
      omega
    · exact (stays same ((old.due_iff s.msec).mpr ⟨since, is, stood⟩)).trans is
  · have due := ((s.lines.input i).due_iff s.msec).mpr ⟨since, candidate, stood⟩
    have is : exec (.inputChange i) s = .next _ := congrArg Host.Outcome.next (by rw [State.recognize, if_pos due])
    dsimp only at is
    have feeds (u : State) : u.feedInput i (!(s.lines.input i).level) = u := by
      obtain rfl | ⟨n, rfl, level⟩ := which
      · rfl
      · rw [level]
        rfl
    rw [feeds] at is
    exact ⟨_, is, rfl, fun m => by cases m <;> rfl, rfl⟩

end Sys2Proof.Machine
end

section
/-!
PROOFS. The part's arithmetic: its division, lookups, rates and factors (R57, R61 to R64, R72 to R76, R92).
-/

namespace Sys2Proof.Machine

/-! ### The rows of an image (section 10.2) -/

theorem rowsAt_eq (f : RowForm) (img : List Byte) (off n : Nat) : rowsAt f img off n
    = (List.range n).map (fun k => (f.key img (off + f.rowLen * k), f.value img (off + f.rowLen * k + 2))) := by
  induction n generalizing off with
  | zero => rfl
  | succ n ih =>
    rw [rowsAt, ih, List.range_succ_eq_map, List.map_cons, List.map_map]
    refine congrArg (List.cons _) (List.map_congr_left fun k _ => ?_)
    simp only [Function.comp_apply, show off + f.rowLen + f.rowLen * k = off + f.rowLen * (k + 1) by ring]

/-! ### The division (R61) -/

/-- The quotient of a figure that is not negative lies within half a divisor of it, above it at a half. -/
theorem roundDiv_bounds {n d : Int} (figure : 0 ≤ n) (divisor : 0 < d) :
    2 * n - d < 2 * (roundDiv n d * d) ∧ 2 * (roundDiv n d * d) ≤ 2 * n + d := by
  have quotient := Int.mul_ediv_self_le (x := 2 * n + d) (k := 2 * d) (by omega)
  have remainder := Int.lt_mul_ediv_self_add (x := 2 * n + d) (k := 2 * d) (by omega)
  have product : 2 * d * ((2 * n + d) / (2 * d)) = 2 * (roundDiv n d * d) := by
    rw [roundDiv, if_pos figure]
    ring
  omega

theorem roundDiv_nonneg {n d : Int} (figure : 0 ≤ n) (divisor : 0 < d) : 0 ≤ roundDiv n d := by
  rw [roundDiv, if_pos figure]
  exact Int.ediv_nonneg (by omega) (by omega)

theorem roundDiv_zero {d : Int} (divisor : 0 < d) : roundDiv 0 d = 0 := by
  rw [roundDiv, if_pos (Int.le_refl 0)]
  exact Int.ediv_eq_zero_of_lt (by omega) (by omega)

theorem roundDiv_nearest_of_nonneg {n d : Int} (figure : 0 ≤ n) (divisor : 0 < d) :
    2 * (roundDiv n d * d - n).natAbs ≤ d.natAbs
      ∧ (2 * (roundDiv n d * d - n).natAbs = d.natAbs → n.natAbs < (roundDiv n d * d).natAbs) := by
  obtain ⟨above, below⟩ := roundDiv_bounds figure divisor
  generalize roundDiv n d * d = product at *
  omega

theorem roundDiv_nearest (n : Int) {d : Int} (divisor : 0 < d) : 2 * (roundDiv n d * d - n).natAbs ≤ d.natAbs
    ∧ (2 * (roundDiv n d * d - n).natAbs = d.natAbs → n.natAbs < (roundDiv n d * d).natAbs) := by
  obtain figure | figure := Int.le_total 0 n
  · exact roundDiv_nearest_of_nonneg figure divisor
  · have nearest := roundDiv_nearest_of_nonneg (Int.neg_nonneg.mpr figure) divisor
    rw [roundDiv_neg n divisor, Int.neg_mul] at nearest
    generalize roundDiv n d * d = product at *
    omega

/-- The quotient of a multiple of the divisor. -/
theorem roundDiv_mul_self (v : Int) {d : Int} (divisor : 0 < d) : roundDiv (v * d) d = v := by
  have near := (roundDiv_nearest (v * d) divisor).1
  have product : roundDiv (v * d) d * d - v * d = (roundDiv (v * d) d - v) * d := by ring
  rw [product, Int.natAbs_mul] at near
  generalize roundDiv (v * d) d = q at *
  by_contra apart
  have least : 1 * d.natAbs ≤ (q - v).natAbs * d.natAbs := Nat.mul_le_mul_right _ (by omega)
  omega

/-! ### A section interpolated (R63, R64) -/

/-- Rows with keys below `x` are passed. -/
theorem interpFrom_passes {x : Int} {before : List (Int × Int)} (passed : ∀ row ∈ before, row.1 < x) (k0 v0 : Int) {k : Int} (below : k < x)
    (v : Int) (after : List (Int × Int)) : interpFrom k0 v0 (before ++ (k, v) :: after) x = interpFrom k v after x := by
  induction before generalizing k0 v0 with
  | nil => exact if_neg (Int.not_le.mpr below)
  | cons row before ih =>
    rw [List.forall_mem_cons] at passed
    exact (if_neg (Int.not_le.mpr passed.1)).trans (ih passed.2 row.1 row.2)

theorem interp_passes {x : Int} {before : List (Int × Int)} (passed : ∀ row ∈ before, row.1 < x) {k : Int} (below : k < x) (v : Int)
    (after : List (Int × Int)) : interp (before ++ (k, v) :: after) x = interpFrom k v after x := by
  cases before with
  | nil => exact if_neg (Int.not_lt.mpr below.le)
  | cons row before =>
    rw [List.forall_mem_cons] at passed
    exact (if_neg (Int.not_lt.mpr passed.1.le)).trans (interpFrom_passes passed.2 row.1 row.2 below v after)

section
variable {rows before after : List (Int × Int)} {k v x : Int}

theorem interp_below (is : rows = (k, v) :: after) (below : x < k) : interp rows x = ⟨v, true⟩ := by
  rw [is]
  exact if_pos below

theorem passed_of_ascending (ascending : (before ++ (k, v) :: after).Pairwise (fun a b => a.1 < b.1)) (reached : k ≤ x) :
    ∀ row ∈ before, row.1 < x :=
  fun row mem => ((List.pairwise_append.mp ascending).2.2 row mem (k, v) List.mem_cons_self).trans_le reached

variable (ascending : rows.Pairwise (fun a b => a.1 < b.1))
include ascending

theorem interp_above (is : rows = before ++ [(k, v)]) (above : k < x) : interp rows x = ⟨v, true⟩ := by
  subst is
  rw [interp_passes (passed_of_ascending ascending above.le) above v, interpFrom, decide_eq_true above]

/-- At a row's key a section gives its value. -/
theorem interp_at (is : rows = before ++ (k, v) :: after) : interp rows k = ⟨v, false⟩ := by
  subst is
  obtain rfl | ⟨earlier, row, rfl⟩ := before.eq_nil_or_concat
  · refine (if_neg (Int.lt_irrefl k)).trans ?_
    cases after with
    | nil => rw [interpFrom, decide_eq_false (Int.lt_irrefl k)]
    | cons next after =>
      have rising : k < next.1 := (List.pairwise_cons.mp ascending).1 next List.mem_cons_self
      rw [interpFrom, if_pos rising.le, Int.sub_self, Int.mul_zero, roundDiv_zero (by omega), Int.add_zero]
  · have rising : row.1 < k := passed_of_ascending ascending (Int.le_refl k) row (by simp)
    have passed : ∀ r ∈ earlier, r.1 < k := fun r mem => passed_of_ascending ascending (Int.le_refl k) r (by simp [mem])
    rw [List.concat_eq_append, List.append_assoc, List.singleton_append, interp_passes passed rising, interpFrom,
      if_pos (Int.le_refl k), roundDiv_mul_self _ (by omega), add_sub_cancel]

theorem interp_between {k0 v0 k1 v1 : Int} (is : rows = before ++ (k0, v0) :: (k1, v1) :: after) (low : k0 ≤ x) (high : x ≤ k1) :
    interp rows x = ⟨v0 + roundDiv ((v1 - v0) * (x - k0)) (k1 - k0), false⟩ := by
  have passed : ∀ row ∈ before, row.1 < x := passed_of_ascending (is ▸ ascending) low
  obtain rfl | past := low.eq_or_lt
  · have rising : k0 < k1 := by
      rw [is] at ascending
      exact (List.pairwise_cons.mp (List.pairwise_append.mp ascending).2.1).1 (k1, v1) List.mem_cons_self
    rw [interp_at ascending is, Int.sub_self, Int.mul_zero, roundDiv_zero (by omega), Int.add_zero]
  · rw [is, interp_passes passed past, interpFrom, if_pos high]

end

/-! ### The rate over a ring (R57) -/

section
variable (a b : MeterEntry) (between : List MeterEntry)

theorem age_eq_zero {at_ t : Instant} : age at_ t = 0 ↔ t = at_ := by
  unfold age
  bv_omega

theorem ringRate_of_total {x y : Nat} (first : a.reading.total = some x) (last : b.reading.total = some y)
    (apart : a.reading.arrival ≠ b.reading.arrival) : ringRate (a :: between ++ [b])
      = some (roundDiv ((totalDelta y x : Int) * 600) (age b.reading.arrival a.reading.arrival : Int)).toNat := by
  have oldest : (a :: between ++ [b]).head? = some a := rfl
  have newest : (a :: between ++ [b]).getLast? = some b := List.getLast?_concat
  have many : 2 ≤ (a :: between ++ [b]).length := by simp
  have moved : age b.reading.arrival a.reading.arrival ≠ 0 := mt age_eq_zero.mp apart
  simp only [ringRate, oldest, newest, first, last]
  exact if_pos ⟨many, moved⟩

theorem ringRate_none (lacks : a.reading.total = none ∨ b.reading.total = none ∨ a.reading.arrival = b.reading.arrival) :
    ringRate (a :: between ++ [b]) = none := by
  have oldest : (a :: between ++ [b]).head? = some a := rfl
  have newest : (a :: between ++ [b]).getLast? = some b := List.getLast?_concat
  simp only [ringRate, oldest, newest]
  obtain first | last | still := lacks
  · simp only [first]
  · cases a.reading.total <;> simp only [last]
  · split
    next => exact if_neg fun ⟨_, moved⟩ => moved (age_eq_zero.mpr still)
    next => rfl

end

/-! ### The factors (R72 to R76, R92) -/

theorem limitFactor_eq (v : Int) : limitFactor v = max 850000 (min 1150000 v) := by
  unfold limitFactor
  split
  · omega
  · split <;> omega

/-- A factor within the limits is the factor itself, and one beyond them is brought to the nearer. -/
theorem limitFactor_cases (v : Int) : (850000 ≤ v → v ≤ 1150000 → limitFactor v = v ∧ decide (limitFactor v ≠ v) = false)
    ∧ (v < 850000 → limitFactor v = 850000 ∧ decide (limitFactor v ≠ v) = true)
    ∧ (1150000 < v → limitFactor v = 1150000 ∧ decide (limitFactor v ≠ v) = true) := by
  rw [limitFactor_eq, decide_eq_true_iff, decide_eq_false_iff_not]
  omega

section
variable (b : Basis) (expansion : List (Int × Int)) (temp : Int)

theorem rawFactor_clamped :
    (rawFactor b expansion temp).clamped = if b.method = .tab then (interp expansion temp).clamped else false := by
  unfold rawFactor
  cases b.method <;> rfl

theorem rawFactor_of_tab (tab : b.method = .tab) : rawFactor b expansion temp = interp expansion temp := by
  unfold rawFactor
  rw [tab]

/-- At the reference temperature the other two methods give 1. -/
theorem rawFactor_at_reference (method : b.method ≠ .tab) (at_ : temp = b.refTemp) : rawFactor b expansion temp = ⟨1000000, false⟩ := by
  have none : temp - b.refTemp = 0 := by omega
  unfold rawFactor
  dsimp only
  rw [none, Int.mul_zero, roundDiv_zero (by omega)]
  cases is : b.method with
  | tab => exact (method is).elim
  | _ => rfl

end

theorem pressureFactor_on {b : Basis} (on : b.pressure = .on) (p : Nat) :
    pressureFactor b p = 1000000 + roundDiv (b.compress * p) 100 := by
  rw [pressureFactor, on]

/-- Within the ranges of the fields the pressure factor lies within 1,000,000..1,012,500. -/
theorem pressureFactor_bounds {b : Basis} (on : b.pressure = .on) {p : Nat} (compress : b.compress ≤ 500) (pressure : p ≤ 2500) :
    1000000 ≤ pressureFactor b p ∧ pressureFactor b p ≤ 1012500 := by
  have product : b.compress * p ≤ 500 * 2500 := Nat.mul_le_mul compress pressure
  have figure : (0 : Int) ≤ (b.compress : Int) * p := by positivity
  have low := roundDiv_nonneg figure (d := 100) (by omega)
  have high := (roundDiv_bounds figure (d := 100) (by omega)).2
  rw [pressureFactor_on on]
  generalize roundDiv (b.compress * p) 100 = q at *
  have cast : (b.compress : Int) * p ≤ 1250000 := by exact_mod_cast product
  omega

/-- Settles O55: each part of the arithmetic by its lemma. -/
theorem divisionsAreNearestAndLookupsInterpolate : Obligations.DivisionsAreNearestAndLookupsInterpolate := by
  unfold Obligations.DivisionsAreNearestAndLookupsInterpolate
  refine ⟨fun img => ⟨?table, ?expansion⟩, fun n d => roundDiv_nearest n, fun rows x ascending => ⟨fun k v rest => interp_below,
    fun before k v => interp_above ascending, fun before k v after is at_ => at_ ▸ interp_at ascending is,
    fun before k0 v0 k1 v1 after => interp_between ascending⟩, fun a b between => ⟨rfl, ?one, fun x y first last apart => ?rate, fun lacks => ?none⟩,
    fun b alpha expansion temp is => ?factor, fun b expansion temp tab => ?tab,
    fun b p => ⟨fun on => ⟨pressureFactor_on on p, pressureFactor_bounds on⟩, fun off => by rw [pressureFactor, off]⟩⟩
  case table =>
    have calibration (k : Nat) : 8 + 6 * k + 2 = 10 + 6 * k := by omega
    have trim (nc k : Nat) : 8 + 6 * nc + 4 * k + 2 = 10 + 6 * nc + 4 * k := by omega
    have list (nc nt k : Nat) : 8 + 6 * nc + 4 * nt + 4 * k + 2 = 10 + 6 * nc + 4 * nt + 4 * k := by omega
    simp only [tankTableOf, rowsAt_eq, calibrationForm, trimForm, listForm, u16i, u32i, calibration, trim, list]
  case expansion =>
    have row (k : Nat) : 2 + 6 * k + 2 = 4 + 6 * k := by omega
    simp only [expansionOf, rowsAt_eq, expansionForm, u32i, row]
  case one =>
    simp only [ringRate, List.head?_cons, List.getLast?_singleton]
    split
    next => exact if_neg fun ⟨many, _⟩ => absurd many (by simp)
    next => rfl
  case rate =>
    rw [ringRate_of_total a b between first last apart]
    refine ⟨_, rfl, ?_⟩
    have span : 0 < (age b.reading.arrival a.reading.arrival : Int) := by
      have := mt age_eq_zero.mp apart
      omega
    have figure : (0 : Int) ≤ (totalDelta y x : Int) * 600 := by positivity
    obtain ⟨above, below⟩ := roundDiv_bounds figure span
    change 2 * (_ * age b.reading.arrival a.reading.arrival) ≤ _ + age b.reading.arrival a.reading.arrival
      ∧ _ < 2 * (_ * age b.reading.arrival a.reading.arrival) + age b.reading.arrival a.reading.arrival
    have cast : ((roundDiv ((totalDelta y x : Int) * 600) (age b.reading.arrival a.reading.arrival)).toNat : Int)
        = roundDiv ((totalDelta y x : Int) * 600) (age b.reading.arrival a.reading.arrival) :=
      Int.toNat_of_nonneg (roundDiv_nonneg figure span)
    generalize (roundDiv ((totalDelta y x : Int) * 600) (age b.reading.arrival a.reading.arrival)).toNat = v at *
    rw [← cast] at above below
    constructor <;> zify <;> omega
  case none => exact ringRate_none a b between lacks
  case factor =>
    intro x raw f
    have value : (rawFactor b expansion temp).value = raw := by
      simp only [rawFactor, raw, x, is, Option.getD_some, pow_two]
      cases b.method <;> rfl
    obtain ⟨within, under, above⟩ := limitFactor_cases raw
    have clamped := rawFactor_clamped b expansion temp
    have isF : f = (limitFactor raw, (rawFactor b expansion temp).clamped, decide (limitFactor raw ≠ raw)) := by
      rw [← value]
      rfl
    refine ⟨fun tab => ?_, fun method => ?_, fun low high => ?_, fun low => ?_, fun high => ?_, fun method at_ => ?_⟩
    · rw [isF, clamped, if_pos tab]
    · rw [isF, clamped, if_neg method]
    · rw [isF]
      exact within low high
    · rw [isF]
      exact under low
    · rw [isF]
      exact above high
    · change (limitFactor (rawFactor b expansion temp).value, _, _) = _
      rw [rawFactor_at_reference b expansion temp method at_]
      rfl
  case tab =>
    intro raw
    change (limitFactor (rawFactor b expansion temp).value, (rawFactor b expansion temp).clamped, decide (limitFactor
      (rawFactor b expansion temp).value ≠ (rawFactor b expansion temp).value)) = _
    rw [rawFactor_of_tab b expansion temp tab, limitFactor_eq]
    refine congrArg (fun b => (_, _, b)) (decide_eq_decide.mpr ?_)
    change _ ↔ (interp expansion temp).value < 850000 ∨ 1150000 < (interp expansion temp).value
    omega

end Sys2Proof.Machine
end

section
/-!
PROOFS. The vessel experience factor (R159, R161 to R164, R166).
-/

namespace Sys2Proof.Machine

/-! ### The median (R162) -/

theorem insertSorted_eq (x : Int) (ys : List Int) : insertSorted x ys = ys.orderedInsert (· ≤ ·) x := by
  induction ys with
  | nil => rfl
  | cons y ys ih =>
    rw [insertSorted, List.orderedInsert_cons, ih]

theorem sortAscending_eq (xs : List Int) : sortAscending xs = xs.insertionSort (· ≤ ·) := by
  induction xs with
  | nil => rfl
  | cons x xs ih => rw [sortAscending, insertSorted_eq, ih, List.insertionSort_cons]

/-- In an ascending list no more than `k` numbers lie below the one at position `k`, and more than `k` do not lie above it. -/
theorem count_around {ys : List Int} (ascending : ys.Pairwise (· ≤ ·)) {k : Nat} {m : Int} (at_ : ys[k]? = some m) :
    ys.countP (fun x => decide (x < m)) ≤ k ∧ k + 1 ≤ ys.countP (fun x => decide (x ≤ m)) := by
  obtain ⟨inside, is⟩ := List.getElem?_eq_some_iff.mp at_
  have split : ys = ys.take k ++ m :: ys.drop (k + 1) := by
    rw [← is, ← List.drop_eq_getElem_cons inside, List.take_append_drop]
  have size : (ys.take k).length = k := List.length_take_of_le inside.le
  rw [split] at ascending ⊢
  obtain ⟨-, tail, across⟩ := List.pairwise_append.mp ascending
  rw [List.pairwise_cons] at tail
  have below : (ys.take k).countP (fun x => decide (x ≤ m)) = (ys.take k).length :=
    List.countP_eq_length.mpr fun x mem => decide_eq_true (across x mem m List.mem_cons_self)
  have above : (ys.drop (k + 1)).countP (fun x => decide (x < m)) = 0 :=
    List.countP_eq_zero.mpr fun x mem => by simpa using tail.1 x mem
  constructor
  · rw [List.countP_append, List.countP_cons, above]
    have few := (ys.take k).countP_le_length (p := fun x => decide (x < m))
    simp only [lt_self_iff_false, decide_false, Bool.false_eq_true, if_false]
    omega
  · rw [List.countP_append, List.countP_cons, below, size]
    simp

theorem lowerMedian_nil : lowerMedian [] = none := rfl

theorem lowerMedian_spec {rs : List Int} (some_ : rs ≠ []) : ∃ m, lowerMedian rs = some m ∧ m ∈ rs
    ∧ (rs.filter (fun x => decide (x < m))).length < (rs.length + 1) / 2
    ∧ (rs.length + 1) / 2 ≤ (rs.filter (fun x => decide (x ≤ m))).length := by
  have size := List.length_pos_iff.mpr some_
  have perm := rs.perm_insertionSort (· ≤ ·)
  have inside : (rs.length - 1) / 2 < (rs.insertionSort (· ≤ ·)).length := by
    rw [perm.length_eq]
    omega
  have at_ := List.getElem?_eq_getElem inside
  obtain ⟨below, above⟩ := count_around (rs.pairwise_insertionSort (· ≤ ·)) at_
  rw [perm.countP_eq, List.countP_eq_length_filter] at below above
  refine ⟨_, by rw [lowerMedian, sortAscending_eq, at_], perm.mem_iff.mp (List.getElem_mem inside), ?_, ?_⟩ <;> omega

/-! ### The entries of an image (section 10.2) -/

/-- An image holds the entries of a history. -/
def HoldsEntries (img : List Byte) (entries : List (Int × Int)) : Prop :=
  u16 img 0 = entries.length ∧ ∀ k e, entries[k]? = some e → ((u32 img (2 + 8 * k) : Int), (u32 img (6 + 8 * k) : Int)) = e

theorem historyOf_of_holds {img : List Byte} {entries : List (Int × Int)} (holds : HoldsEntries img entries) : historyOf img = entries := by
  obtain ⟨count, each⟩ := holds
  rw [historyOf, entriesAt_eq, count]
  refine List.ext_getElem (by simp) fun k _ inside => ?_
  rw [List.getElem_map, List.getElem_range]
  exact each k _ (List.getElem?_eq_getElem inside)

theorem i4_bytes {n : Nat} (small : n < 4294967296) :
    i4 n = [BitVec.ofNat 8 (n / 16777216), BitVec.ofNat 8 (n / 65536), BitVec.ofNat 8 (n / 256), BitVec.ofNat 8 n] := by
  have whole : ((n : Int) % 4294967296).toNat = n := by omega
  rw [i4, whole]
  simp [bigEndian]

/-- A four-byte field reads the figure it was written from. -/
theorem u32_append_i4 (before after : List Byte) {v : Int} (low : 0 ≤ v) (high : v < 4294967296) :
    (u32 (before ++ (i4 v ++ after)) before.length : Int) = v := by
  obtain ⟨n, rfl⟩ := Int.eq_ofNat_of_zero_le low
  rw [i4_bytes (by omega)]
  simp [u32, u16, u8, Nat.add_assoc]
  omega

theorem u16_e2_append {n : Nat} (small : n < 65536) (after : List Byte) : u16 (e2 n ++ after) 0 = n := by
  rw [e2_eq]
  simp [u16, u8]
  omega

/-- The bytes of the entries of a history. -/
def entryBytes (entries : List (Int × Int)) : List Byte := entries.flatMap (fun e => i4 e.1 ++ i4 e.2)

theorem entryBytes_length (entries : List (Int × Int)) : (entryBytes entries).length = 8 * entries.length := by
  induction entries with
  | nil => rfl
  | cons e entries ih =>
    rw [entryBytes, List.flatMap_cons, List.length_append, ← entryBytes, ih, List.length_cons]
    change 8 + _ = _
    omega

theorem historyImage_length (entries : List (Int × Int)) : (historyImage entries).length = 2 + 8 * entries.length := by
  change (e2 _ ++ entryBytes entries).length = _
  rw [List.length_append, entryBytes_length]
  rfl

theorem historyImage_holds {entries : List (Int × Int)} (few : entries.length ≤ 10)
    (figures : ∀ e ∈ entries, 100000 ≤ e.1 ∧ e.1 ≤ 999999999 ∧ 100000 ≤ e.2 ∧ e.2 ≤ 999999999) :
    HoldsEntries (historyImage entries) entries := by
  refine ⟨u16_e2_append (by omega) _, fun k e at_ => ?_⟩
  obtain ⟨inside, is⟩ := List.getElem?_eq_some_iff.mp at_
  obtain ⟨low1, high1, low2, high2⟩ := figures e (is ▸ List.getElem_mem inside)
  have split : entries = entries.take k ++ e :: entries.drop (k + 1) := by
    rw [← is, ← List.drop_eq_getElem_cons inside, List.take_append_drop]
  set before := e2 entries.length ++ entryBytes (entries.take k) with isBefore
  have size : before.length = 2 + 8 * k := by
    rw [isBefore, List.length_append, entryBytes_length, List.length_take_of_le inside.le]
    rfl
  have first : historyImage entries = before ++ (i4 e.1 ++ (i4 e.2 ++ entryBytes (entries.drop (k + 1)))) := by
    conv_lhs => rw [historyImage, split, List.flatMap_append, List.flatMap_cons, ← split]
    simp only [isBefore, entryBytes, List.append_assoc]
  have second : historyImage entries = (before ++ i4 e.1) ++ (i4 e.2 ++ entryBytes (entries.drop (k + 1))) := by
    rw [first, ← List.append_assoc before]
  have size' : (before ++ i4 e.1).length = 6 + 8 * k := by
    rw [List.length_append, size]
    change _ + 4 = _
    omega
  refine Prod.ext ?_ ?_
  · rw [first, ← size, u32_append_i4 before _ (by omega) (by omega)]
  · rw [second, ← size', u32_append_i4 _ _ (by omega) (by omega)]

/-- The computation once the median is found (R162, R163). -/
theorem vefOfEntries_of_median {entries : List (Int × Int)} {m : Int} (median : lowerMedian (entries.map entryRatio) = some m)
    {kept : List (Int × Int)} (isKept : kept = entries.filter (fun e => decide ((entryRatio e - m).natAbs ≤ 300))) :
    vefOfEntries entries = if kept.length < 5 then ⟨.unavailable .fewEntries, entries.length, some m,
        (entries.map entryRatio).map (fun x => (x, decide ((x - m).natAbs ≤ 300))), kept.length, none⟩
      else if inRange 98000 102000 (roundDiv ((kept.map (·.1)).sum * 100000) (kept.map (·.2)).sum) then
        ⟨.available (roundDiv ((kept.map (·.1)).sum * 100000) (kept.map (·.2)).sum), entries.length, some m,
          (entries.map entryRatio).map (fun x => (x, decide ((x - m).natAbs ≤ 300))), kept.length, none⟩
      else ⟨.unavailable .outOfRange, entries.length, some m,
        (entries.map entryRatio).map (fun x => (x, decide ((x - m).natAbs ≤ 300))), kept.length,
        some (roundDiv ((kept.map (·.1)).sum * 100000) (kept.map (·.2)).sum)⟩ := by
  simp only [vefOfEntries, median, isKept]
  rfl

/-- Settles O58: the factor of a list of entries by its median, and of an item by the entries of its image. -/
theorem experienceFactorIsComputed : Obligations.ExperienceFactorIsComputed := by
  unfold Obligations.ExperienceFactorIsComputed
  intro holds
  refine ⟨fun s d v is => ?_, fun s => ⟨rfl, rfl⟩, fun i => ⟨fun is => ?_, fun is => ?_, fun entries is held => ?_, fun e is => ?_, fun e entries is held => ⟨?_, ?_⟩⟩,
    fun entries few figures => ⟨?_, historyImage_holds few figures⟩, fun entries => ?_⟩
  · rw [State.vefResult, is]
  · rw [vefOfItem, is]
  · rw [vefOfItem, is]
    rfl
  · rw [vefOfItem, is]
    exact congrArg vefOfEntries (historyOf_of_holds held)
  · unfold appendedEntries appendedOrigins Item.entries
    cases status : i.status with
    | valid => exact (is status).elim
    | _ => exact ⟨rfl, rfl⟩
  · simp only [appendedEntries, newestTen, Item.entries, is, historyOf_of_holds held, List.length_append, List.length_singleton,
      Nat.reduceSubDiff]
  · simp only [appendedOrigins, newestTen, is, List.length_append, List.length_singleton,
      Nat.reduceSubDiff]
  · exact historyImage_length entries
  · intro ratio rs v
    obtain none | some_ := eq_or_ne entries []
    · subst none
      exact ⟨rfl, fun _ => rfl, fun some_ => (some_ rfl).elim⟩
    have spec := lowerMedian_spec (rs := rs) (by simpa [rs] using some_)
    rw [show rs.length = entries.length from List.length_map _] at spec
    obtain ⟨m, median, mem, below, above⟩ := spec
    obtain ⟨kept, isKept⟩ : ∃ kept, kept = entries.filter (fun e => decide ((ratio e - m).natAbs ≤ 300)) := ⟨_, rfl⟩
    have isV : v = _ := vefOfEntries_of_median median isKept
    rw [isV]
    refine ⟨by split_ifs <;> rfl, fun none => (some_ none).elim, fun _ => ⟨m, by split_ifs <;> rfl, mem, below, above,
      by split_ifs <;> rfl, ?_⟩⟩
    intro kept' factor
    have same : kept' = kept := isKept.symm
    have isFactor : factor = roundDiv ((kept.map (·.1)).sum * 100000) (kept.map (·.2)).sum := by rw [← same]
    clear_value factor kept'
    subst same
    rw [← isFactor]
    refine ⟨by split_ifs <;> rfl, fun few => ?_, fun enough low high => ?_, fun enough out => ?_⟩
    · rw [if_pos few]
      exact ⟨rfl, rfl⟩
    · rw [if_neg (Nat.not_lt.mpr enough), if_pos (inRange_iff.mpr ⟨low, high⟩)]
      exact ⟨rfl, rfl⟩
    · rw [if_neg (Nat.not_lt.mpr enough), if_neg fun range => (inRange_iff.mp range).elim fun low high => by omega]
      exact ⟨rfl, rfl⟩

end Sys2Proof.Machine
end

section
/-!
PROOFS. The ship side: one tank figure record, the totals, the ship figure and masses (sections 4.4 to 4.8).
-/

namespace Sys2Proof.Machine

/-! ### Lookups in a section without negative values -/

theorem roundDiv_le {n d q : Int} (figure : 0 ≤ n) (divisor : 0 < d) (bound : n ≤ q * d) : roundDiv n d ≤ q := by
  have below := (roundDiv_bounds figure divisor).2
  have product : roundDiv n d * d < (q + 1) * d := by
    rw [Int.add_mul, Int.one_mul]
    omega
  exact Int.lt_add_one_iff.mp (lt_of_mul_lt_mul_right product divisor.le)

/-- Between two rows without negative values a section has none. -/
theorem interpolated_nonneg {k0 v0 k1 v1 x : Int} (rising : k0 < k1) (low : k0 ≤ x) (high : x ≤ k1) (first : 0 ≤ v0) (second : 0 ≤ v1) :
    0 ≤ v0 + roundDiv ((v1 - v0) * (x - k0)) (k1 - k0) := by
  obtain up | down := Int.le_total v0 v1
  · have rise := roundDiv_nonneg (n := (v1 - v0) * (x - k0)) (d := k1 - k0) (Int.mul_nonneg (by omega) (by omega)) (by omega)
    omega
  · have figure : 0 ≤ (v0 - v1) * (x - k0) := Int.mul_nonneg (by omega) (by omega)
    have within : (v0 - v1) * (x - k0) ≤ (v0 - v1) * (k1 - k0) := Int.mul_le_mul_of_nonneg_left (by omega) (by omega)
    have fall := roundDiv_le figure (by omega) within
    rw [show (v1 - v0) * (x - k0) = -((v0 - v1) * (x - k0)) by ring, roundDiv_neg _ (by omega)]
    omega

theorem interpFrom_nonneg {rows : List (Int × Int)} {k v x : Int} (ascending : ((k, v) :: rows).Pairwise (fun a b => a.1 < b.1))
    (values : ∀ row ∈ (k, v) :: rows, 0 ≤ row.2) (reached : k ≤ x) : 0 ≤ (interpFrom k v rows x).value := by
  induction rows generalizing k v with
  | nil => exact values (k, v) List.mem_cons_self
  | cons row rows ih =>
    obtain ⟨first, rest⟩ := List.forall_mem_cons.mp values
    obtain ⟨rising, ascending⟩ := List.pairwise_cons.mp ascending
    rw [interpFrom]
    split
    next within => exact interpolated_nonneg (rising row List.mem_cons_self) reached within first (rest row List.mem_cons_self)
    next past => exact ih ascending rest (Int.not_le.mp past).le

theorem interp_nonneg {rows : List (Int × Int)} (ascending : rows.Pairwise (fun a b => a.1 < b.1)) (values : ∀ row ∈ rows, 0 ≤ row.2)
    (x : Int) : 0 ≤ (interp rows x).value := by
  cases rows with
  | nil => exact Int.le_refl 0
  | cons row rows =>
    rw [interp]
    split
    · exact values row List.mem_cons_self
    next reached => exact interpFrom_nonneg ascending values (Int.not_lt.mp reached)

/-! ### The record of one tank (R66 to R79) -/

section
variable (b : Basis) (expansionValid attNever : Bool) (expansion : List (Int × Int)) (c : TankCopy)

/-- What stands in the record whether its steps are made or not. -/
theorem tankFigure_read : let f := tankFigure b expansionValid expansion attNever c
    let flags := entryFlags b attNever expansionValid c
    f.tank = c.number ∧ f.att = c.att ∧ f.instant = c.latest.map (·.arrival) ∧ f.ullage = c.latest.bind (·.ullage)
      ∧ f.temp = c.latest.map (fun r => r.temp.getD b.refTemp) ∧ f.dip = c.latest.map (·.dip)
      ∧ f.flags.noReading = flags.noReading ∧ f.flags.noUllage = flags.noUllage ∧ f.flags.noTemp = flags.noTemp
      ∧ f.flags.noAttitude = attNever ∧ f.flags.table = flags.table := by
  unfold tankFigure
  dsimp only
  split
  next r u latest ullage valid => simp [latest, ← ullage, entryFlags]
  next => exact ⟨rfl, rfl, rfl, rfl, rfl, rfl, rfl, rfl, rfl, rfl, rfl⟩

theorem tankFigure_skipped (lacks : c.latest = none ∨ (∃ r, c.latest = some r ∧ r.ullage = none) ∨ c.tableValid = false) :
    tankFigure b expansionValid expansion attNever c = skippedFigure b (entryFlags b attNever expansionValid c) c := by
  unfold tankFigure
  split
  next r u latest ullage valid =>
    obtain none | ⟨r', is, none⟩ | invalid := lacks
    · exact absurd (none.symm.trans latest) nofun
    · rw [is, Option.bind_some, none] at ullage
      exact absurd ullage nofun
    · exact absurd (invalid.symm.trans valid) nofun
  next => rfl

/-- The steps of a record, made (R67 to R71, R77, R79). -/
theorem tankFigure_made {r : TankReading} {u : Nat} (latest : c.latest = some r) (ullage : r.ullage = some u) (valid : c.tableValid = true) :
    let f := tankFigure b expansionValid expansion attNever c
    let ct := interp c.table.trim ((c.att.map (·.trim)).getD 0)
    let cl := interp c.table.list ((c.att.map (·.list)).getD 0)
    let sum : Int := u + ct.value + cl.value
    let water := freeWater b c.table r.dip
    let vcf := volumeFactor b expansion (r.temp.getD b.refTemp)
    let noTable := decide (b.method = .tab) && !expansionValid
    f.ct = some ct.value ∧ f.cl = some cl.value ∧ f.flags.trimLimit = ct.clamped ∧ f.flags.listLimit = cl.clamped
      ∧ f.uc = some (clampUllage c.table sum) ∧ f.flags.clamped = decide (clampUllage c.table sum ≠ sum)
      ∧ f.tov = (interp c.table.calibration (clampUllage c.table sum)).value
      ∧ f.fwv = min f.tov water.value ∧ f.flags.waterLimit = water.clamped ∧ f.flags.fwCapped = decide (f.tov < water.value)
      ∧ f.gov = f.tov - f.fwv ∧ f.vcf = (if noTable then 1000000 else vcf.1)
      ∧ f.gsv = (if noTable then 0 else roundDiv (f.gov * f.vcf) 1000000)
      ∧ f.flags.expLimit = (!noTable && vcf.2.1) ∧ f.flags.vcfLimit = (!noTable && vcf.2.2) := by
  intro f ct cl sum water vcf noTable
  have capped (tov w : Int) : (if decide (tov < w) = true then tov else w) = min tov w := by
    split
    next below => have := of_decide_eq_true below; omega
    next above => have := of_decide_eq_false (Bool.eq_false_of_not_eq_true above); omega
  have is : f = tankFigure b expansionValid expansion attNever c := rfl
  simp only [tankFigure, latest, Option.bind_some, ullage, valid] at is
  rw [is]
  exact ⟨rfl, rfl, rfl, rfl, rfl, rfl, rfl, capped _ _, rfl, rfl, rfl, rfl, rfl, rfl, rfl⟩

end

theorem freeWater_none {b : Basis} {t : TankTable} {dip : Nat} (dry : b.freeWater = .none ∨ dip = 0) : freeWater b t dip = ⟨0, false⟩ := by
  unfold freeWater
  split
  · rfl
  next measured => exact if_pos (dry.resolve_left fun none => absurd (none.symm.trans measured) nofun)

theorem freeWater_measured {b : Basis} {t : TankTable} {dip : Nat} (measured : b.freeWater = .measured) (wet : 0 < dip) :
    freeWater b t dip = interp t.calibration (t.refHeight - (dip : Int)) := by
  rw [freeWater, measured]
  exact if_neg (by omega)

theorem freeWater_nonneg {b : Basis} {t : TankTable} (ascending : t.calibration.Pairwise (fun x y => x.1 < y.1))
    (values : ∀ row ∈ t.calibration, 0 ≤ row.2) (dip : Nat) : 0 ≤ (freeWater b t dip).value := by
  unfold freeWater
  split
  · exact Int.le_refl 0
  · split
    · exact Int.le_refl 0
    · exact interp_nonneg ascending values _

/-- With a calibration in order and without negative volumes the observed volumes lie within the total (R70, R71). -/
theorem tankFigure_volumes (b : Basis) (expansionValid attNever : Bool) (expansion : List (Int × Int)) {c : TankCopy}
    (ascending : c.table.calibration.Pairwise (fun x y => x.1 < y.1)) (values : ∀ row ∈ c.table.calibration, 0 ≤ row.2) :
    let f := tankFigure b expansionValid expansion attNever c
    f.gov = f.tov - f.fwv ∧ 0 ≤ f.fwv ∧ 0 ≤ f.gov ∧ f.gov ≤ f.tov := by
  intro f
  by_cases lacks : c.latest = none ∨ (∃ r, c.latest = some r ∧ r.ullage = none) ∨ c.tableValid = false
  · have is : f = _ := tankFigure_skipped b expansionValid attNever expansion c lacks
    rw [is]
    exact ⟨rfl, Int.le_refl 0, Int.le_refl 0, Int.le_refl 0⟩
  · push Not at lacks
    obtain ⟨read, ullage, valid⟩ := lacks
    obtain ⟨r, latest⟩ := Option.ne_none_iff_exists'.mp read
    obtain ⟨u, ullage⟩ := Option.ne_none_iff_exists'.mp (ullage r latest)
    obtain ⟨-, -, -, -, -, -, tov, fwv, -, -, gov, -⟩ :=
      tankFigure_made b expansionValid attNever expansion c latest ullage (Bool.eq_true_of_not_eq_false valid)
    have total : 0 ≤ f.tov := by
      rw [tov]
      exact interp_nonneg ascending values _
    have water := freeWater_nonneg (b := b) ascending values r.dip
    change f.fwv = _ at fwv
    change f.gov = f.tov - f.fwv at gov
    change _ = min f.tov _ at fwv
    omega

theorem mass_neg (b : Basis) (v : Int) : mass b (-v) = -mass b v := by
  unfold mass
  dsimp only
  rw [Int.neg_mul]
  exact roundDiv_neg _ (by decide)

/-- Settles O56: a record as it is read, skipped or made, and the sums, signs and masses over it. -/
theorem grossObservedVolumeIsBounded : Obligations.GrossObservedVolumeIsBounded := by
  unfold Obligations.GrossObservedVolumeIsBounded
  refine ⟨fun b expansionValid attNever expansion c => ?record,
    fun b expansionValid attNever expansion c ascending values => tankFigure_volumes b expansionValid attNever expansion ascending values,
    fun c b => ⟨List.length_map _, fun k t at_ => ?_⟩, tankTotals_eq, fun opening current => ⟨rfl, rfl⟩,
    fun b v => ⟨fun vac => ?_, fun air => ?_, mass_neg b v⟩⟩
  case record =>
    intro f noTable
    obtain ⟨number, att, instant, ullage, temp, dip, noReading, noUllage, noTemp, noAttitude, table⟩ :=
      tankFigure_read b expansionValid attNever expansion c
    refine ⟨number, att, ?_, ?_, ?_, noAttitude, ?_, fun none => ?_, fun r latest => ?_, fun lacks => ?_, fun r u latest isUllage valid => ?made⟩
    case made =>
      intro ct cl sum vcf
      obtain ⟨isCt, isCl, trimLimit, listLimit, isUc, clamped, tov, fwv, waterLimit, fwCapped, gov, isVcf, gsv, expLimit, vcfLimit⟩ :=
        tankFigure_made b expansionValid attNever expansion c latest isUllage valid
      refine ⟨isCt, isCl, trimLimit, listLimit, fun lo hi first last order => ?_, fun uc is => ?_, fun dry => ?_, fun measured wet => ?_, gov,
        fun stands => ?_, fun lost => ?_⟩
      · have keys : firstKey c.table.calibration = lo ∧ lastKey c.table.calibration = hi := by
          rw [firstKey, lastKey, first, last]
          exact ⟨rfl, rfl⟩
        have bounded : clampUllage c.table sum = max lo (min hi sum) := by
          rw [clampUllage_eq (by rw [keys.1, keys.2]; exact order), keys.1, keys.2]
        refine ⟨isUc.trans (congrArg some bounded), ?_⟩
        rw [clamped, decide_eq_true_iff]
        change clampUllage c.table sum ≠ sum ↔ _
        rw [bounded]
        omega
      · cases is.symm.trans isUc
        exact tov
      · rw [freeWater_none dry] at fwv waterLimit fwCapped
        exact ⟨fwv, waterLimit, by rw [fwCapped, decide_eq_true_iff]⟩
      · rw [freeWater_measured measured wet] at fwv waterLimit fwCapped
        exact ⟨fwv, waterLimit, by rw [fwCapped, decide_eq_true_iff]⟩
      · have no : (decide (b.method = .tab) && !expansionValid) = false := by simpa [noTable] using stands
        rw [no] at isVcf gsv expLimit vcfLimit
        exact ⟨isVcf, expLimit, vcfLimit, gsv⟩
      · have yes : (decide (b.method = .tab) && !expansionValid) = true := by simpa [noTable] using lost
        rw [yes] at isVcf gsv expLimit vcfLimit
        exact ⟨isVcf, gsv, expLimit, vcfLimit⟩
    · rw [noReading]
      exact Option.isNone_iff_eq_none
    · rw [noUllage]
      cases latest : c.latest <;> simp [entryFlags, latest]
    · rw [noTemp]
      cases latest : c.latest <;> simp [entryFlags, latest]
    · rw [table]
      simp [entryFlags, noTable]
    · rw [instant, ullage, temp, dip, none]
      exact ⟨rfl, rfl, rfl, rfl⟩
    · rw [instant, ullage, temp, dip, latest]
      exact ⟨rfl, rfl, rfl, rfl⟩
    · have is : f = _ := tankFigure_skipped b expansionValid attNever expansion c lacks
      rw [is]
      exact ⟨rfl, rfl, rfl, rfl, rfl, rfl, rfl, rfl, rfl, rfl, rfl, rfl, rfl, rfl, rfl⟩
  · rw [JobCopy.tankFigures, List.getElem?_map, at_]
    rfl
  · rw [mass, vac]
  · rw [mass, air]

end Sys2Proof.Machine
end

section
/-!
PROOFS. The shore side: the snapshot instant, a meter's alignment, its increment and its record (sections 5.1 to 5.6).
-/

namespace Sys2Proof.Machine

/-! ### The forward amount (R50, R88) -/

theorem totalDelta_lt (y x : Nat) : totalDelta y x < 1000000000 := Nat.mod_lt _ (by decide)

theorem totalDelta_eq {x : Nat} (small : x < 1000000000) (y : Nat) : totalDelta y x = (y + 1000000000 - x) % 1000000000 := by
  rw [totalDelta, totalModulus, Nat.mod_eq_of_lt small]

theorem add_totalDelta {x y : Nat} (oldSmall : x < 1000000000) (newSmall : y < 1000000000) : (x + totalDelta y x) % 1000000000 = y := by
  rw [totalDelta_eq oldSmall]
  omega

/-- A total moved forward by less than the modulus has moved by that amount. -/
theorem totalDelta_moved {x d : Nat} (small : x < 1000000000) (step : d < 1000000000) : totalDelta ((x + d) % 1000000000) x = d := by
  rw [totalDelta_eq small]
  omega

theorem increment_eq (y x : Nat) : increment (some y) (some x) =
    if totalDelta y x < 500000000 then ((totalDelta y x : Int), some y, false, false) else (0, some x, true, false) := rfl

/-! ### The alignment of a meter (R86, R87) -/

section
variable {at_ : Instant} {a b : MeterReading} {x y : Nat} (first : a.total = some x) (last : b.total = some y)
include first last

theorem alignedBetween_eq : alignedBetween at_ a b
    = ((x : Int) + roundDiv ((totalDelta y x : Int) * age at_ a.arrival) (age b.arrival a.arrival)).toNat % 1000000000 := by
  simp only [alignedBetween, first, last, Option.getD_some, totalModulus]

theorem alignedBetween_spec (oldSmall : x < 1000000000) (newSmall : y < 1000000000) (apart : a.arrival ≠ b.arrival)
    (within : age at_ a.arrival ≤ age b.arrival a.arrival) : alignedBetween at_ a b < 1000000000
      ∧ (totalDelta (alignedBetween at_ a b) x : Int)
        = roundDiv ((totalDelta y x : Int) * (age at_ a.arrival : Int)) (age b.arrival a.arrival : Int)
      ∧ (at_ = a.arrival → alignedBetween at_ a b = x) ∧ (at_ = b.arrival → alignedBetween at_ a b = y) := by
  have span : 0 < (age b.arrival a.arrival : Int) := by
    have := mt age_eq_zero.mp apart
    omega
  have figure : (0 : Int) ≤ (totalDelta y x : Int) * age at_ a.arrival := by positivity
  have low := roundDiv_nonneg figure span
  have high := roundDiv_le figure span
    (Int.mul_le_mul_of_nonneg_left (Int.ofNat_le.mpr within) (Int.natCast_nonneg (totalDelta y x)))
  have less := totalDelta_lt y x
  have is := alignedBetween_eq (at_ := at_) first last
  refine ⟨?_, ?_, fun start => ?_, fun finish => ?_⟩
  · rw [is]
    exact Nat.mod_lt _ (by decide)
  · obtain ⟨rise, isRise⟩ := Int.eq_ofNat_of_zero_le low
    rw [is, isRise, ← Nat.cast_add, Int.toNat_natCast, totalDelta_moved oldSmall (by omega)]
  · rw [is, start, age_eq_zero.mpr rfl, Nat.cast_zero, Int.mul_zero, roundDiv_zero span]
    omega
  · rw [is, finish, roundDiv_mul_self _ span, ← Nat.cast_add, Int.toNat_natCast, add_totalDelta oldSmall newSmall]

end

section
variable {start at_ : Instant} {ring : List MeterEntry}

/-- An entry no younger than the snapshot instant, by age at the job's start. -/
def MeterEntry.early (e : MeterEntry) (start at_ : Instant) : Prop := age start at_ ≤ age start e.reading.arrival

/-- The entries before and after the instant are the two parts of the entries with a total. -/
theorem align_parts {older newer : List MeterEntry} (entries : ring.filter carriesTotal = older ++ newer)
    (early : ∀ e ∈ older, e.early start at_) (late : ∀ e ∈ newer, ¬e.early start at_) :
    (ring.filter carriesTotal).filter (fun e => decide (age start at_ ≤ age start e.reading.arrival)) = older
      ∧ (ring.filter carriesTotal).filter (fun e => decide (age start e.reading.arrival < age start at_)) = newer := by
  rw [entries, List.filter_append, List.filter_append]
  have one : older.filter (fun e => decide (age start at_ ≤ age start e.reading.arrival)) = older :=
    List.filter_eq_self.mpr fun e mem => decide_eq_true (early e mem)
  have two : newer.filter (fun e => decide (age start at_ ≤ age start e.reading.arrival)) = [] :=
    List.filter_eq_nil_iff.mpr fun e mem => by simpa [MeterEntry.early] using late e mem
  have three : older.filter (fun e => decide (age start e.reading.arrival < age start at_)) = [] :=
    List.filter_eq_nil_iff.mpr fun e mem => by simpa [MeterEntry.early] using early e mem
  have four : newer.filter (fun e => decide (age start e.reading.arrival < age start at_)) = newer :=
    List.filter_eq_self.mpr fun e mem => decide_eq_true (Nat.not_le.mp (late e mem))
  rw [one, two, three, four, List.append_nil, List.nil_append]
  exact ⟨rfl, rfl⟩

theorem total_of_mem {e : MeterEntry} (mem : e ∈ ring.filter carriesTotal) : e.reading.total = some (e.reading.total.getD 0) := by
  obtain ⟨n, is⟩ := Option.isSome_iff_exists.mp (List.mem_filter.mp mem).2
  rw [is]
  rfl

theorem align_bracketed {older newer : List MeterEntry} {a b : MeterEntry} (entries : ring.filter carriesTotal = older ++ a :: b :: newer)
    (early : ∀ e ∈ older, e.early start at_) (isEarly : a.early start at_) (isLate : ¬b.early start at_)
    (late : ∀ e ∈ newer, ¬e.early start at_) : align start at_ ring = ⟨some (instantTotal a.reading), some (instantTotal b.reading),
      some b.reading, some (alignedBetween at_ a.reading b.reading), false⟩ := by
  obtain ⟨before, after⟩ := align_parts (older := older ++ [a]) (newer := b :: newer) (start := start) (at_ := at_)
    (entries.trans (List.append_cons older a (b :: newer))) (List.forall_mem_append.mpr ⟨early, List.forall_mem_singleton.mpr isEarly⟩)
    (List.forall_mem_cons.mpr ⟨isLate, late⟩)
  simp only [align, before, after, List.getLast?_concat, List.head?_cons]

theorem align_older {older : List MeterEntry} {a : MeterEntry} (entries : ring.filter carriesTotal = older ++ [a])
    (early : ∀ e ∈ older, e.early start at_) (isEarly : a.early start at_) : align start at_ ring
      = ⟨some (instantTotal a.reading), none, some a.reading, some (a.reading.total.getD 0), true⟩ := by
  obtain ⟨before, after⟩ := align_parts (older := older ++ [a]) (newer := []) (start := start) (at_ := at_)
    (entries.trans (List.append_nil _).symm) (List.forall_mem_append.mpr ⟨early, List.forall_mem_singleton.mpr isEarly⟩) nofun
  have total := total_of_mem (e := a) (ring := ring) (by rw [entries]; simp)
  simp only [align, before, after, List.getLast?_concat, List.head?_nil, ← total]

theorem align_newer {newer : List MeterEntry} {b : MeterEntry} (entries : ring.filter carriesTotal = b :: newer)
    (isLate : ¬b.early start at_) (late : ∀ e ∈ newer, ¬e.early start at_) : align start at_ ring
      = ⟨some (instantTotal b.reading), none, some b.reading, some (b.reading.total.getD 0), true⟩ := by
  obtain ⟨before, after⟩ := align_parts (older := []) (newer := b :: newer) (start := start) (at_ := at_) entries nofun
    (List.forall_mem_cons.mpr ⟨isLate, late⟩)
  have total := total_of_mem (e := b) (ring := ring) (by rw [entries]; simp)
  simp only [align, before, after, List.getLast?_nil, List.head?_cons, ← total]

theorem align_empty (entries : ring.filter carriesTotal = []) : align start at_ ring = ⟨none, none, none, none, false⟩ := by
  simp only [align, entries, List.filter_nil, List.getLast?_nil, List.head?_nil]

end

/-! ### The snapshot instant (R83) -/

theorem JobCopy.mem_shipInstants (c : JobCopy) (t : Instant) : t ∈ c.shipInstants ↔
    (∃ x ∈ c.tanks, ∃ r, x.latest = some r ∧ r.arrival = t) ∨ ∃ r, c.att = some r ∧ r.arrival = t := by
  simp [JobCopy.shipInstants, List.mem_filterMap, Option.mem_toList]

theorem JobCopy.snapshot_none {c : JobCopy} (none : c.shipInstants = []) (start : Instant) : c.snapshot start = start := by
  simp only [JobCopy.snapshot, none]

theorem JobCopy.snapshot_oldest {c : JobCopy} {t : Instant} (mem : t ∈ c.shipInstants) (start : Instant) :
    c.snapshot start ∈ c.shipInstants ∧ age start t ≤ age start (c.snapshot start) := by
  cases instants : c.shipInstants with
  | nil => exact absurd (instants ▸ mem) List.not_mem_nil
  | cons best rest =>
    obtain ⟨among, oldest⟩ := oldestOf_spec start rest best
    simp only [JobCopy.snapshot, instants]
    exact ⟨among, oldest t (instants ▸ mem)⟩

/-! ### The record of one meter (R85, R89 to R95) -/

section
variable (kind : JobKind) (b : Basis) (expansionValid noShip : Bool) (expansion : List (Int × Int)) (start at_ : Instant) (m : MeterCopy)

/-- The temperature and pressure of the entry that ended the alignment, or their substitutes (R90). -/
theorem meterFigure_used : let f := meterFigure kind b expansionValid expansion noShip start at_ m
    let al := align start at_ m.ring
    (al.used = none → f.temp = b.refTemp ∧ f.pressure = 0 ∧ f.flags.noTemp = false ∧ f.flags.noPressure = false)
      ∧ ∀ r, al.used = some r → f.temp = r.temp.getD b.refTemp ∧ f.pressure = r.pressure.getD 0
        ∧ (f.flags.noTemp = true ↔ r.temp = none) ∧ (f.flags.noPressure = true ↔ b.pressure = .on ∧ r.pressure = none) := by
  refine ⟨fun unused => ?_, fun r used => ?_⟩
  · simp only [meterFigure, unused, Option.bind_none, Option.getD_none, Bool.and_false, and_self]
  · simp only [meterFigure, used, Option.bind_some, Option.isNone_iff_eq_none, Bool.and_eq_true, decide_eq_true_eq, and_self]

/-- The factor and the standard increment, or none counted without the table (R91, R93, R94). -/
theorem meterFigure_standard : let f := meterFigure kind b expansionValid expansion noShip start at_ m
    let noTable := decide (b.method = .tab) && !expansionValid
    let vcf := volumeFactor b expansion f.temp
    f.flags.table = noTable ∧ f.vcf = (if noTable then 1000000 else vcf.1) ∧ f.flags.expLimit = (!noTable && vcf.2.1)
      ∧ f.flags.vcfLimit = (!noTable && vcf.2.2) ∧ f.dmL = (if noTable then 0 else standardIncrement f.gv f.vcf f.pcf) :=
  ⟨rfl, rfl, rfl, rfl, rfl⟩

/-- The running state of a CYCLE or a CLOSE (R85, R88, R93, R94). -/
theorem meterFigure_counts (counts : kind = .cycle ∨ kind = .close) :
    let f := meterFigure kind b expansionValid expansion noShip start at_ m
    let inc := increment (align start at_ m.ring).aligned m.lastAligned
    f.lastBefore = m.lastAligned ∧ f.iv = inc.1 ∧ f.flags.stepReverse = inc.2.2.1 ∧ f.flags.noBase = inc.2.2.2
      ∧ f.accAfter = m.acc + f.dmL ∧ f.lastAfter = (if decide (b.method = .tab) && !expansionValid then m.lastAligned else inc.2.1) := by
  obtain rfl | rfl := counts <;> exact ⟨rfl, rfl, rfl, rfl, rfl, rfl⟩

/-- An opening's alignment without an increment (R95). -/
theorem meterFigure_opens : let f := meterFigure .openJob b expansionValid expansion noShip start at_ m
    f.lastBefore = none ∧ f.iv = 0 ∧ f.gv = 0 ∧ f.dmL = 0 ∧ f.accAfter = 0 ∧ f.flags.stepReverse = false ∧ f.flags.noBase = false
      ∧ f.lastAfter = (if decide (b.method = .tab) && !expansionValid then m.lastAligned else (align start at_ m.ring).aligned) := by
  intro f
  have gv : f.gv = 0 := by
    change (0 : Int) + roundDiv (0 * m.d) 100000 = 0
    rw [Int.zero_mul, roundDiv_zero (by decide), Int.add_zero]
  have dmL : f.dmL = 0 := by
    change (if (decide (b.method = .tab) && !expansionValid) = true then 0 else standardIncrement f.gv f.vcf f.pcf) = 0
    rw [gv, standardIncrement, Int.zero_mul, Int.zero_mul, Int.zero_mul, roundDiv_zero (by decide), ite_self]
  have acc : f.accAfter = 0 + f.dmL := rfl
  exact ⟨rfl, rfl, gv, dmL, by rw [acc, dmL, Int.add_zero], rfl, rfl, rfl⟩

end

/-- Settles O57: the alignment by the two parts of a ring, the increment and the record by their cases. -/
theorem meterTotalsAreAlignedAndAdded : Obligations.MeterTotalsAreAlignedAndAdded := by
  unfold Obligations.MeterTotalsAreAlignedAndAdded
  refine ⟨fun at_ a b x y first last oldSmall newSmall apart within => alignedBetween_spec first last oldSmall newSmall apart within,
    fun start at_ ring => ⟨fun older a b newer entries early isEarly isLate late => align_bracketed entries early isEarly isLate late,
      fun older a entries early isEarly => align_older entries early isEarly,
      fun b newer entries isLate late => align_newer entries isLate late, align_empty⟩,
    fun x y oldSmall newSmall => ⟨totalDelta_lt y x, add_totalDelta oldSmall newSmall, fun forward => ?_, fun back => ?_, rfl, rfl, rfl⟩,
    fun kind b expansionValid noShip expansion start at_ m => ?record, fun c kind b start => ?snapshot⟩
  · exact (increment_eq y x).trans (if_pos forward)
  · exact (increment_eq y x).trans (if_neg (Nat.not_lt.mpr back))
  case record =>
    intro f al inc noTable vcf
    obtain ⟨unused, used⟩ := meterFigure_used kind b expansionValid noShip expansion start at_ m
    obtain ⟨table, isVcf, expLimit, vcfLimit, dmL⟩ := meterFigure_standard kind b expansionValid noShip expansion start at_ m
    have with_ (stands : ¬noTable) : (decide (b.method = .tab) && !expansionValid) = false := by simpa [noTable] using stands
    have without (lost : noTable) : (decide (b.method = .tab) && !expansionValid) = true := by simpa [noTable] using lost
    refine ⟨rfl, rfl, rfl, rfl, rfl, rfl, rfl, Option.isNone_iff_eq_none, rfl, unused, used, rfl, rfl, fun stands => ?_,
      fun lost => ?_, fun counts => ?_, fun opens => ?_⟩
    · rw [with_ stands] at table isVcf expLimit vcfLimit dmL
      exact ⟨table, isVcf, expLimit, vcfLimit, dmL⟩
    · rw [without lost] at table isVcf expLimit vcfLimit dmL
      refine ⟨table, isVcf, expLimit, vcfLimit, dmL, ?_⟩
      change (if (decide (b.method = .tab) && !expansionValid) = true then m.lastAligned else _) = _
      exact if_pos (without lost)
    · obtain ⟨lastBefore, iv, stepReverse, noBase, acc, lastAfter⟩ :=
        meterFigure_counts kind b expansionValid noShip expansion start at_ m counts
      refine ⟨lastBefore, iv, stepReverse, noBase, acc, fun stands => ?_⟩
      rw [with_ stands] at lastAfter
      exact lastAfter
    · subst opens
      obtain ⟨lastBefore, iv, gv, dmL, acc, stepReverse, noBase, lastAfter⟩ :=
        meterFigure_opens b expansionValid noShip expansion start at_ m
      refine ⟨lastBefore, iv, gv, dmL, acc, stepReverse, noBase, fun stands => ?_⟩
      rw [with_ stands] at lastAfter
      exact lastAfter
  case snapshot =>
    intro seen
    have isSeen (t : Instant) : t ∈ c.shipInstants ↔ seen t := c.mem_shipInstants t
    refine ⟨fun none => JobCopy.snapshot_none (List.eq_nil_iff_forall_not_mem.mpr fun t mem => none t ((isSeen t).mp mem)) start,
      fun t some_ => ?_, List.length_map _, fun k m at_ => ⟨c.shipInstants.isEmpty, ?_, ?_⟩⟩
    · rw [← isSeen]
      exact JobCopy.snapshot_oldest ((isSeen t).mpr some_) start
    · rw [List.isEmpty_iff, List.eq_nil_iff_forall_not_mem]
      exact forall_congr' fun t => not_congr (isSeen t)
    · rw [JobCopy.meterFigures, List.getElem?_map, at_]
      rfl

end Sys2Proof.Machine
end

section
/-!
PROOFS. The observations of a frame, taken in their order; TANK_READING and ATTITUDE_READING (R45 to R49, R51, R54).
-/

namespace Sys2Proof.Machine

/-! ### Observations in frame order (R45, R46) -/

section
variable {Obs : Type} (number : Obs → Nat) (take : State → List Nat → Obs → State × ObsResult)

/-- Observations taken one after the other, each given the numbers named before it. -/
def takeAll : List Obs → List Nat → State → State × List ObsResult
  | [], _, s => (s, [])
  | o :: rest, seen, s =>
    ((takeAll rest (number o :: seen) (take s seen o).1).1,
      (take s seen o).2 :: (takeAll rest (number o :: seen) (take s seen o).1).2)

/-- The numbers named before the observation at a place. -/
def namedBefore (os : List Obs) (seen : List Nat) (i : Nat) : List Nat := ((os.take i).map number).reverse ++ seen

theorem namedBefore_succ (o : Obs) (rest : List Obs) (seen : List Nat) (i : Nat) :
    namedBefore number (o :: rest) seen (i + 1) = namedBefore number rest (number o :: seen) i := by
  simp [namedBefore]

theorem mem_namedBefore {os : List Obs} {i : Nat} {n : Nat} :
    n ∈ namedBefore number os [] i ↔ ∃ k, k < i ∧ ∃ o, os[k]? = some o ∧ number o = n := by
  rw [namedBefore, List.append_nil, List.mem_reverse, List.mem_map]
  constructor
  · rintro ⟨o, mem, named⟩
    obtain ⟨k, at_⟩ := List.mem_iff_getElem?.mp mem
    rw [List.getElem?_take] at at_
    split at at_
    next early => exact ⟨k, early, o, at_, named⟩
    next => cases at_
  · rintro ⟨k, early, o, at_, named⟩
    exact ⟨o, List.mem_iff_getElem?.mpr ⟨k, by rw [List.getElem?_take, if_pos early]; exact at_⟩, named⟩

theorem mem_namedBefore_of_seen {os : List Obs} {seen : List Nat} {n : Nat} (mem : n ∈ seen) (i : Nat) :
    n ∈ namedBefore number os seen i :=
  List.mem_append_right _ mem

/-- An observation touches its own source alone, a repeated one none, and what one of another source is answered and stored as
does not hang on it. -/
structure Independent {X : Type} (at_ : State → Nat → X) : Prop where
  apart : ∀ s seen o n, n ≠ number o → at_ (take s seen o).1 n = at_ s n
  repeated : ∀ s seen o, number o ∈ seen → at_ (take s seen o).1 (number o) = at_ s (number o)
  result : ∀ s seen o seen' o', number o ∈ seen' → (take (take s seen o).1 seen' o').2 = (take s seen' o').2
  same : ∀ s seen o seen' o', number o ∈ seen' → number o' ∉ seen' →
    at_ (take (take s seen o).1 seen' o').1 (number o') = at_ (take s seen' o').1 (number o')

variable {number take} {X : Type} {at_ : State → Nat → X}

theorem takeAll_length (os : List Obs) (seen : List Nat) (s : State) : (takeAll number take os seen s).2.length = os.length := by
  induction os generalizing seen s with
  | nil => rfl
  | cons o rest ih => rw [takeAll, List.length_cons, List.length_cons, ih]

theorem takeAll_result (independent : Independent number take at_) {os : List Obs} (seen : List Nat) (s : State) {i : Nat} {o : Obs}
    (is : os[i]? = some o) : (takeAll number take os seen s).2[i]? = some (take s (namedBefore number os seen i) o).2 := by
  induction os generalizing seen s i with
  | nil => exact absurd is nofun
  | cons first rest ih =>
    cases i with
    | zero =>
      cases is
      rfl
    | succ i =>
      rw [takeAll, List.getElem?_cons_succ, ih _ _ is, namedBefore_succ,
        independent.result _ _ _ _ _ (mem_namedBefore_of_seen number List.mem_cons_self i)]

/-- A source that no observation touches stays as it was. -/
theorem takeAll_kept (independent : Independent number take at_) {os : List Obs} (seen : List Nat) (s : State) {n : Nat}
    (kept : ∀ i o, os[i]? = some o → number o = n → at_ (take s (namedBefore number os seen i) o).1 n = at_ s n) :
    at_ (takeAll number take os seen s).1 n = at_ s n := by
  induction os generalizing seen s with
  | nil => rfl
  | cons first rest ih =>
    have once : at_ (take s seen first).1 n = at_ s n := by
      by_cases own : number first = n
      · exact kept 0 first rfl own
      · exact independent.apart s seen first n (Ne.symm own)
    rw [takeAll]
    refine (ih _ _ fun i o is named => ?_).trans once
    by_cases again : number o ∈ namedBefore number rest (number first :: seen) i
    · subst named
      exact independent.repeated _ _ o again
    · have stored := independent.same s seen first _ o (mem_namedBefore_of_seen number List.mem_cons_self i) again
      rw [named] at stored
      rw [stored, once, ← kept (i + 1) o is named, namedBefore_succ]

/-- A source named first at a place is stored as the observation there has it. -/
theorem takeAll_stored (independent : Independent number take at_) {os : List Obs} (seen : List Nat) (s : State) {i : Nat} {o : Obs}
    (is : os[i]? = some o) (first_ : number o ∉ namedBefore number os seen i) :
    at_ (takeAll number take os seen s).1 (number o) = at_ (take s (namedBefore number os seen i) o).1 (number o) := by
  induction os generalizing seen s i with
  | nil => exact absurd is nofun
  | cons first rest ih =>
    rw [takeAll]
    cases i with
    | zero =>
      cases is
      refine takeAll_kept independent _ _ fun k o' _ named => ?_
      rw [← named]
      exact independent.repeated _ _ o' (named ▸ mem_namedBefore_of_seen number List.mem_cons_self k)
    | succ i =>
      rw [namedBefore_succ] at first_ ⊢
      rw [ih _ _ is first_, independent.same _ _ _ _ _ (mem_namedBefore_of_seen number List.mem_cons_self i) first_]

/-- What each observation keeps, a frame keeps. -/
theorem takeAll_preserves {R : State → State → Prop} (refl : ∀ s, R s s) (trans : ∀ s t u, R s t → R t u → R s u)
    (step : ∀ s seen o, R s (take s seen o).1) (os : List Obs) (seen : List Nat) (s : State) : R s (takeAll number take os seen s).1 := by
  induction os generalizing seen s with
  | nil => exact refl s
  | cons o rest ih => exact trans _ _ _ (step s seen o) (ih _ _)

end

/-! ### The examination of an observation (R46) -/

theorem tagMatches_iff (tag : Nat) (owner : Option ParcelNo) :
    tagMatches tag owner = true ↔ tag = 0 ∨ ∃ q : ParcelNo, owner = some q ∧ tag = q.val + 1 := by
  cases owner <;> simp [tagMatches]

theorem rangeOrSentinel_iff {lo hi sentinel v : Int} : rangeOrSentinel lo hi sentinel v = true ↔ lo ≤ v ∧ v ≤ hi ∨ v = sentinel := by
  rw [rangeOrSentinel, Bool.or_eq_true, inRange_iff, decide_eq_true_iff]

/-- The check that refuses an observation, by the first of the four of R46 that fails. -/
structure Examined (fault : Option Code) (named first ranged matched : Prop) : Prop where
  unnamed : ¬named → fault = some .refusedRange
  repeated : named → ¬first → fault = some .refusedFormat
  unranged : named → first → ¬ranged → fault = some .refusedRange
  unmatched : named → first → ranged → ¬matched → fault = some .tagMismatch
  taken : named → first → ranged → matched → fault = none

theorem Examined.of_none {fault : Option Code} {named first ranged matched : Prop} (examined : Examined fault named first ranged matched)
    (none : fault = none) : named ∧ first ∧ ranged ∧ matched := by
  have isNamed : named := by
    by_contra no
    exact absurd (none.symm.trans (examined.unnamed no)) nofun
  have isFirst : first := by
    by_contra no
    exact absurd (none.symm.trans (examined.repeated isNamed no)) nofun
  have isRanged : ranged := by
    by_contra no
    exact absurd (none.symm.trans (examined.unranged isNamed isFirst no)) nofun
  refine ⟨isNamed, isFirst, isRanged, ?_⟩
  by_contra no
  exact absurd (none.symm.trans (examined.unmatched isNamed isFirst isRanged no)) nofun

theorem examined_of_checks {number seen fields tagged : Bool} {tag : Nat} {named first ranged matched : Prop} (isNamed : number = true ↔ named)
    (isSeen : seen = true ↔ ¬first) (isRanged : ¬4 < tag ∧ fields = true ↔ ranged) (isMatched : tagged = true ↔ matched) :
    Examined (if !number then some .refusedRange else if seen then some .refusedFormat else if 4 < tag then some .refusedRange
      else if !fields then some .refusedRange else if !tagged then some .tagMismatch else none) named first ranged matched := by
  have known (yes : named) : ¬(!number) = true := by simp [isNamed.mpr yes]
  have fresh (yes : first) : ¬seen = true := fun again => isSeen.mp again yes
  have sound (yes : ranged) : ¬4 < tag ∧ ¬(!fields) = true := (isRanged.mpr yes).imp_right fun ok => by simp [ok]
  refine ⟨fun no => if_pos ?_, fun isNamed no => (if_neg (known isNamed)).trans (if_pos (isSeen.mpr no)),
    fun isNamed isFirst no => (if_neg (known isNamed)).trans ((if_neg (fresh isFirst)).trans ?_),
    fun isNamed isFirst ranged no => (if_neg (known isNamed)).trans ((if_neg (fresh isFirst)).trans ((if_neg (sound ranged).1).trans
      ((if_neg (sound ranged).2).trans (if_pos ?_)))),
    fun isNamed isFirst ranged matched => (if_neg (known isNamed)).trans ((if_neg (fresh isFirst)).trans ((if_neg (sound ranged).1).trans
      ((if_neg (sound ranged).2).trans (if_neg ?_))))⟩
  · simpa using mt isNamed.mp no
  · split
    · rfl
    next low => exact if_pos (by simpa using fun ok => no (isRanged.mp ⟨low, ok⟩))
  · simpa using mt isMatched.mp no
  · simp [isMatched.mpr matched]

/-! ### One tank observation (R46 to R49, R54) -/

theorem State.takeTankFrame_eq (os : List TankObs) (seen : List Nat) (s : State) :
    State.takeTankFrame os seen s = takeAll TankObs.tank State.takeTankObs os seen s := by
  induction os generalizing seen s with
  | nil => rfl
  | cons o rest ih =>
    rw [takeAll, ← ih]
    rfl

theorem tankObsAt_eq (pl : List Byte) (off n : Nat) : tankObsAt pl off n = (List.range n).map (fun i =>
    ⟨u8 pl (off + 8 * i), u8 pl (off + 1 + 8 * i), u16 pl (off + 2 + 8 * i), s16 pl (off + 4 + 8 * i), u16 pl (off + 6 + 8 * i)⟩) := by
  induction n generalizing off with
  | zero => rfl
  | succ n ih =>
    rw [tankObsAt, ih, List.range_succ_eq_map, List.map_cons, List.map_map]
    refine congrArg (List.cons _) (List.map_congr_left fun i _ => ?_)
    simp only [Function.comp_apply, show ∀ k, off + 8 + k + 8 * i = off + k + 8 * (i + 1) by intro k; omega,
      show off + 8 + 8 * i = off + 8 * (i + 1) by omega]

/-- The tag and the fields of a tank observation within their ranges (R46, check 4). -/
def TankObs.ranged (o : TankObs) : Prop :=
  o.tag ≤ 4 ∧ (o.ullage ≤ 40000 ∨ o.ullage = 65535) ∧ (-4000 ≤ o.temp ∧ o.temp ≤ 15000 ∨ o.temp = -32768)
    ∧ (o.dip ≤ 2000 ∨ o.dip = 65535)

/-- The tag of a tank observation is 0 or names the tank's owner (R46, check 5). -/
def TankObs.matched (o : TankObs) (s : State) : Prop :=
  o.tag = 0 ∨ ∃ q : ParcelNo, (s.tank o.tank).owner = some q ∧ o.tag = q.val + 1

section
variable {s : State} {seen : List Nat} {o : TankObs}

theorem TankObs.ranged_iff : o.ranged ↔ ¬4 < o.tag ∧ (rangeOrSentinel 0 40000 65535 o.ullage
    && rangeOrSentinel (-4000) 15000 (-32768) o.temp && rangeOrSentinel 0 2000 65535 o.dip) = true := by
  simp only [TankObs.ranged, Bool.and_eq_true, rangeOrSentinel_iff, Nat.not_lt]
  omega

theorem State.tankObsFault_examined (s : State) (seen : List Nat) (o : TankObs) :
    Examined (s.tankObsFault seen o) (1 ≤ o.tank ∧ o.tank ≤ 16) (o.tank ∉ seen) o.ranged (o.matched s) :=
  examined_of_checks (inRange_iff.trans (by omega)) (List.contains_iff_mem.trans not_not.symm) TankObs.ranged_iff.symm (tagMatches_iff _ _)

theorem State.takeTankObs_refused {c : Code} (fault : s.tankObsFault seen o = some c) : s.takeTankObs seen o = (s, .refused c) := by
  rw [State.takeTankObs, fault]

theorem State.takeTankObs_stored (taken : s.tankObsFault seen o = none) : s.takeTankObs seen o = (s.setTank o.tank
    ((s.tank o.tank).store o s.clock),
    .tankOk ((s.tank o.tank).store o s.clock).held ((s.tank o.tank).store o s.clock).suspect) := by
  rw [State.takeTankObs, taken]

theorem State.tankObsFault_congr {t : State} (owner : (t.tank o.tank).owner = (s.tank o.tank).owner) :
    t.tankObsFault seen o = s.tankObsFault seen o := by
  rw [State.tankObsFault, State.tankObsFault, owner]

end

section
variable (s : State) (seen : List Nat) (o : TankObs)

theorem State.takeTankObs_apart {n : Nat} (ne : n ≠ o.tank) : (s.takeTankObs seen o).1.tank n = s.tank n := by
  cases fault : s.tankObsFault seen o with
  | some c => rw [State.takeTankObs_refused fault]
  | none =>
    rw [State.takeTankObs_stored fault]
    exact s.tank_setTank_ne ne _

theorem State.takeTankObs_owner (n : Nat) : ((s.takeTankObs seen o).1.tank n).owner = (s.tank n).owner := by
  by_cases own : n = o.tank
  · cases fault : s.tankObsFault seen o with
    | some c => rw [State.takeTankObs_refused fault]
    | none =>
      obtain ⟨⟨low, high⟩, -⟩ := (State.tankObsFault_examined _ _ _).of_none fault
      rw [State.takeTankObs_stored fault, own, s.tank_setTank_same low high]
      rfl
  · rw [s.takeTankObs_apart seen o own]

theorem State.takeTankObs_only : (s.takeTankObs seen o).1 = { s with tanks := (s.takeTankObs seen o).1.tanks } := by
  cases fault : s.tankObsFault seen o with
  | some c => rw [State.takeTankObs_refused fault]
  | none =>
    rw [State.takeTankObs_stored fault]
    unfold State.setTank
    split <;> rfl

theorem State.takeTankObs_clock : (s.takeTankObs seen o).1.clock = s.clock := by rw [s.takeTankObs_only seen o]

end

theorem takeTankObs_independent : Independent TankObs.tank State.takeTankObs State.tank := by
  have faults (s : State) (seen : List Nat) (o : TankObs) (seen' : List Nat) (o' : TankObs) :
      (s.takeTankObs seen o).1.tankObsFault seen' o' = s.tankObsFault seen' o' :=
    State.tankObsFault_congr (s.takeTankObs_owner seen o o'.tank)
  refine ⟨fun s seen o n ne => s.takeTankObs_apart seen o ne, fun s seen o again => ?_, fun s seen o seen' o' mem => ?_,
    fun s seen o seen' o' mem first => ?_⟩
  · cases fault : s.tankObsFault seen o with
    | some c => rw [State.takeTankObs_refused fault]
    | none => exact (((State.tankObsFault_examined _ _ _).of_none fault).2.1 again).elim
  · cases fault : s.tankObsFault seen' o' with
    | some c => rw [State.takeTankObs_refused fault, State.takeTankObs_refused ((faults s seen o seen' o').trans fault)]
    | none =>
      obtain ⟨-, first, -⟩ := (State.tankObsFault_examined _ _ _).of_none fault
      have ne : o'.tank ≠ o.tank := fun same => first (same ▸ mem)
      rw [State.takeTankObs_stored fault, State.takeTankObs_stored ((faults s seen o seen' o').trans fault),
        s.takeTankObs_apart seen o ne, s.takeTankObs_clock]
  · have ne : o'.tank ≠ o.tank := fun same => first (same ▸ mem)
    cases fault : s.tankObsFault seen' o' with
    | some c =>
      rw [State.takeTankObs_refused fault, State.takeTankObs_refused ((faults s seen o seen' o').trans fault), s.takeTankObs_apart seen o ne]
    | none =>
      obtain ⟨⟨low, high⟩, -⟩ := (State.tankObsFault_examined _ _ _).of_none fault
      rw [State.takeTankObs_stored fault, State.takeTankObs_stored ((faults s seen o seen' o').trans fault),
        State.tank_setTank_same _ low high, State.tank_setTank_same _ low high, s.takeTankObs_apart seen o ne, s.takeTankObs_clock]

/-! ### The requests -/

/-- What a frame of tank observations touches. -/
def OnlyTanks (s t : State) : Prop := t = { s with tanks := t.tanks }

theorem OnlyTanks.trans (s t u : State) (h : OnlyTanks s t) (g : OnlyTanks t u) : OnlyTanks s u := by
  unfold OnlyTanks at *
  rw [g, h]

theorem takeTankFrame_only (os : List TankObs) (seen : List Nat) (s : State) : OnlyTanks s (State.takeTankFrame os seen s).1 := by
  rw [State.takeTankFrame_eq]
  exact takeAll_preserves (R := OnlyTanks) (fun _ => rfl) OnlyTanks.trans State.takeTankObs_only os seen s

theorem countedForm_iff {most size : Nat} {pl : List Byte} :
    countedForm most size pl = true ↔ (1 ≤ u8 pl 0 ∧ u8 pl 0 ≤ most) ∧ pl.length = 1 + size * u8 pl 0 := by
  rw [countedForm, Bool.and_eq_true, inRange_iff, decide_eq_true_iff]
  omega

theorem isNone_eq_decide {α : Type} (x : Option α) [Decidable (x = none)] : x.isNone = decide (x = none) := by cases x <;> simp

theorem TankSource.store_eq (t : TankSource) (o : TankObs) (now : Instant) :
    let reading : TankReading :=
      { ullage := if o.ullage = 65535 then t.latest.bind (·.ullage) else some o.ullage
        temp := if o.temp = -32768 then t.latest.bind (·.temp) else some o.temp
        dip := if o.dip = 65535 then (t.latest.map (·.dip)).getD 0 else o.dip
        arrival := now }
    let held := decide (o.ullage = 65535 ∨ o.temp = -32768 ∨ o.dip = 65535)
    let count := if held then min 255 (t.heldCount + 1) else 0
    t.store o now = { t with
      latest := some reading
      held := held
      heldCount := count
      suspect := decide (3 ≤ count ∨ reading.ullage = none ∨ reading.temp = none)
      ring := if t.owner = none then t.ring else (t.ring ++ [TankEntry.mk reading held]).drop (t.ring.length + 1 - t.depth) } := by
  intro reading held count
  have isHeld : o.hasSentinel = held := by simp only [TankObs.hasSentinel, held, Bool.decide_or, Bool.or_assoc]
  have isReading : o.reading t.latest now = reading := rfl
  have isSuspect : tankSuspect count reading = decide (3 ≤ count ∨ reading.ullage = none ∨ reading.temp = none) := by
    simp only [tankSuspect, Bool.decide_or, Bool.or_assoc, isNone_eq_decide]
  have isCount : nextHeldCount held t.heldCount = count := rfl
  unfold TankSource.store
  dsimp only
  rw [isHeld, isReading, isCount, isSuspect]
  cases t.owner <;> rfl

/-- No number is named before a place where none of the observations before it has it. -/
theorem not_mem_namedBefore {Obs : Type} {number : Obs → Nat} {os : List Obs} {obs : Nat → Obs} {n : Nat}
    (is : ∀ i < n, os[i]? = some (obs i)) {i : Nat} (inside : i < n) :
    number (obs i) ∉ namedBefore number os [] i ↔ ∀ k < i, number (obs k) ≠ number (obs i) := by
  rw [mem_namedBefore]
  constructor
  · intro none k early same
    exact none ⟨k, early, obs k, is k (early.trans inside), same⟩
  · rintro apart ⟨k, early, o, at_, same⟩
    cases at_.symm.trans (is k (early.trans inside))
    exact apart k early same

theorem ObsResult.refused_bytes {c : Code} {v : Byte} (is : (c, v) ∈ codesShown) : (ObsResult.refused c).bytes = [v] := by
  have all : ∀ e ∈ codesShown, e1 e.1.value = [e.2] := by decide
  exact all (c, v) is

theorem serve_tankReading {s : State} {l : Link} {tag : Byte} {pl : List Byte} (takes : s.takes l)
    (right : mayRequest .tankReading l = true) (idle : s.store.startingUp = false) (low : 1 ≤ u8 pl 0) (high : u8 pl 0 ≤ 16)
    (form : pl.length = 1 + 8 * u8 pl 0) : let out := State.takeTankFrame (tankObsAt pl 1 (u8 pl 0)) [] (s.hunt l)
    Answered s out.1 (serve .tankReading reqTankReading l tag pl s) l tag (Reply.withFields .ok (eList ObsResult.bytes out.2)) [] := by
  intro out
  refine serve_answered takes right ?_ fun m => ?_
  · have ready : (s.hunt l).store.startingUp = false := by rw [State.hunt_store]; exact idle
    simp only [reqTankReading, ready, countedForm_iff.mpr ⟨⟨low, high⟩, form⟩, if_true, Bool.false_eq_true, if_false]
    rfl
  · have only : OnlyTanks (s.hunt l) out.1 := takeTankFrame_only _ _ _
    rw [only]
    cases m <;> rfl

/-- Settles O36: a frame of tank observations by its places, and the attitude by its ranges. -/
theorem tankAndAttitudeReadingsAreStored : Obligations.TankAndAttitudeReadingsAreStored := by
  unfold Obligations.TankAndAttitudeReadingsAreStored
  refine ⟨fun held suspect => ?_, fun c v is => ObsResult.refused_bytes is, fun s l tag pl takes right idle low high form => ?tanks,
    fun s l tag pl takes right idle form => ?attitude⟩
  · simp only [ObsResult.bytes, eSet_eq]
    rfl
  case tanks =>
    intro obs named first ranged matched
    have served := serve_tankReading (tag := tag) takes right idle low high form
    have links := s.hunt_onlyLinks l
    rw [State.takeTankFrame_eq] at served
    set os := tankObsAt pl 1 (u8 pl 0) with isOs
    have size : os.length = u8 pl 0 := by rw [isOs, tankObsAt_eq, List.length_map, List.length_range]
    have is (i : Nat) (inside : i < u8 pl 0) : os[i]? = some (obs i) := by
      rw [isOs, tankObsAt_eq, List.getElem?_map, List.getElem?_range inside]
      simp only [Option.map_some, obs, Nat.reduceAdd]
    have place (i : Nat) (o : TankObs) (at_ : os[i]? = some o) : i < u8 pl 0 ∧ o = obs i := by
      have inside : i < u8 pl 0 := size ▸ (List.getElem?_eq_some_iff.mp at_).1
      exact ⟨inside, Option.some.inj (at_.symm.trans (is i inside))⟩
    have isFirst {i : Nat} (inside : i < u8 pl 0) : (obs i).tank ∉ namedBefore TankObs.tank os [] i ↔ first i :=
      not_mem_namedBefore is inside
    have isMatched (i : Nat) : (obs i).matched (s.hunt l) ↔ matched i := by
      unfold TankObs.matched
      rw [links.tank]
    have result {i : Nat} (inside : i < u8 pl 0) := takeAll_result takeTankObs_independent [] (s.hunt l) (is i inside)
    refine ⟨_, _, rfl, (takeAll_length os [] (s.hunt l)).trans size, served.replied, ?_, fun n untouched => ?_, fun i inside => ?_⟩
    · have only : OnlyTanks (s.hunt l) (takeAll TankObs.tank State.takeTankObs os [] (s.hunt l)).1 :=
        takeAll_preserves (R := OnlyTanks) (fun _ => rfl) OnlyTanks.trans State.takeTankObs_only os [] (s.hunt l)
      have answered := served.only
      unfold OnlyTanks at only
      unfold OnlyLinks at answered links
      rw [answered, only, links]
    · refine (served.only.tank n).trans ((takeAll_kept takeTankObs_independent [] (s.hunt l) fun i o at_ numbered => ?_).trans (links.tank n))
      obtain ⟨inside, rfl⟩ := place i o at_
      cases fault : (s.hunt l).tankObsFault (namedBefore TankObs.tank os [] i) (obs i) with
      | some c => rw [State.takeTankObs_refused fault]
      | none =>
        obtain ⟨isNamed, before, isRanged, isMatched'⟩ := (State.tankObsFault_examined _ _ _).of_none fault
        exact (untouched i inside isNamed ((isFirst inside).mp before) isRanged ((isMatched i).mp isMatched') numbered).elim
    · have refused {c : Code} (fault : (s.hunt l).tankObsFault (namedBefore TankObs.tank os [] i) (obs i) = some c) :
          (takeAll TankObs.tank State.takeTankObs os [] (s.hunt l)).2[i]? = some (.refused c) := by
        rw [result inside, State.takeTankObs_refused fault]
      have examined := (s.hunt l).tankObsFault_examined (namedBefore TankObs.tank os [] i) (obs i)
      rw [isFirst inside, isMatched] at examined
      refine ⟨fun unnamed => refused (examined.unnamed unnamed), fun isNamed again => refused (examined.repeated isNamed again),
        fun isNamed before unranged => refused (examined.unranged isNamed before unranged),
        fun isNamed before isRanged unmatched => refused (examined.unmatched isNamed before isRanged unmatched),
        fun isNamed before isRanged isMatched' => ?_⟩
      intro old reading held count suspect
      have taken := examined.taken isNamed before isRanged isMatched'
      have stored := TankSource.store_eq old (obs i) s.clock
      dsimp only at stored
      refine ⟨(served.only.tank _).trans ((takeAll_stored takeTankObs_independent [] (s.hunt l) (is i inside)
        ((isFirst inside).mpr before)).trans ?_), (result inside).trans ?_⟩
      · rw [State.takeTankObs_stored taken, State.tank_setTank_same _ isNamed.1 isNamed.2, links.tank, State.hunt_clock, stored]
      · rw [State.takeTankObs_stored taken, links.tank, State.hunt_clock, stored]
  case attitude =>
    intro ranged
    have ready : (s.hunt l).store.startingUp = false := by rw [State.hunt_store]; exact idle
    have formed : formLen 4 pl = true := decide_eq_true form
    have isRanged : (inRange (-5000) 5000 (s16 pl 0) && inRange (-500) 500 (s16 pl 2)) = true ↔ ranged := by
      rw [Bool.and_eq_true, inRange_iff, inRange_iff, and_assoc]
    refine ⟨fun inside => ?_, fun outside => ?_⟩
    · have answer : reqAttitudeReading l pl (s.hunt l)
          = ({ s.hunt l with att := s.att.store ⟨s16 pl 0, s16 pl 2, s.clock⟩ }, Reply.withFields .ok [1, 0, 0]) := by
        have bytes : eList ObsResult.bytes [.tankOk false false] = [1, 0, 0] := by decide
        simp only [reqAttitudeReading, ready, formed, isRanged.mpr inside, Bool.false_eq_true, if_false, if_true, State.hunt_att,
          State.hunt_clock, bytes]
      have served := serve_answered (tag := tag) (bs := []) takes right answer fun m => by cases m <;> rfl
      have answered := served.only
      have links := s.hunt_onlyLinks l
      have att : (serve .attitudeReading reqAttitudeReading l tag pl s).att = s.att.store ⟨s16 pl 0, s16 pl 2, s.clock⟩ := answered.att
      refine ⟨_, rfl, ?_, by rw [att]; rfl, by rw [att]; rfl, served.replied⟩
      unfold OnlyLinks at answered links
      rw [answered, links]
    · have answer : reqAttitudeReading l pl (s.hunt l) = (s.hunt l, Reply.withFields .ok [1, 0x12]) := by
        have bytes : eList ObsResult.bytes [.refused .refusedRange] = [1, 0x12] := by decide
        simp only [reqAttitudeReading, ready, formed, Bool.eq_false_of_not_eq_true (mt isRanged.mp outside), Bool.false_eq_true, if_false,
          if_true, bytes]
      obtain ⟨replied, only⟩ := serve_unchanged (tag := tag) takes right answer
      exact ⟨_, rfl, only, replied⟩

end Sys2Proof.Machine
end

section
/-!
PROOFS. METER_READING: each observation, its rate, and the flow it reports to its owner (R45 to R50, R54, R57, R58, R16, R17).
-/

namespace Sys2Proof.Machine

/-! ### The flow a rate reports (R16, R17, R58) -/

/-- A record with a flowing observation reported to it. -/
def Parcel.flowed (r : Parcel) (now : Instant) : Parcel := { r with lastFlow := some now, settleArmed := true, restoreArmed := true }

theorem Parcel.flowed_flowed (r : Parcel) (now : Instant) : (r.flowed now).flowed now = r.flowed now := rfl

/-- Whether a parcel owns a flowing meter and takes its flow. -/
def State.takesRate (s : State) (p : ParcelNo) (owner : Option ParcelNo) (rate : Option Nat) : Prop :=
  owner = some p ∧ (∃ v, rate = some v ∧ (s.parcel p).params.flowThreshold ≤ v) ∧ (s.parcel p).state.takesFlow = true

section
variable (s : State) (p : ParcelNo) (owner : Option ParcelNo) (rate : Option Nat)

theorem State.flowing_takes (takes : s.takesRate p owner rate) : s.flowing owner rate = s.setParcel p ((s.parcel p).flowed s.clock) := by
  obtain ⟨rfl, ⟨v, rfl, enough⟩, state⟩ := takes
  simp only [State.flowing, enough, if_true, State.reportFlow, state]
  rfl

/-- Where a flow is reported, its parcel takes it; otherwise nothing changes. -/
theorem State.flowing_cases : (∃ q, s.takesRate q owner rate) ∨ s.flowing owner rate = s := by
  by_cases takes : ∃ q, s.takesRate q owner rate
  · exact .inl takes
  · refine .inr ?_
    unfold State.flowing
    split
    next q v =>
      split
      next enough =>
        unfold State.reportFlow
        exact if_neg fun state => takes ⟨q, rfl, ⟨v, rfl, enough⟩, state⟩
      next => rfl
    next => rfl

theorem State.parcel_flowing_takes (takes : s.takesRate p owner rate) :
    (s.flowing owner rate).parcel p = (s.parcel p).flowed s.clock := by
  rw [s.flowing_takes p owner rate takes, State.parcel_setParcel_same]

theorem State.parcel_flowing_apart (apart : ¬s.takesRate p owner rate) : (s.flowing owner rate).parcel p = s.parcel p := by
  obtain ⟨q, takes⟩ | same := s.flowing_cases owner rate
  · rw [s.flowing_takes q owner rate takes]
    refine State.parcel_setParcel_ne _ (fun is => ?_) _
    subst is
    exact apart takes
  · rw [same]

theorem State.flowing_only : s.flowing owner rate = { s with parcels := (s.flowing owner rate).parcels } := by
  obtain ⟨q, takes⟩ | same := s.flowing_cases owner rate
  · rw [s.flowing_takes q owner rate takes]
    rfl
  · rw [same]

theorem State.meter_flowing (n : Nat) : (s.flowing owner rate).meter n = s.meter n := by
  rw [s.flowing_only owner rate]
  rfl

end

/-! ### One meter observation (R46 to R50, R54, R57) -/

theorem State.takeMeterFrame_eq (os : List MeterObs) (seen : List Nat) (s : State) :
    State.takeMeterFrame os seen s = takeAll MeterObs.meter State.takeMeterObs os seen s := by
  induction os generalizing seen s with
  | nil => rfl
  | cons o rest ih =>
    rw [takeAll, ← ih]
    rfl

theorem meterObsAt_eq (pl : List Byte) (off n : Nat) : meterObsAt pl off n = (List.range n).map (fun i =>
    ⟨u8 pl (off + 10 * i), u8 pl (off + 1 + 10 * i), u32 pl (off + 2 + 10 * i), s16 pl (off + 6 + 10 * i),
      u16 pl (off + 8 + 10 * i)⟩) := by
  induction n generalizing off with
  | zero => rfl
  | succ n ih =>
    rw [meterObsAt, ih, List.range_succ_eq_map, List.map_cons, List.map_map]
    refine congrArg (List.cons _) (List.map_congr_left fun i _ => ?_)
    simp only [Function.comp_apply, show ∀ k, off + 10 + k + 10 * i = off + k + 10 * (i + 1) by intro k; omega,
      show off + 10 + 10 * i = off + 10 * (i + 1) by omega]

/-- The tag and the fields of a meter observation within their ranges (R46, check 4). -/
def MeterObs.ranged (o : MeterObs) : Prop :=
  o.tag ≤ 4 ∧ (o.total ≤ 999999999 ∨ o.total = 4294967295) ∧ (-4000 ≤ o.temp ∧ o.temp ≤ 15000 ∨ o.temp = -32768)
    ∧ (o.pressure ≤ 2500 ∨ o.pressure = 65535)

/-- The tag of a meter observation is 0 or names the meter's owner (R46, check 5). -/
def MeterObs.matched (o : MeterObs) (s : State) : Prop :=
  o.tag = 0 ∨ ∃ q : ParcelNo, (s.meter o.meter).owner = some q ∧ o.tag = q.val + 1

theorem MeterObs.ranged_iff {o : MeterObs} : o.ranged ↔ ¬4 < o.tag ∧ (rangeOrSentinel 0 999999999 4294967295 o.total
    && rangeOrSentinel (-4000) 15000 (-32768) o.temp && rangeOrSentinel 0 2500 65535 o.pressure) = true := by
  simp only [MeterObs.ranged, Bool.and_eq_true, rangeOrSentinel_iff, Nat.not_lt]
  omega

theorem State.meterObsFault_examined (s : State) (seen : List Nat) (o : MeterObs) :
    Examined (s.meterObsFault seen o) (1 ≤ o.meter ∧ o.meter ≤ 8) (o.meter ∉ seen) o.ranged (o.matched s) :=
  examined_of_checks (inRange_iff.trans (by omega)) (List.contains_iff_mem.trans not_not.symm) MeterObs.ranged_iff.symm (tagMatches_iff _ _)

section
variable {s : State} {seen : List Nat} {o : MeterObs}

theorem State.takeMeterObs_refused {c : Code} (fault : s.meterObsFault seen o = some c) : s.takeMeterObs seen o = (s, .refused c) := by
  rw [State.takeMeterObs, fault]

/-- The meter as a taken observation leaves it. -/
def MeterSource.taken (m : MeterSource) (o : MeterObs) (now : Instant) : MeterSource := (m.store o now).withRate

theorem State.takeMeterObs_stored (taken : s.meterObsFault seen o = none) : s.takeMeterObs seen o =
    ((s.setMeter o.meter ((s.meter o.meter).taken o s.clock)).flowing (s.meter o.meter).owner ((s.meter o.meter).store o s.clock).newRate,
      .meterOk ((s.meter o.meter).store o s.clock).held ((s.meter o.meter).store o s.clock).reverse
        ((s.meter o.meter).store o s.clock).suspect ((s.meter o.meter).store o s.clock).newRate) := by
  rw [State.takeMeterObs, taken]
  rfl

theorem State.meterObsFault_congr {t : State} (owner : (t.meter o.meter).owner = (s.meter o.meter).owner) :
    t.meterObsFault seen o = s.meterObsFault seen o := by
  rw [State.meterObsFault, State.meterObsFault, owner]

end

theorem MeterSource.taken_owner (m : MeterSource) (o : MeterObs) (now : Instant) : (m.taken o now).owner = m.owner := by
  rw [MeterSource.taken, MeterSource.withRate_eq]
  rfl

section
variable (s : State) (seen : List Nat) (o : MeterObs)

theorem State.takeMeterObs_apart {n : Nat} (ne : n ≠ o.meter) : (s.takeMeterObs seen o).1.meter n = s.meter n := by
  cases fault : s.meterObsFault seen o with
  | some c => rw [State.takeMeterObs_refused fault]
  | none =>
    rw [State.takeMeterObs_stored fault]
    exact (State.meter_flowing _ _ _ _).trans (s.meter_setMeter_ne ne _)

theorem State.takeMeterObs_meter (taken : s.meterObsFault seen o = none) :
    (s.takeMeterObs seen o).1.meter o.meter = (s.meter o.meter).taken o s.clock := by
  obtain ⟨⟨low, high⟩, -⟩ := (s.meterObsFault_examined seen o).of_none taken
  rw [State.takeMeterObs_stored taken]
  exact (State.meter_flowing _ _ _ _).trans (s.meter_setMeter_same low high _)

theorem State.takeMeterObs_owner (n : Nat) : ((s.takeMeterObs seen o).1.meter n).owner = (s.meter n).owner := by
  by_cases own : n = o.meter
  · cases fault : s.meterObsFault seen o with
    | some c => rw [State.takeMeterObs_refused fault]
    | none => rw [own, s.takeMeterObs_meter seen o fault, MeterSource.taken_owner]
  · rw [s.takeMeterObs_apart seen o own]

/-- What a frame of meter observations touches. -/
def OnlyMeters (s t : State) : Prop := t = { s with meters := t.meters, parcels := t.parcels }

theorem OnlyMeters.trans (s t u : State) (h : OnlyMeters s t) (g : OnlyMeters t u) : OnlyMeters s u := by
  unfold OnlyMeters at *
  rw [g, h]

theorem State.takeMeterObs_only : OnlyMeters s (s.takeMeterObs seen o).1 := by
  cases fault : s.meterObsFault seen o with
  | some c =>
    rw [State.takeMeterObs_refused fault]
    rfl
  | none =>
    rw [State.takeMeterObs_stored fault]
    unfold OnlyMeters
    dsimp only
    rw [State.flowing_only]
    unfold State.setMeter
    split <;> rfl

theorem State.takeMeterObs_clock : (s.takeMeterObs seen o).1.clock = s.clock := by
  have only := s.takeMeterObs_only seen o
  unfold OnlyMeters at only
  rw [only]

end

theorem takeMeterObs_independent : Independent MeterObs.meter State.takeMeterObs State.meter := by
  have faults (s : State) (seen : List Nat) (o : MeterObs) (seen' : List Nat) (o' : MeterObs) :
      (s.takeMeterObs seen o).1.meterObsFault seen' o' = s.meterObsFault seen' o' :=
    State.meterObsFault_congr (s.takeMeterObs_owner seen o o'.meter)
  refine ⟨fun s seen o n ne => s.takeMeterObs_apart seen o ne, fun s seen o again => ?_, fun s seen o seen' o' mem => ?_,
    fun s seen o seen' o' mem first => ?_⟩
  · cases fault : s.meterObsFault seen o with
    | some c => rw [State.takeMeterObs_refused fault]
    | none => exact (((s.meterObsFault_examined seen o).of_none fault).2.1 again).elim
  · cases fault : s.meterObsFault seen' o' with
    | some c => rw [State.takeMeterObs_refused fault, State.takeMeterObs_refused ((faults s seen o seen' o').trans fault)]
    | none =>
      obtain ⟨-, first, -⟩ := (s.meterObsFault_examined seen' o').of_none fault
      have ne : o'.meter ≠ o.meter := fun same => first (same ▸ mem)
      rw [State.takeMeterObs_stored fault, State.takeMeterObs_stored ((faults s seen o seen' o').trans fault),
        s.takeMeterObs_apart seen o ne, s.takeMeterObs_clock]
  · have ne : o'.meter ≠ o.meter := fun same => first (same ▸ mem)
    cases fault : s.meterObsFault seen' o' with
    | some c =>
      rw [State.takeMeterObs_refused fault, State.takeMeterObs_refused ((faults s seen o seen' o').trans fault),
        s.takeMeterObs_apart seen o ne]
    | none =>
      rw [State.takeMeterObs_meter _ _ _ fault, State.takeMeterObs_meter _ _ _ ((faults s seen o seen' o').trans fault),
        s.takeMeterObs_apart seen o ne, s.takeMeterObs_clock]

/-! ### The flow a frame reports -/

/-- An observation taken whose rate its meter's owner takes as flow. -/
def State.reportsFlow (s : State) (seen : List Nat) (o : MeterObs) (p : ParcelNo) : Prop :=
  ∃ rate h v x, (s.takeMeterObs seen o).2 = .meterOk h v x (some rate) ∧ (s.meter o.meter).owner = some p
    ∧ (s.parcel p).params.flowThreshold ≤ rate ∧ (s.parcel p).state.takesFlow = true

theorem State.takeMeterObs_parcel (s : State) (seen : List Nat) (o : MeterObs) (p : ParcelNo) :
    (s.reportsFlow seen o p → (s.takeMeterObs seen o).1.parcel p = (s.parcel p).flowed s.clock)
      ∧ (¬s.reportsFlow seen o p → (s.takeMeterObs seen o).1.parcel p = s.parcel p) := by
  cases fault : s.meterObsFault seen o with
  | some c =>
    rw [State.reportsFlow, State.takeMeterObs_refused fault]
    exact ⟨fun ⟨_, _, _, _, refused, _⟩ => absurd refused nofun, fun _ => rfl⟩
  | none =>
    have parcel (m : MeterSource) : (s.setMeter o.meter m).parcel p = s.parcel p := State.parcel_congr (s.setMeter_parcels _ _) p
    have clock (m : MeterSource) : (s.setMeter o.meter m).clock = s.clock := s.setMeter_clock _ _
    rw [State.reportsFlow, State.takeMeterObs_stored fault]
    refine ⟨fun ⟨rate, _, _, _, result, owner, enough, state⟩ => ?_, fun quiet => ?_⟩
    · obtain ⟨-, -, -, isRate⟩ := ObsResult.meterOk.inj result
      refine (State.parcel_flowing_takes _ p _ _ ?_).trans (by rw [parcel, clock])
      unfold State.takesRate
      rw [parcel]
      exact ⟨owner, ⟨rate, isRate, enough⟩, state⟩
    · refine (State.parcel_flowing_apart _ p _ _ fun takes => ?_).trans (parcel _)
      unfold State.takesRate at takes
      rw [parcel] at takes
      obtain ⟨owner, ⟨rate, isRate, enough⟩, state⟩ := takes
      exact quiet ⟨rate, _, _, _, by rw [isRate], owner, enough, state⟩

/-- Whether an observation reports flow does not hang on those taken before it, of other meters. -/
theorem State.reportsFlow_takeMeterObs (s : State) (seen : List Nat) (o : MeterObs) {seen' : List Nat} (mem : o.meter ∈ seen') (o' : MeterObs)
    (p : ParcelNo) : (s.takeMeterObs seen o).1.reportsFlow seen' o' p ↔ s.reportsFlow seen' o' p := by
  have fields : ((s.takeMeterObs seen o).1.parcel p).params = (s.parcel p).params
      ∧ ((s.takeMeterObs seen o).1.parcel p).state = (s.parcel p).state := by
    obtain ⟨reports, quiet⟩ := s.takeMeterObs_parcel seen o p
    by_cases flows : s.reportsFlow seen o p
    · rw [reports flows]
      exact ⟨rfl, rfl⟩
    · rw [quiet flows]
      exact ⟨rfl, rfl⟩
  rw [State.reportsFlow, State.reportsFlow, takeMeterObs_independent.result s seen o seen' o' mem, s.takeMeterObs_owner, fields.1, fields.2]

/-- A frame reports flow to a parcel where one of its observations does. -/
theorem takeMeterFrame_parcel (os : List MeterObs) (seen : List Nat) (s : State) (p : ParcelNo) :
    let reports := ∃ i o, os[i]? = some o ∧ s.reportsFlow (namedBefore MeterObs.meter os seen i) o p
    let t := (takeAll MeterObs.meter State.takeMeterObs os seen s).1
    (reports → t.parcel p = (s.parcel p).flowed s.clock) ∧ (¬reports → t.parcel p = s.parcel p) := by
  induction os generalizing seen s with
  | nil => exact ⟨fun ⟨_, _, is, _⟩ => absurd is nofun, fun _ => rfl⟩
  | cons first rest ih =>
    obtain ⟨once, not_once⟩ := s.takeMeterObs_parcel seen first p
    obtain ⟨later, not_later⟩ := ih (first.meter :: seen) (s.takeMeterObs seen first).1
    have shift (i : Nat) (o : MeterObs) : (s.takeMeterObs seen first).1.reportsFlow (namedBefore MeterObs.meter rest (first.meter :: seen) i) o p
        ↔ s.reportsFlow (namedBefore MeterObs.meter (first :: rest) seen (i + 1)) o p := by
      rw [namedBefore_succ]
      exact s.reportsFlow_takeMeterObs seen first (mem_namedBefore_of_seen _ List.mem_cons_self i) o p
    simp only [shift, s.takeMeterObs_clock] at later not_later
    dsimp only
    rw [takeAll]
    refine ⟨fun ⟨i, o, is, flows⟩ => ?_, fun quiet => ?_⟩
    · by_cases again : ∃ i o, rest[i]? = some o ∧ s.reportsFlow (namedBefore MeterObs.meter (first :: rest) seen (i + 1)) o p
      · rw [later again]
        by_cases flows : s.reportsFlow seen first p
        · rw [once flows, Parcel.flowed_flowed]
        · rw [not_once flows]
      · rw [not_later again]
        cases i with
        | zero =>
          cases is
          exact once flows
        | succ i => exact (again ⟨i, o, is, flows⟩).elim
    · rw [not_later fun ⟨i, o, is, flows⟩ => quiet ⟨i + 1, o, is, flows⟩]
      exact not_once fun flows => quiet ⟨0, first, rfl, flows⟩

/-! ### The request -/

theorem MeterSource.store_eq (m : MeterSource) (o : MeterObs) (now : Instant) :
    let given : Option Nat := if o.total = 4294967295 then none else some o.total
    let reverse := decide (m.stepHold ≠ .ended) && stepsBack given (m.latest.bind (·.total))
    let reading : MeterReading :=
      { total := if reverse = true ∨ given = none then m.latest.bind (·.total) else given
        temp := if o.temp = -32768 then m.latest.bind (·.temp) else some o.temp
        pressure := if o.pressure = 65535 then m.latest.bind (·.pressure) else some o.pressure
        arrival := now }
    let held := reverse || decide (given = none ∨ o.temp = -32768 ∨ o.pressure = 65535)
    let count := if held then min 255 (m.heldCount + 1) else 0
    m.store o now = { m with
      latest := some reading
      held := held
      reverse := reverse
      heldCount := count
      suspect := decide (3 ≤ count ∨ reading.total = none ∨ reading.temp = none ∨ reading.pressure = none)
      ring := if m.owner = none then m.ring
        else (m.ring ++ [MeterEntry.mk reading held reverse]).drop (m.ring.length + 1 - m.depth)
      stepHold := if given = none then m.stepHold else if reverse = true then .holding else .none } := by
  intro given reverse reading held count
  have isReverse : o.backward m = reverse := rfl
  have isHeld : (o.hasSentinel || o.backward m) = held := by
    rw [Bool.or_comm, isReverse]
    simp only [MeterObs.hasSentinel, held, given, MeterObs.givenTotal, isNone_eq_decide, Bool.decide_or, Bool.or_assoc]
  have isReading : o.reading m now = reading := by
    simp only [MeterObs.reading, isReverse, reading, Bool.or_eq_true, Option.isNone_iff_eq_none, given, MeterObs.givenTotal]
  have isHold : o.stepHold m = if given = none then m.stepHold else if reverse = true then .holding else .none := by
    simp only [MeterObs.stepHold, isReverse, Option.isNone_iff_eq_none, given, MeterObs.givenTotal]
  have isSuspect : meterSuspect count reading
      = decide (3 ≤ count ∨ reading.total = none ∨ reading.temp = none ∨ reading.pressure = none) := by
    simp only [meterSuspect, Bool.decide_or, Bool.or_assoc, isNone_eq_decide]
  have isCount : nextHeldCount held m.heldCount = count := rfl
  unfold MeterSource.store
  dsimp only
  rw [isHeld, isReading, isReverse, isCount, isSuspect, isHold]
  cases m.owner <;> rfl

/-- The rate a stored observation gives, and the rate that then stands (R57). -/
theorem MeterSource.taken_eq (m : MeterSource) (o : MeterObs) (now : Instant) : m.taken o now = { m.store o now with
    rate := if (m.store o now).newRate = none then m.rate else (m.store o now).newRate } := by
  rw [MeterSource.taken, MeterSource.withRate_eq]
  cases (m.store o now).newRate <;> rfl

theorem MeterSource.newRate_eq (m : MeterSource) : m.newRate = if m.owner = none then none else ringRate m.ring := by
  unfold MeterSource.newRate
  cases m.owner <;> rfl

theorem serve_meterReading {s : State} {l : Link} {tag : Byte} {pl : List Byte} (takes : s.takes l)
    (right : mayRequest .meterReading l = true) (idle : s.store.startingUp = false) (low : 1 ≤ u8 pl 0) (high : u8 pl 0 ≤ 8)
    (form : pl.length = 1 + 10 * u8 pl 0) :
    let out := takeAll MeterObs.meter State.takeMeterObs (meterObsAt pl 1 (u8 pl 0)) [] (s.hunt l)
    OnlyMeters (s.hunt l) out.1
      ∧ Answered s out.1 (serve .meterReading reqMeterReading l tag pl s) l tag (Reply.withFields .ok (eList ObsResult.bytes out.2)) [] := by
  intro out
  have only : OnlyMeters (s.hunt l) out.1 :=
    takeAll_preserves (R := OnlyMeters) (fun _ => rfl) OnlyMeters.trans State.takeMeterObs_only _ _ _
  refine ⟨only, serve_answered takes right ?_ fun m => ?_⟩
  · have ready : (s.hunt l).store.startingUp = false := by rw [State.hunt_store]; exact idle
    simp only [reqMeterReading, ready, countedForm_iff.mpr ⟨⟨low, high⟩, form⟩, if_true, Bool.false_eq_true, if_false,
      State.takeMeterFrame_eq]
    rfl
  · rw [only]
    cases m <;> rfl

/-- Settles O37: a frame of meter observations by its places, and the flow it reports by its owners. -/
theorem meterReadingsAreStored : Obligations.MeterReadingsAreStored := by
  unfold Obligations.MeterReadingsAreStored
  refine ⟨fun x => ?_, fun r now => ⟨fun t is => ?_, fun none => ?_⟩, fun n o => ⟨rfl, rfl, rfl, rfl⟩, fun held reverse suspect rate => ?_,
    fun c v is => ObsResult.refused_bytes is, fun s l tag pl takes right idle low high form => ?request⟩
  · cases x <;> decide
  · rw [Parcel.noFlow, is]
    rfl
  · rw [Parcel.noFlow, none]
    rfl
  · simp only [ObsResult.bytes, eSet_eq, eOpt_eq, e4_eq, shownNat_eq]
    rfl
  case request =>
    intro obs named first ranged matched taken
    obtain ⟨only, served⟩ := serve_meterReading (tag := tag) takes right idle low high form
    have links := s.hunt_onlyLinks l
    set os := meterObsAt pl 1 (u8 pl 0) with isOs
    have size : os.length = u8 pl 0 := by rw [isOs, meterObsAt_eq, List.length_map, List.length_range]
    have is (i : Nat) (inside : i < u8 pl 0) : os[i]? = some (obs i) := by
      rw [isOs, meterObsAt_eq, List.getElem?_map, List.getElem?_range inside]
      simp only [Option.map_some, obs, Nat.reduceAdd]
    have place (i : Nat) (o : MeterObs) (at_ : os[i]? = some o) : i < u8 pl 0 ∧ o = obs i := by
      have inside : i < u8 pl 0 := size ▸ (List.getElem?_eq_some_iff.mp at_).1
      exact ⟨inside, Option.some.inj (at_.symm.trans (is i inside))⟩
    have isFirst {i : Nat} (inside : i < u8 pl 0) : (obs i).meter ∉ namedBefore MeterObs.meter os [] i ↔ first i :=
      not_mem_namedBefore is inside
    have isMatched (i : Nat) : (obs i).matched (s.hunt l) ↔ matched i := by
      unfold MeterObs.matched
      rw [links.meter]
    have examined {i : Nat} (inside : i < u8 pl 0) : Examined ((s.hunt l).meterObsFault (namedBefore MeterObs.meter os [] i) (obs i))
        (named i) (first i) (ranged i) (matched i) := by
      have checks := (s.hunt l).meterObsFault_examined (namedBefore MeterObs.meter os [] i) (obs i)
      rw [isFirst inside, isMatched] at checks
      exact checks
    have result {i : Nat} (inside : i < u8 pl 0) := takeAll_result takeMeterObs_independent [] (s.hunt l) (is i inside)
    refine ⟨_, _, rfl, (takeAll_length os [] (s.hunt l)).trans size, served.replied, ?only, fun n untouched => ?kept, fun i inside => ?each,
      fun p => ?flow⟩
    case only =>
      have answered := served.only
      unfold OnlyMeters at only
      unfold OnlyLinks at answered links
      rw [answered, only, links]
    case kept =>
      refine (served.only.meter n).trans ((takeAll_kept takeMeterObs_independent [] (s.hunt l) fun i o at_ numbered => ?_).trans (links.meter n))
      obtain ⟨inside, rfl⟩ := place i o at_
      cases fault : (s.hunt l).meterObsFault (namedBefore MeterObs.meter os [] i) (obs i) with
      | some c => rw [State.takeMeterObs_refused fault]
      | none => exact (untouched i ⟨inside, (examined inside).of_none fault⟩ numbered).elim
    case each =>
      have refused {c : Code} (fault : (s.hunt l).meterObsFault (namedBefore MeterObs.meter os [] i) (obs i) = some c) :
          (takeAll MeterObs.meter State.takeMeterObs os [] (s.hunt l)).2[i]? = some (.refused c) := by
        rw [result inside, State.takeMeterObs_refused fault]
      refine ⟨fun unnamed => refused ((examined inside).unnamed unnamed), fun isNamed again => refused ((examined inside).repeated isNamed again),
        fun isNamed before unranged => refused ((examined inside).unranged isNamed before unranged),
        fun isNamed before isRanged unmatched => refused ((examined inside).unmatched isNamed before isRanged unmatched), fun isTaken => ?_⟩
      obtain ⟨-, isNamed, before, isRanged, isMatched'⟩ := isTaken
      intro old given reverse reading held count suspect ring rate
      have fault := (examined inside).taken isNamed before isRanged isMatched'
      have stored := MeterSource.store_eq old (obs i) s.clock
      dsimp only at stored
      have isRate : (old.store (obs i) s.clock).newRate = rate := by
        rw [MeterSource.newRate_eq, stored]
      have meter := (s.hunt l).takeMeterObs_meter _ (obs i) fault
      rw [links.meter, State.hunt_clock] at meter
      refine ⟨(served.only.meter _).trans ((takeAll_stored takeMeterObs_independent [] (s.hunt l) (is i inside)
        ((isFirst inside).mpr before)).trans (meter.trans ?_)), (result inside).trans ?_⟩
      · rw [MeterSource.taken_eq, isRate, stored]
      · rw [State.takeMeterObs_stored fault, links.meter, State.hunt_clock, isRate, stored]
    case flow =>
      obtain ⟨reports, quiet⟩ := takeMeterFrame_parcel os [] (s.hunt l) p
      rw [links.parcel] at reports quiet
      rw [State.hunt_clock] at reports
      have parcel : (serve .meterReading reqMeterReading l tag pl s).parcel p = _ := served.only.parcel p
      have flows : (∃ i o, os[i]? = some o ∧ (s.hunt l).reportsFlow (namedBefore MeterObs.meter os [] i) o p)
          ↔ (∃ i rate h v x, taken i ∧ (s.meter (obs i).meter).owner = some p
            ∧ (takeAll MeterObs.meter State.takeMeterObs os [] (s.hunt l)).2[i]? = some (.meterOk h v x (some rate))
            ∧ (s.parcel p).params.flowThreshold ≤ rate) ∧ (s.parcel p).state.takesFlow = true := by
        unfold State.reportsFlow
        rw [links.parcel]
        constructor
        · rintro ⟨i, o, at_, rate, h, v, x, isResult, owner, enough, state⟩
          obtain ⟨inside, rfl⟩ := place i o at_
          rw [links.meter] at owner
          cases fault : (s.hunt l).meterObsFault (namedBefore MeterObs.meter os [] i) (obs i) with
          | some c =>
            rw [State.takeMeterObs_refused fault] at isResult
            exact absurd isResult nofun
          | none =>
            exact ⟨⟨i, rate, h, v, x, ⟨inside, (examined inside).of_none fault⟩, owner, (result inside).trans (congrArg some isResult), enough⟩,
              state⟩
        · rintro ⟨⟨i, rate, h, v, x, ⟨inside, -⟩, owner, isResult, enough⟩, state⟩
          refine ⟨i, obs i, is i inside, rate, h, v, x, Option.some.inj ((result inside).symm.trans isResult), ?_, enough, state⟩
          rw [links.meter]
          exact owner
      exact ⟨fun yes => parcel.trans (reports (flows.mpr yes)), fun no => parcel.trans (quiet fun yes => no (flows.mp yes))⟩

end Sys2Proof.Machine
end

section
/-!
PROOFS. The checks every request meets, in their order (R2, R195, R196).
-/

namespace Sys2Proof.Machine

/-! ### The requests by their checks -/

/-- The requests of the Table Store, and READ_RECORD. -/
def storeRequests : List Req :=
  [.tableBegin, .tableData, .tableCommit, .readTable, .lockTable, .unlockTable, .verifyStore, .clearHistory, .readRecord]

theorem Req.kinds (r : Req) : (r.namesParcel = true ∧ r ≠ .readParcel) ∨ r ∈ storeRequests ∨ r = .declare
    ∨ r ∈ [.tankReading, .attitudeReading, .meterReading] ∨ r ∈ [.readParcel, .status, .silenceAlarm, .setCalendar] := by
  cases r <;> decide

/-- How a request that names a parcel is examined before its own rule. -/
structure ParcelRule (r : Req) (l : Link) (pl : List Byte) (s : State) (form : List Byte → Bool) (k : ParcelNo → State × Reply) : Prop where
  body : r.body l pl s = withParcel form pl s k
  formed : form pl = true ↔ r.formed l pl
  state : ∀ p, r.takenIn (s.parcel p).state = false → r.busyIn (s.parcel p).state = false → k p = refuse s .refusedState
  busy : ∀ p, r.busyIn (s.parcel p).state = true → k p = refuse s .refusedBusy

theorem formLen_iff {n : Nat} {pl : List Byte} : formLen n pl = true ↔ pl.length = n := decide_eq_true_iff

/-- A rule that looks at the state alone, or at it first, and is never turned away as busy. -/
theorem ParcelRule.of_if {r : Req} {l : Link} {pl : List Byte} {s : State} {n : Nat} {c : ParcelNo → Prop} [DecidablePred c]
    {f : ParcelNo → State × Reply} (body : r.body l pl s = withParcel (formLen n) pl s fun p => if c p then f p else refuse s .refusedState)
    (formed : r.formed l pl ↔ pl.length = n) (taken : ∀ p, c p → r.takenIn (s.parcel p).state = true)
    (never : ∀ x, r.busyIn x = false) : ParcelRule r l pl s (formLen n) fun p => if c p then f p else refuse s .refusedState where
  body := body
  formed := formLen_iff.trans formed.symm
  state p out _ := if_neg fun holds => absurd ((taken p holds).symm.trans out) nofun
  busy _ is := absurd ((never _).symm.trans is) nofun

theorem ParcelState.abortable_iff {x : ParcelState} : x.abortable = true ↔
    x = .opening ∨ x = .transferring ∨ x = .suspended ∨ x = .closing ∨ x = .awaitingAccept := by cases x <;> decide

theorem parcelRule {r : Req} {l : Link} (names : r.namesParcel = true) (other : r ≠ .readParcel) (right : mayRequest r l = true)
    (pl : List Byte) (s : State) : ∃ form k, ParcelRule r l pl s form k := by
  cases r with
  | setParameter | assignTank | unassignTank | assignMeter | unassignMeter | abandon =>
    exact ⟨_, _, .of_if rfl Iff.rfl (fun p is => decide_eq_true ((ParcelState.declarable_iff _).mp is)) fun _ => rfl⟩
  | suspend | resume | close | restoreGrade =>
    exact ⟨_, _, .of_if rfl Iff.rfl (fun p is => decide_eq_true ((Parcel.inTransfer_iff _).mp is)) fun _ => rfl⟩
  | cancelClose =>
    exact ⟨_, _, .of_if rfl Iff.rfl (fun p is => decide_eq_true ((Parcel.inTransfer_iff _).mp ((Bool.and_eq_true _ _).mp is).1)) fun _ => rfl⟩
  | release => exact ⟨_, _, .of_if rfl Iff.rfl (fun p is => decide_eq_true ((ParcelState.ended_iff _).mp is)) fun _ => rfl⟩
  | abort => exact ⟨_, _, .of_if rfl Iff.rfl (fun p is => decide_eq_true (ParcelState.abortable_iff.mp is)) fun _ => rfl⟩
  | accept | witness => exact ⟨_, _, .of_if rfl Iff.rfl (fun p is => decide_eq_true is) fun _ => rfl⟩
  | openParcel =>
    refine ⟨_, _, rfl, formLen_iff, fun p out _ => ?_, fun p is => absurd is nofun⟩
    split
    next is => exact (of_decide_eq_false out is).elim
    next => rfl
  | dispute | regauge =>
    refine ⟨_, _, rfl, formLen_iff, fun p out calm => ?_, fun p is => ?_⟩
    · dsimp only
      split
      next is => exact (of_decide_eq_false out is).elim
      next is => exact (of_decide_eq_false calm is).elim
      next => rfl
    · dsimp only
      rw [of_decide_eq_true is]
  | setLineAdjust =>
    refine ⟨_, _, rfl, formLen_iff, fun p out calm => ?_, fun p is => ?_⟩
    · dsimp only
      have away := of_decide_eq_false out
      split
      next is => exact (away (.inl is)).elim
      next is => exact (away (.inr (.inl is))).elim
      next is => exact (away (.inr (.inr is))).elim
      next is => exact (of_decide_eq_false calm is).elim
      next => rfl
    · dsimp only
      rw [of_decide_eq_true is]
  | offerBasis =>
    have party : l ≠ .survey := of_decide_eq_true right
    exact ⟨_, _, rfl, offerForm_iff party, fun p out _ => if_neg fun is => of_decide_eq_false out ((ParcelState.declarable_iff _).mp is),
      fun p is => absurd is nofun⟩
  | readParcel => exact (other rfl).elim
  | _ => exact absurd names nofun

theorem storeRule {r : Req} (store : r ∈ storeRequests) (l : Link) (pl : List Byte) (s : State) :
    ∃ form k, r.body l pl s = withStore form s k ∧ (form = true ↔ r.formed l pl) := by
  cases r with
  | tableBegin | tableCommit | readTable | lockTable | unlockTable | verifyStore | clearHistory | readRecord => exact ⟨_, _, rfl, formLen_iff⟩
  | tableData =>
    refine ⟨_, _, rfl, ?_⟩
    rw [Bool.and_eq_true, decide_eq_true_iff, decide_eq_true_iff]
    change _ ↔ pl.length = 3 + u8 pl 2
    omega
  | _ => exact absurd store (by decide)

/-- A request taken while the store is verifying looks at its form first. -/
theorem openRule {r : Req} (open_ : r ∈ [.readParcel, .status, .silenceAlarm, .setCalendar]) (l : Link) (pl : List Byte) (s : State) :
    ∃ n k, r.body l pl s = (if formLen n pl then k else refuse s .refusedFormat) ∧ (formLen n pl = true ↔ r.formed l pl) := by
  cases r with
  | readParcel | status | silenceAlarm | setCalendar => exact ⟨_, _, rfl, formLen_iff⟩
  | _ => exact absurd open_ (by decide)

/-- A reading waits for start-up verification, and then looks at its form. -/
theorem readingRule {r : Req} (reads : r ∈ [.tankReading, .attitudeReading, .meterReading]) (l : Link) (pl : List Byte) (s : State) :
    ∃ (form : Bool) (k : State × Reply), r.body l pl s
      = (if s.store.startingUp then refuse s .refusedBusy else if form then k else refuse s .refusedFormat)
      ∧ (form = true ↔ r.formed l pl) := by
  cases r with
  | tankReading | meterReading => exact ⟨_, _, rfl, countedForm_iff.trans and_assoc⟩
  | attitudeReading => exact ⟨_, _, rfl, formLen_iff⟩
  | _ => exact absurd reads (by decide)

theorem declareForm_iff {pl : List Byte} (l : Link) : declareForm pl = true ↔ Req.formed .declare l pl := decide_eq_true_iff

/-! ### The checks -/

section
variable {r : Req} {l : Link} {pl : List Byte} {s : State}

/-- The store verifying turns a request away, unless it is one that is taken then. -/
theorem body_of_verifying (right : mayRequest r l = true) (busy : s.store.verifying = true)
    (waits : r ∉ [.readParcel, .tankReading, .attitudeReading, .meterReading, .status, .silenceAlarm, .setCalendar]) :
    r.body l pl s = refuse s .refusedBusy := by
  obtain ⟨names, other⟩ | store | rfl | reads | open_ := r.kinds
  · obtain ⟨form, k, rule⟩ := parcelRule names other right pl s
    exact rule.body.trans (if_pos busy)
  · obtain ⟨form, k, body, -⟩ := storeRule store l pl s
    exact body.trans (if_pos busy)
  · exact if_pos busy
  · exact (waits (by revert reads; cases r <;> decide)).elim
  · exact (waits (by revert open_; cases r <;> decide)).elim

theorem body_of_startingUp (starting : s.store.startingUp = true) (reads : r ∈ [.tankReading, .attitudeReading, .meterReading]) :
    r.body l pl s = refuse s .refusedBusy := by
  obtain ⟨form, k, body, -⟩ := readingRule reads l pl s
  exact body.trans (if_pos starting)

variable (right : mayRequest r l = true) (ready : s.store.verifying = false ∨ r ∈ [.readParcel, .status, .silenceAlarm, .setCalendar]
  ∨ (s.store.startingUp = false ∧ r ∈ [.tankReading, .attitudeReading, .meterReading]))
include ready

/-- Of a request that is not one of those taken while the store is verifying, that it does not. -/
theorem idle_of_ready (late : r ∉ [.readParcel, .status, .silenceAlarm, .setCalendar])
    (still : r ∉ [.tankReading, .attitudeReading, .meterReading]) : s.store.verifying = false :=
  ready.resolve_right fun either => either.elim late fun ⟨_, reads⟩ => still reads

include right

/-- A request that is looked at is turned away where its form is wrong. -/
theorem body_of_form (wrong : ¬r.formed l pl) : r.body l pl s = refuse s .refusedFormat := by
  obtain ⟨names, other⟩ | store | rfl | reads | open_ := r.kinds
  · obtain ⟨form, k, rule⟩ := parcelRule names other right pl s
    have idle := idle_of_ready ready (by revert names other; cases r <;> decide) (by revert names; cases r <;> decide)
    rw [rule.body, withParcel, idle, if_neg (mt rule.formed.mp wrong)]
    rfl
  · obtain ⟨form, k, body, formed⟩ := storeRule store l pl s
    have idle := idle_of_ready ready (by revert store; cases r <;> decide) (by revert store; cases r <;> decide)
    rw [body, withStore, idle, if_neg (mt formed.mp wrong)]
    rfl
  · have idle := idle_of_ready ready (by decide) (by decide)
    rw [Req.body, reqDeclare, idle, if_neg (mt (declareForm_iff l).mp wrong)]
    rfl
  · obtain ⟨form, k, body, formed⟩ := readingRule reads l pl s
    have started : s.store.startingUp = false := by
      obtain idle | open_ | ⟨started, -⟩ := ready
      · exact Store.startingUp_of_idle idle
      · exact absurd open_ (by revert reads; cases r <;> decide)
      · exact started
    rw [body, started, if_neg (mt formed.mp wrong)]
    rfl
  · obtain ⟨n, k, body, formed⟩ := openRule open_ l pl s
    rw [body, if_neg (mt formed.mp wrong)]

/-- A request of the right form with a number that names no parcel. -/
theorem body_of_number (names : r.namesParcel = true) (form : r.formed l pl) (none : parcelOf (u8 pl 0) = none) :
    r.body l pl s = refuse s .refusedRange := by
  by_cases other : r = .readParcel
  · subst other
    change reqReadParcel l pl s = _
    rw [reqReadParcel, if_pos (formLen_iff.mpr form), none]
  · obtain ⟨ok, k, rule⟩ := parcelRule names other right pl s
    have idle := idle_of_ready ready (by revert names other; cases r <;> decide) (by revert names; cases r <;> decide)
    rw [rule.body, withParcel, idle, if_pos (rule.formed.mpr form), none]
    rfl

/-- A request of the right form that its parcel's state does not take. -/
theorem body_of_state (names : r.namesParcel = true) (form : r.formed l pl) {p : ParcelNo} (named : parcelOf (u8 pl 0) = some p) :
    (r.takenIn (s.parcel p).state = false → r.busyIn (s.parcel p).state = false → r.body l pl s = refuse s .refusedState)
      ∧ (r.busyIn (s.parcel p).state = true → r.body l pl s = refuse s .refusedBusy) := by
  by_cases other : r = .readParcel
  · subst other
    exact ⟨nofun, nofun⟩
  · obtain ⟨ok, k, rule⟩ := parcelRule names other right pl s
    have idle := idle_of_ready ready (by revert names other; cases r <;> decide) (by revert names; cases r <;> decide)
    have body : r.body l pl s = k p := by
      rw [rule.body, withParcel, idle, if_pos (rule.formed.mpr form), named]
      rfl
    exact ⟨fun out calm => body.trans (rule.state p out calm), fun busy => body.trans (rule.busy p busy)⟩

end

/-! ### DECLARE (R2) -/

theorem parcelOf_none {n : Nat} (out : n = 0 ∨ 4 < n) : parcelOf n = none := by
  rw [Option.eq_none_iff_forall_ne_some]
  intro p is
  have := parcelOf_eq_some.mp is
  omega

theorem ParcelState.isFree_iff (x : ParcelState) : x.isFree = true ↔ x = .free := by cases x <;> decide

theorem State.lowestFree_none {s : State} (taken : ∀ p, (s.parcel p).state ≠ .free) : s.lowestFree = none := by
  exact List.find?_eq_none.mpr fun p _ => mt (ParcelState.isFree_iff _).mp (taken p)

theorem reqDeclare_of_form {s : State} {l : Link} {pl : List Byte} (idle : s.store.verifying = false) (form : Req.formed .declare l pl) :
    (u8 pl 0 = 0 → (∀ p, (s.parcel p).state ≠ .free) → reqDeclare l pl s = refuse s .refusedFull)
      ∧ (∀ p : ParcelNo, u8 pl 0 = p.val + 1 → (s.parcel p).state ≠ .free → reqDeclare l pl s = refuse s .refusedState)
      ∧ (4 < u8 pl 0 → reqDeclare l pl s = refuse s .refusedRange) := by
  simp only [reqDeclare, idle, (declareForm_iff l).mpr form, Bool.false_eq_true, if_false, if_true]
  refine ⟨fun zero taken => ?_, fun p number taken => ?_, fun high => ?_⟩
  · rw [if_pos zero, State.lowestFree_none taken]
  · have named : parcelOf (u8 pl 0) = some p := parcelOf_eq_some.mpr number
    rw [if_neg (by omega), named]
    exact if_neg (mt (ParcelState.isFree_iff _).mp taken)
  · rw [if_neg (by omega), parcelOf_none (.inr high)]


/-- Settles O48: the table, and each check by the rule of the request's kind. -/
theorem requestsMeetTheCommonChecks : Obligations.RequestsMeetTheCommonChecks := by
  unfold Obligations.RequestsMeetTheCommonChecks
  refine ⟨?table, fun s p => ?fields, fun st => ?store, fun s r l tag pl takes => ?_⟩
  case table => intro table r; cases r <;> decide
  case fields => simp only [State.parcelFields, eParcel_eq, eState_eq, ePartySet_eq, eSuspendSet_eq]
  case store =>
    unfold Store.verifying Store.startingUp
    cases st.verify <;> simp
  intro turned
  have turn {c : Code} (right : mayRequest r l = true) (body : r.body l pl (s.hunt l) = refuse (s.hunt l) c) : turned c :=
    ⟨_, exec_command r l tag pl s, turnedAway_of_refuse takes right body⟩
  have links := s.hunt_onlyLinks l
  refine ⟨fun no => ⟨_, exec_command r l tag pl s, turnedAway_of_rights takes no⟩, fun right busy waits => turn right
    (body_of_verifying right (by rw [State.hunt_store]; exact busy) waits), fun starting right reads => turn right
      (body_of_startingUp (by rw [State.hunt_store]; exact starting) reads), fun attends wrong => ?_, fun attends names form => ?_,
    fun serves is form => ?_⟩
  · obtain ⟨-, right, ready⟩ := attends
    exact turn right (body_of_form right (by rw [State.hunt_store]; exact ready) wrong)
  · obtain ⟨-, right, ready⟩ := attends
    rw [← State.hunt_store s l] at ready
    refine ⟨fun out => turn right (body_of_number right ready names form (parcelOf_none out)), fun p named out calm => turn right ?_,
      fun p named busy => turn right ?_⟩
    · exact (body_of_state right ready names form named).1 (by rw [links.parcel]; exact out) (by rw [links.parcel]; exact calm)
    · exact (body_of_state right ready names form named).2 (by rw [links.parcel]; exact busy)
  · obtain ⟨-, right, idle⟩ := serves
    subst is
    obtain ⟨full, state, range⟩ := reqDeclare_of_form (s := s.hunt l) (by rw [State.hunt_store]; exact idle) form
    simp only [links.parcel] at full state
    exact ⟨fun zero taken => turn right (full zero taken), fun p number taken => turn right (state p number taken),
      fun high => turn right (range high)⟩

end Sys2Proof.Machine
end

section
/-!
PROOFS. One response for every request (R2, R195): what the owning block of each request can leave of the links. It changes
nothing, or posts notices, or changes a buffer of its own link with a response that is no refusal; only TABLE_COMMIT may be
refused with a change, that of its own link's staging (R179).
-/

namespace Sys2Proof.Machine

/-! ### Notices posted -/

/-- Every link has taken the same notices in turn, and is otherwise as it was. -/
def Posting (s u : State) : Prop := u.clock = s.clock ∧ ∃ bs, ∀ m, u.link m = (s.link m).placeAll s.clock bs

theorem Posting.of_links {s u : State} (clock : u.clock = s.clock) (links : ∀ m, u.link m = s.link m) : Posting s u :=
  ⟨clock, [], links⟩

theorem Posting.refl (s : State) : Posting s s := .of_links rfl fun _ => rfl

theorem Posting.trans {s u v : State} (h : Posting s u) (g : Posting u v) : Posting s v := by
  obtain ⟨clock, bs, links⟩ := h
  obtain ⟨clock', cs, links'⟩ := g
  refine ⟨clock'.trans clock, bs ++ cs, fun m => ?_⟩
  rw [links', links, clock, LinkState.placeAll_append]

section
variable (s : State)

theorem State.changeParcel_posting (p : ParcelNo) (r : Parcel) (c : Cause) : Posting s (s.changeParcel p r c) :=
  ⟨s.changeParcel_clock p r c, _, s.link_changeParcel p r c⟩

theorem State.postAll_posting (b : NoticeBody) : Posting s (s.postAll b) := ⟨s.postAll_clock b, [b], fun m => by simp⟩

theorem State.setParcel_posting (p : ParcelNo) (r : Parcel) : Posting s (s.setParcel p r) :=
  .of_links (by simp) fun m => by simp

theorem State.setStore_posting (st : Store) : Posting s (s.setStore st) := .of_links (by simp) fun m => by simp

theorem State.setLines_posting (x : Lines) : Posting s (s.setLines x) := .of_links (by simp) fun m => by simp

theorem State.placeJob_posting (k : JobKind) (p : ParcelNo) : Posting s (s.placeJob k p) :=
  .of_links (by simp) fun m => by simp

theorem State.requestCheckpoint_posting (p : ParcelNo) : Posting s (s.requestCheckpoint p) :=
  .of_links (by simp) fun m => by simp

theorem State.voidCycle_posting (p : ParcelNo) : Posting s (s.voidCycle p) := .of_links (by simp) fun m => by simp

theorem State.cancelJobs_posting (p : ParcelNo) : Posting s (s.cancelJobs p) := .of_links (by simp) fun m => by simp

theorem State.afterAlarm_posting (was : Bool) : Posting s (s.afterAlarm was) := .of_links (by simp) fun m => by simp

theorem State.setRestoreLost_posting (p : ParcelNo) (b : Bool) : Posting s (s.setRestoreLost p b) :=
  .of_links (by simp) fun m => by simp

theorem State.returnToFree_posting (p : ParcelNo) (c : Cause) : Posting s (s.returnToFree p c) :=
  ⟨s.returnToFree_clock p c, _, s.link_returnToFree p c⟩

theorem State.executeClose_posting (p : ParcelNo) (c : Cause) : Posting s (s.executeClose p c) :=
  ⟨s.executeClose_clock p c, _, s.link_executeClose p c⟩

theorem State.enterOutcome_posting (p : ParcelNo) (r : Parcel) (cause : Option DisputeCause) (ev : Cause) :
    Posting s (s.enterOutcome p r cause ev) := by
  unfold State.enterOutcome
  exact (s.changeParcel_posting p _ ev).trans (State.setStore_posting _ _)

theorem State.suspendWith_posting (p : ParcelNo) (x : SuspendSet) (c : Cause) : Posting s (s.suspendWith p x c) := by
  simp only [State.suspendWith]
  split
  · exact ((s.changeParcel_posting p _ c).trans (State.voidCycle_posting _ p)).trans (State.requestCheckpoint_posting _ p)
  · exact s.changeParcel_posting p _ c

theorem State.resumeWith_posting (p : ParcelNo) (x : SuspendSet) (rr : PartySet) (c : Cause) :
    Posting s (s.resumeWith p x rr c) := by
  simp only [State.resumeWith]
  split <;> exact s.changeParcel_posting p _ c

theorem State.callRevision_posting (p : ParcelNo) (r : Parcel) (ev : Cause) : Posting s (s.callRevision p r ev) :=
  (s.changeParcel_posting p _ ev).trans (State.placeJob_posting _ _ _)

theorem State.placeCommit_posting (id : Nat) (l : Link) (clear : Bool) (bytes : List Byte) (check : Word16) :
    Posting s (s.placeCommit id l clear bytes check) := s.setStore_posting _

end

/-! ### What a block can leave -/

/-- A response that is no refusal. -/
def Reply.accepts (r : Reply) : Prop := r.code = .ok ∨ r.code = .accepted ∨ r.code = .reserved

/-- What the owning block of a request leaves: nothing changed; notices posted; its own link's buffers changed; or, for a
TABLE_COMMIT alone, its own link's staging changed beside a refusal (R179). -/
inductive Serves (r : Req) (l : Link) (s : State) : State × Reply → Prop
  | unchanged (reply : Reply) : Serves r l s (s, reply)
  | posted {u : State} {reply : Reply} (posting : Posting s u) (accepts : reply.accepts) : Serves r l s (u, reply)
  | buffered {u : State} {reply : Reply} (k : LinkState)
      (kept : k = { s.link l with staging := k.staging, readBuffer := k.readBuffer, lost := k.lost })
      (links : ∀ m, u.link m = (s.setLink l k).link m) (accepts : reply.accepts) : Serves r l s (u, reply)
  | dropped (commit : r = .tableCommit) (reply : Reply) : Serves r l s (s.setStaging l none, reply)

section
variable {r : Req} {l : Link} {s : State}

theorem withParcel_serves {form : List Byte → Bool} {pl : List Byte} {k : ParcelNo → State × Reply}
    (h : ∀ p, Serves r l s (k p)) : Serves r l s (withParcel form pl s k) := by
  unfold withParcel
  split
  · exact .unchanged _
  · split
    · split
      · exact h _
      · exact .unchanged _
    · exact .unchanged _

theorem withStore_serves {form : Bool} {k : State × Reply} (h : Serves r l s k) : Serves r l s (withStore form s k) := by
  unfold withStore
  split
  · exact .unchanged _
  · split
    · exact h
    · exact .unchanged _

theorem Serves.of_posting {u : State} (posting : Posting s u) (p : ParcelNo) (fields : List Byte) :
    Serves r l s (u.answerParcel p .ok fields) := .posted posting (.inl rfl)

theorem Serves.of_accepted {u : State} (posting : Posting s u) (p : ParcelNo) (fields : List Byte) :
    Serves r l s (u.answerParcel p .accepted fields) := .posted posting (.inr (.inl rfl))

/-- A buffer of the own link changed. -/
theorem Serves.of_setLink {reply : Reply} (k : LinkState)
    (kept : k = { s.link l with staging := k.staging, readBuffer := k.readBuffer, lost := k.lost })
    (accepts : reply.accepts) : Serves r l s (s.setLink l k, reply) := .buffered k kept (fun _ => rfl) accepts

end

/-! ### Declaration and sources (R3 to R8) -/

section
variable (l : Link) (pl : List Byte) (s : State)

theorem State.declare_serves (r : Req) (p : ParcelNo) : Serves r l s (s.declare l pl p) := by
  unfold State.declare
  split
  · exact .of_posting ((s.changeParcel_posting p _ _).trans (State.setRestoreLost_posting _ _ _)) p _
  · exact .unchanged _

theorem reqDeclare_serves (r : Req) : Serves r l s (reqDeclare l pl s) := by
  unfold reqDeclare
  split
  · exact .unchanged _
  · split
    · split
      · split
        · exact s.declare_serves l pl r _
        · exact .unchanged _
      · split
        · split
          · exact s.declare_serves l pl r _
          · exact .unchanged _
        · exact .unchanged _
    · exact .unchanged _

theorem reqSetParameter_serves (r : Req) : Serves r l s (reqSetParameter l pl s) := by
  refine withParcel_serves fun p => ?_
  dsimp only
  split
  · split
    · exact .posted (s.changeParcel_posting p _ _) (.inl rfl)
    · exact .unchanged _
  · exact .unchanged _

theorem assignSource_serves {r req : Req} {most : Nat} {ownerOf : State → Nat → Option ParcelNo}
    {draw : State → Nat → ParcelNo → Nat → State} (draws : ∀ n p d, Posting s (draw s n p d)) :
    Serves r l s (assignSource req most ownerOf draw l pl s) := by
  refine withParcel_serves fun p => ?_
  dsimp only
  split
  · split
    · split
      · split
        · exact .unchanged _
        · exact .unchanged _
      · split
        · exact .posted ((draws _ p _).trans (State.changeParcel_posting _ p _ _)) (.inl rfl)
        · exact .unchanged _
    · exact .unchanged _
  · exact .unchanged _

theorem unassignSource_serves {r req : Req} {most : Nat} {ownerOf : State → Nat → Option ParcelNo}
    {giveBack : State → Nat → State} (gives : ∀ n, Posting s (giveBack s n)) :
    Serves r l s (unassignSource req most ownerOf giveBack l pl s) := by
  refine withParcel_serves fun p => ?_
  dsimp only
  split
  · split
    · split
      · exact .of_posting ((gives _).trans (State.changeParcel_posting _ p _ _)) p _
      · exact .unchanged _
    · exact .unchanged _
  · exact .unchanged _

theorem reqAssignTank_serves (r : Req) : Serves r l s (reqAssignTank l pl s) :=
  assignSource_serves l pl s fun _ _ _ => .of_links (by simp) fun m => by simp

theorem reqAssignMeter_serves (r : Req) : Serves r l s (reqAssignMeter l pl s) :=
  assignSource_serves l pl s fun _ _ _ => .of_links (by simp) fun m => by simp

theorem reqUnassignTank_serves (r : Req) : Serves r l s (reqUnassignTank l pl s) :=
  unassignSource_serves l pl s fun _ => .of_links (by simp) fun m => by simp

theorem reqUnassignMeter_serves (r : Req) : Serves r l s (reqUnassignMeter l pl s) :=
  unassignSource_serves l pl s fun _ => .of_links (by simp) fun m => by simp

/-! ### Basis and opening (R30, R31, R39) -/

theorem State.storeOffer_serves (r : Req) (p : ParcelNo) (x : Parcel) : Serves r l s (s.storeOffer p x l) := by
  simp only [State.storeOffer]
  split
  · split
    all_goals exact .of_posting ((s.changeParcel_posting p _ _).trans (State.postAll_posting _ _)) p _
  · exact .of_posting (s.changeParcel_posting p _ _) p _

theorem reqOfferBasis_serves (r : Req) : Serves r l s (reqOfferBasis l pl s) := by
  refine withParcel_serves fun p => ?_
  dsimp only
  split
  · split
    · split
      · exact s.storeOffer_serves _ r p _
      · exact .unchanged _
    · split
      · exact s.storeOffer_serves _ r p _
      · exact .unchanged _
    · exact .unchanged _
  · exact .unchanged _

theorem State.joinOpen_serves (r : Req) (p : ParcelNo) : Serves r l s (s.joinOpen p l) := by
  simp only [State.joinOpen]
  split
  · exact .unchanged _
  · split
    · exact .of_accepted ((s.changeParcel_posting p _ _).trans (State.placeJob_posting _ _ _)) p _
    · exact .of_posting (s.changeParcel_posting p _ _) p _

theorem reqOpen_serves (r : Req) : Serves r l s (reqOpen l pl s) := by
  refine withParcel_serves fun p => ?_
  split
  · split
    · exact .unchanged _
    · exact s.joinOpen_serves l r p
  · exact .unchanged _

/-! ### Transfer (R11, R13, R18, R19, R123) -/

theorem reqSuspend_serves (r : Req) : Serves r l s (reqSuspend l pl s) := by
  refine withParcel_serves fun p => ?_
  dsimp only
  split
  · exact .of_posting (s.suspendWith_posting p _ _) p _
  · exact .unchanged _

theorem reqResume_serves (r : Req) : Serves r l s (reqResume l pl s) := by
  refine withParcel_serves fun p => ?_
  dsimp only
  split
  · exact .of_posting (s.resumeWith_posting p _ _ _) p _
  · exact .unchanged _

theorem reqClose_serves (r : Req) : Serves r l s (reqClose l pl s) := by
  refine withParcel_serves fun p => ?_
  dsimp only
  split
  · split
    · exact .of_accepted (s.executeClose_posting p _) p _
    · exact .posted (s.changeParcel_posting p _ _) (.inr (.inr rfl))
  · exact .unchanged _

theorem reqCancelClose_serves (r : Req) : Serves r l s (reqCancelClose l pl s) := by
  refine withParcel_serves fun p => ?_
  dsimp only
  split
  · exact .of_posting (s.changeParcel_posting p _ _) p _
  · exact .unchanged _

theorem State.restoreGrade_posting (p : ParcelNo) (c : GradeCause) : Posting s (s.restoreGrade p c) := by
  simp only [State.restoreGrade]
  split
  · exact s.setParcel_posting p _
  · exact (s.setParcel_posting p _).trans (State.postAll_posting _ _)

theorem reqRestoreGrade_serves (r : Req) : Serves r l s (reqRestoreGrade l pl s) := by
  refine withParcel_serves fun p => ?_
  dsimp only
  split
  · exact .of_posting (s.restoreGrade_posting p _) p _
  · exact .unchanged _

/-! ### The return to FREE (R21, R24) -/

theorem reqAbandon_serves (r : Req) : Serves r l s (reqAbandon l pl s) := by
  refine withParcel_serves fun p => ?_
  split
  · exact .of_posting (s.returnToFree_posting p _) p _
  · exact .unchanged _

theorem reqRelease_serves (r : Req) : Serves r l s (reqRelease l pl s) := by
  refine withParcel_serves fun p => ?_
  dsimp only
  split
  · split
    · exact .unchanged _
    · split
      · exact .of_posting (s.returnToFree_posting p _) p _
      · exact .of_posting (s.changeParcel_posting p _ _) p _
  · exact .unchanged _

/-! ### Closing and agreement (R135, R145 to R149, R22) -/

theorem State.addAcceptance_posting (p : ParcelNo) (req : Req) : Posting s (s.addAcceptance p l req) := by
  simp only [State.addAcceptance]
  split
  · exact s.enterOutcome_posting p _ _ _
  · exact s.setParcel_posting p _

theorem answerAcceptance_serves (r req : Req) : Serves r l s (answerAcceptance req l pl s) := by
  refine withParcel_serves fun p => ?_
  dsimp only
  split
  · split
    · exact .posted (s.addAcceptance_posting l p req) (.inl rfl)
    · exact .unchanged _
  · exact .unchanged _

theorem reqDispute_serves (r : Req) : Serves r l s (reqDispute l pl s) := by
  refine withParcel_serves fun p => ?_
  dsimp only
  split
  · exact .of_posting (s.enterOutcome_posting p _ _ _) p _
  · exact .unchanged _
  · exact .unchanged _

theorem reqRegauge_serves (r : Req) : Serves r l s (reqRegauge l pl s) := by
  refine withParcel_serves fun p => ?_
  dsimp only
  split
  · split
    · exact .unchanged _
    · exact .of_accepted (s.callRevision_posting p _ _) p _
  · exact .unchanged _
  · exact .unchanged _

theorem reqSetLineAdjust_serves (r : Req) : Serves r l s (reqSetLineAdjust l pl s) := by
  refine withParcel_serves fun p => ?_
  dsimp only
  split
  · split
    · exact .of_posting (s.setParcel_posting p _) p _
    · exact .unchanged _
  · split
    · exact .of_posting (s.setParcel_posting p _) p _
    · exact .unchanged _
  · split
    · split
      · exact .unchanged _
      · exact .of_accepted (s.callRevision_posting p _ _) p _
    · exact .unchanged _
  · exact .unchanged _
  · exact .unchanged _

theorem State.abortParcel_posting (p : ParcelNo) : Posting s (s.abortParcel p l) :=
  ((s.cancelJobs_posting p).trans (State.enterOutcome_posting _ p _ _ _)).trans (State.afterAlarm_posting _ _)

theorem reqAbort_serves (r : Req) : Serves r l s (reqAbort l pl s) := by
  refine withParcel_serves fun p => ?_
  split
  · exact .of_posting (s.abortParcel_posting l p) p _
  · exact .unchanged _

/-! ### Readings (R45) -/

omit l pl in
theorem takeTankFrame_posting (os : List TankObs) (seen : List Nat) : Posting s (State.takeTankFrame os seen s).1 := by
  rw [takeTankFrame_only os seen s]
  exact .of_links rfl fun m => by cases m <;> rfl

omit l pl in
theorem takeMeterFrame_posting (os : List MeterObs) (seen : List Nat) : Posting s (State.takeMeterFrame os seen s).1 := by
  have only : OnlyMeters s (State.takeMeterFrame os seen s).1 := by
    rw [State.takeMeterFrame_eq]
    exact takeAll_preserves (R := OnlyMeters) (fun _ => rfl) OnlyMeters.trans State.takeMeterObs_only os seen s
  rw [only]
  exact .of_links rfl fun m => by cases m <;> rfl

theorem reqTankReading_serves (r : Req) : Serves r l s (reqTankReading l pl s) := by
  unfold reqTankReading
  split
  · exact .unchanged _
  · split
    · exact .posted (takeTankFrame_posting s _ _) (.inl rfl)
    · exact .unchanged _

theorem reqMeterReading_serves (r : Req) : Serves r l s (reqMeterReading l pl s) := by
  unfold reqMeterReading
  split
  · exact .unchanged _
  · split
    · exact .posted (takeMeterFrame_posting s _ _) (.inl rfl)
    · exact .unchanged _

theorem reqAttitudeReading_serves (r : Req) : Serves r l s (reqAttitudeReading l pl s) := by
  unfold reqAttitudeReading
  split
  · exact .unchanged _
  · split
    · split
      · exact .posted (.of_links rfl fun m => by cases m <;> rfl) (.inl rfl)
      · exact .unchanged _
    · exact .unchanged _

/-! ### The store (R170, R176 to R179, R187) -/

theorem reqTableBegin_serves (r : Req) : Serves r l s (reqTableBegin l pl s) := by
  refine withStore_serves ?_
  dsimp only
  split
  · exact .of_setLink _ rfl (.inl rfl)
  · exact .unchanged _

theorem reqTableData_serves (r : Req) : Serves r l s (reqTableData l pl s) := by
  refine withStore_serves ?_
  split
  · exact .unchanged _
  · dsimp only
    split
    · exact .of_setLink _ rfl (.inl rfl)
    · exact .unchanged _

theorem reqTableCommit_serves : Serves .tableCommit l s (reqTableCommit l pl s) := by
  refine withStore_serves ?_
  split
  · exact .unchanged _
  · dsimp only
    split
    · split
      · exact .unchanged _
      · exact .dropped rfl _
    · exact .buffered { s.link l with staging := none } rfl (fun m => by simp [State.placeCommit, State.setStaging]) (.inr (.inl rfl))

theorem answerLock_serves (r : Req) (b : Bool) : Serves r l s (answerLock b pl s) := by
  refine withStore_serves ?_
  dsimp only
  split
  · exact .posted (s.setStore_posting _) (.inl rfl)
  · exact .unchanged _

theorem reqClearHistory_serves (r : Req) : Serves r l s (reqClearHistory l pl s) := by
  refine withStore_serves ?_
  split
  · exact .unchanged _
  · dsimp only
    split
    · exact .unchanged _
    · split
      · exact .unchanged _
      · split
        · exact .unchanged _
        · exact .posted (s.placeCommit_posting _ _ _ _ _) (.inr (.inl rfl))

theorem reqVerifyStore_serves (r : Req) : Serves r l s (reqVerifyStore l pl s) :=
  withStore_serves (.posted (s.setStore_posting _) (.inr (.inl rfl)))

/-! ### Reads, STATUS, SILENCE_ALARM and SET_CALENDAR (R200, R203, R205, R210) -/

theorem State.servePage_serves (r : Req) (kind : ReadKind) (target page : Nat) (reply : List Byte) :
    Serves r l s (s.servePage l kind target page reply) := by
  unfold State.servePage
  split
  · exact .unchanged _
  · split
    · exact .of_setLink _ rfl (.inl rfl)
    · split
      · split
        · split
          · exact .unchanged _
          · exact .unchanged _
        · exact .unchanged _
      · exact .unchanged _

theorem reqReadParcel_serves (r : Req) : Serves r l s (reqReadParcel l pl s) := by
  unfold reqReadParcel
  split
  · split
    · exact s.servePage_serves l r _ _ _ _
    · exact .unchanged _
  · exact .unchanged _

theorem reqReadTable_serves (r : Req) : Serves r l s (reqReadTable l pl s) := by
  refine withStore_serves ?_
  dsimp only
  split
  · split
    · exact .unchanged _
    · exact s.servePage_serves l r _ _ _ _
  · exact .unchanged _

theorem reqReadRecord_serves (r : Req) : Serves r l s (reqReadRecord l pl s) := by
  refine withStore_serves ?_
  split
  · exact s.servePage_serves l r _ _ _ _
  · exact .unchanged _

theorem reqStatus_serves (r : Req) : Serves r l s (reqStatus l pl s) := by
  unfold reqStatus
  split
  · exact .of_setLink _ rfl (.inl rfl)
  · exact .unchanged _

theorem State.silenced_posting : Posting s s.silenced := by
  unfold State.silenced
  split
  · exact s.setLines_posting _
  · exact Posting.refl s

theorem reqSilenceAlarm_serves (r : Req) : Serves r l s (reqSilenceAlarm l pl s) := by
  unfold reqSilenceAlarm
  split
  · exact .posted s.silenced_posting (.inl rfl)
  · exact .unchanged _

theorem reqSetCalendar_serves (r : Req) : Serves r l s (reqSetCalendar l pl s) := by
  unfold reqSetCalendar
  split
  · exact .posted (.of_links rfl fun m => by cases m <;> rfl) (.inl rfl)
  · exact .unchanged _

end

/-! ### All requests -/

/-- What the owning block of any request can leave. -/
theorem Req.body_serves (r : Req) (l : Link) (pl : List Byte) (s : State) : Serves r l s (r.body l pl s) :=
  match r with
  | .declare => reqDeclare_serves l pl s _
  | .setParameter => reqSetParameter_serves l pl s _
  | .assignTank => reqAssignTank_serves l pl s _
  | .unassignTank => reqUnassignTank_serves l pl s _
  | .assignMeter => reqAssignMeter_serves l pl s _
  | .unassignMeter => reqUnassignMeter_serves l pl s _
  | .offerBasis => reqOfferBasis_serves l pl s _
  | .openParcel => reqOpen_serves l pl s _
  | .suspend => reqSuspend_serves l pl s _
  | .resume => reqResume_serves l pl s _
  | .close => reqClose_serves l pl s _
  | .cancelClose => reqCancelClose_serves l pl s _
  | .regauge => reqRegauge_serves l pl s _
  | .accept => answerAcceptance_serves l pl s _ .accept
  | .dispute => reqDispute_serves l pl s _
  | .setLineAdjust => reqSetLineAdjust_serves l pl s _
  | .witness => answerAcceptance_serves l pl s _ .witness
  | .abort => reqAbort_serves l pl s _
  | .restoreGrade => reqRestoreGrade_serves l pl s _
  | .release => reqRelease_serves l pl s _
  | .abandon => reqAbandon_serves l pl s _
  | .readParcel => reqReadParcel_serves l pl s _
  | .tankReading => reqTankReading_serves l pl s _
  | .attitudeReading => reqAttitudeReading_serves l pl s _
  | .meterReading => reqMeterReading_serves l pl s _
  | .tableBegin => reqTableBegin_serves l pl s _
  | .tableData => reqTableData_serves l pl s _
  | .tableCommit => reqTableCommit_serves l pl s
  | .readTable => reqReadTable_serves l pl s _
  | .lockTable => answerLock_serves l pl s _ true
  | .unlockTable => answerLock_serves l pl s _ false
  | .verifyStore => reqVerifyStore_serves l pl s _
  | .clearHistory => reqClearHistory_serves l pl s _
  | .readRecord => reqReadRecord_serves l pl s _
  | .status => reqStatus_serves l pl s _
  | .silenceAlarm => reqSilenceAlarm_serves l pl s _
  | .setCalendar => reqSetCalendar_serves l pl s _

/-! ### The response -/

/-- Settles O47: the owning block of each request can leave no more of the links than `Serves` lists. -/
theorem everyRequestHasOneResponse : Obligations.EveryRequestHasOneResponse := by
  unfold Obligations.EveryRequestHasOneResponse
  intro s r l tag pl takes
  rw [exec_command]
  by_cases right : mayRequest r l = true
  case neg =>
    obtain ⟨replied, only⟩ := turnedAway_of_rights (body := r.body) (pl := pl) (tag := tag) takes (by simpa using right)
    exact ⟨_, s.link l, Reply.plain .refusedRights, [], rfl, replied, rfl, fun _ _ _ => ⟨only, rfl, rfl, fun _ => rfl⟩⟩
  have served := serve_taken (body := r.body) (tag := tag) (pl := pl) takes right
  have body := r.body_serves l pl (s.hunt l)
  generalize r.body l pl (s.hunt l) = out at served body
  rw [served]
  have no_refusal {reply : Reply} {P : Prop} (accepts : reply.accepts) (ok : reply.code ≠ .ok)
      (accepted : reply.code ≠ .accepted) (reserved : reply.code ≠ .reserved) : P :=
    absurd accepts fun h => h.elim ok fun h => h.elim accepted reserved
  cases body with
  | unchanged reply =>
    exact ⟨_, s.link l, reply, [], rfl, replied_of_links (by simp) fun m hm => State.link_hunt_ne _ hm, rfl,
      fun _ _ _ => ⟨(s.hunt_onlyLinks l).trans (State.answered_onlyLinks _ _ _ _), rfl, rfl, fun _ => rfl⟩⟩
  | posted posting accepts =>
    obtain ⟨clock, bs, links⟩ := posting
    refine ⟨_, s.link l, _, bs, rfl, replied_of_links ?_ fun m hm => ?_, rfl, no_refusal accepts⟩
    · simpa using links l
    · simpa [State.link_hunt_ne _ hm] using links m
  | buffered k kept links accepts =>
    refine ⟨_, { s.link l with staging := k.staging, readBuffer := k.readBuffer, lost := k.lost }, _, [], rfl,
      replied_of_links ?_ fun m hm => ?_, rfl, no_refusal accepts⟩
    · rw [State.link_hunt_same] at kept
      rw [links, State.link_setLink_same]
      exact kept
    · rw [links, State.link_setLink_ne _ hm]
      exact State.link_hunt_ne _ hm
  | dropped commit reply =>
    refine ⟨_, { s.link l with staging := none }, reply, [], rfl, replied_of_links ?_ fun m hm => ?_, rfl, fun _ _ _ =>
      ⟨((s.hunt_onlyLinks l).trans (State.setLink_onlyLinks _ _ _)).trans (State.answered_onlyLinks _ _ _ _), rfl, rfl,
        fun other => absurd commit other⟩⟩
    · simp [State.setStaging]
    · rw [State.setStaging, State.link_setLink_ne _ hm]
      exact State.link_hunt_ne _ hm

end Sys2Proof.Machine
end

section
/-!
PROOFS. What a command does to each parcel in ascending order (R4, R208): what a parcel's turn finds of it and what the
later turns leave, the notices of all turns, and the checkpoint writes they request (R25).
-/

namespace Sys2Proof.Machine

/-! ### The turns -/

section
variable (s : State) (f : ParcelNo → State → State)

/-- The state once the first `n` parcels have had their turn. -/
def State.turn (n : Nat) : State := (allParcels.take n).foldl (fun acc p => f p acc) s

theorem State.turn_succ (p : ParcelNo) : s.turn f (p.val + 1) = f p (s.turn f p.val) := by
  fin_cases p <;> rfl

variable {s f} in
/-- What holds after the first `n` turns for every `n`, one turn upholding it for the next. -/
theorem forParcels_induct {P : Nat → State → Prop} (zero : P 0 s)
    (turn : ∀ p : ParcelNo, P p.val (s.turn f p.val) → P (p.val + 1) (f p (s.turn f p.val))) : P 4 (s.forParcels f) :=
  turn 3 (turn 2 (turn 1 (turn 0 zero)))

theorem take_parcels_succ (p : ParcelNo) : allParcels.take (p.val + 1) = allParcels.take p.val ++ [p] := by
  fin_cases p <;> rfl

theorem not_mem_take_parcels (p : ParcelNo) : p ∉ allParcels.take p.val := by
  fin_cases p <;> decide

theorem not_mem_drop_parcels (p : ParcelNo) : p ∉ allParcels.drop (p.val + 1) := by
  fin_cases p <;> decide

theorem foldl_related {R : State → State → Prop} {ps : List ParcelNo} (refl : ∀ u, R u u)
    (trans : ∀ {u v w}, R u v → R v w → R u w) (step : ∀ p ∈ ps, ∀ u, R u (f p u)) :
    R s (ps.foldl (fun acc p => f p acc) s) := by
  induction ps generalizing s with
  | nil => exact refl s
  | cons p rest ih =>
    exact trans (step p List.mem_cons_self s) (ih (f p s) fun q mem => step q (List.mem_cons_of_mem p mem))

variable {f}

theorem forParcels_related {R : State → State → Prop} (refl : ∀ u, R u u) (trans : ∀ {u v w}, R u v → R v w → R u w)
    (step : ∀ p u, R u (f p u)) : R s (s.forParcels f) :=
  foldl_related s f refl trans fun p _ => step p

/-- What no other parcel's turn changes stands as it was when a parcel's turn comes. -/
theorem turn_related {R : State → State → Prop} (refl : ∀ u, R u u) (trans : ∀ {u v w}, R u v → R v w → R u w)
    {p : ParcelNo} (step : ∀ q, q ≠ p → ∀ u, R u (f q u)) : R s (s.turn f p.val) :=
  foldl_related s f refl trans fun q mem => step q fun is => not_mem_take_parcels p (is ▸ mem)

/-- What no other parcel's turn changes stands at the end as it was after a parcel's turn. -/
theorem forParcels_related_after {R : State → State → Prop} (refl : ∀ u, R u u) (trans : ∀ {u v w}, R u v → R v w → R u w)
    {p : ParcelNo} (step : ∀ q, q ≠ p → ∀ u, R u (f q u)) : R (f p (s.turn f p.val)) (s.forParcels f) := by
  have later := foldl_related (R := R) (f p (s.turn f p.val)) f refl trans (ps := allParcels.drop (p.val + 1)) fun q mem =>
    step q fun is => not_mem_drop_parcels p (is ▸ mem)
  rwa [← s.turn_succ f p, State.turn, ← List.foldl_append, List.take_append_drop, ← State.turn, s.turn_succ f p] at later

end

/-! ### What a turn leaves of another parcel -/

/-- The record of a parcel, its lamp, its jobs, its checkpoint and its RESTORE_LOST are as they were, and so are the clocks
and ESD. -/
structure Elsewhere (p : ParcelNo) (s t : State) : Prop where
  parcel : t.parcel p = s.parcel p
  lamp : t.lines.lamp p = s.lines.lamp p
  jobs : t.engine.jobs p = s.engine.jobs p
  checkpoint : t.store.checkpoint p = s.store.checkpoint p
  lost : t.restoreLost.get p = s.restoreLost.get p
  clock : t.clock = s.clock
  msec : t.msec = s.msec
  esd : t.lines.esd = s.lines.esd

theorem Elsewhere.refl (p : ParcelNo) (s : State) : Elsewhere p s s := ⟨rfl, rfl, rfl, rfl, rfl, rfl, rfl, rfl⟩

theorem Elsewhere.trans {p : ParcelNo} {s t u : State} (h : Elsewhere p s t) (g : Elsewhere p t u) : Elsewhere p s u :=
  ⟨g.parcel.trans h.parcel, g.lamp.trans h.lamp, g.jobs.trans h.jobs, g.checkpoint.trans h.checkpoint, g.lost.trans h.lost,
    g.clock.trans h.clock, g.msec.trans h.msec, g.esd.trans h.esd⟩

theorem Within.elsewhere {p q : ParcelNo} {s t : State} (h : Within q s t) (ne : p ≠ q)
    (jobs : t.engine.jobs p = s.engine.jobs p) (checkpoint : t.store.checkpoint p = s.store.checkpoint p) :
    Elsewhere p s t := by
  obtain ⟨rest, others, lines, lamps⟩ := h
  exact ⟨others p ne, lamps p ne, jobs, checkpoint, by rw [rest], by rw [rest], by rw [rest], by rw [lines]⟩

/-- A lamp that followed its record in its parcel's turn follows it over all turns. -/
theorem LampFollows.of_elsewhere {p : ParcelNo} {s u v t : State} (before : Elsewhere p s u) (h : LampFollows p u v)
    (after : Elsewhere p v t) : LampFollows p s t := by
  unfold LampFollows at *
  rw [after.lamp, after.parcel, h, before.lamp, before.msec]

/-! ### The notices of the turns -/

theorem forParcels_links {s : State} {f : ParcelNo → State → State} {notices : ParcelNo → List NoticeBody}
    (turn : ∀ p m, (f p (s.turn f p.val)).link m = ((s.turn f p.val).link m).placeAll s.clock (notices p)) (m : Link) :
    (s.forParcels f).link m = (s.link m).placeAll s.clock (allParcels.flatMap notices) := by
  refine forParcels_induct (P := fun n u => u.link m = (s.link m).placeAll s.clock ((allParcels.take n).flatMap notices))
    rfl fun p before => ?_
  rw [turn, before, take_parcels_succ, List.flatMap_append, LinkState.placeAll_append, List.flatMap_singleton]

theorem stateNotices_same (p : ParcelNo) (r : Parcel) (c : Cause) : stateNotices p r r c = [] := by
  simp [stateNotices]

/-! ### The checkpoint writes of the turns (R25) -/

/-- A write queue once a checkpoint write of `p` is requested with the content `k`. -/
def placedCheckpoint (p : ParcelNo) (k : Checkpoint) (q : List QueueEntry) : List QueueEntry :=
  if q.any (QueueEntry.isCheckpointOf p) then q.map (fun e => if e.isCheckpointOf p then .checkpoint p k else e)
  else q ++ [.checkpoint p k]

theorem CheckpointRequested.queue {p : ParcelNo} {s t : State} (h : CheckpointRequested p s t) :
    t.store.queue = placedCheckpoint p (t.checkpointCopy p) s.store.queue := by
  rw [placedCheckpoint, h]

theorem placedCheckpoint_any {p r : ParcelNo} (k : Checkpoint) (q : List QueueEntry) (ne : r ≠ p) :
    (placedCheckpoint p k q).any (QueueEntry.isCheckpointOf r) = q.any (QueueEntry.isCheckpointOf r) := by
  have kept (e : QueueEntry) :
      QueueEntry.isCheckpointOf r (if e.isCheckpointOf p then .checkpoint p k else e) = e.isCheckpointOf r := by
    cases e with
    | checkpoint x _ =>
      by_cases is : x = p
      · simp [QueueEntry.isCheckpointOf, is]
      · simp [QueueEntry.isCheckpointOf, is]
    | _ => rfl
  unfold placedCheckpoint
  split
  · rw [List.any_map]
    exact congrArg q.any (funext kept)
  · simp [QueueEntry.isCheckpointOf, Ne.symm ne]

theorem QueueEntry.withCopy_congr {asked asked' : ParcelNo → Bool} {copy : ParcelNo → Checkpoint} {e : QueueEntry}
    (h : ∀ p, e.isCheckpointOf p = true → asked p = asked' p) : e.withCopy asked copy = e.withCopy asked' copy := by
  cases e with
  | checkpoint p old => simp [QueueEntry.withCopy, h p (by simp [QueueEntry.isCheckpointOf])]
  | _ => rfl

/-- Requests for the parcels of a list, one after the other, are the requests of them all. -/
theorem foldl_placedCheckpoint (copy : ParcelNo → Checkpoint) {ps : List ParcelNo} (nodup : ps.Nodup) (q : List QueueEntry) :
    ps.foldl (fun acc p => placedCheckpoint p (copy p) acc) q
      = q.map (QueueEntry.withCopy (fun p => decide (p ∈ ps)) copy)
        ++ (ps.filter (fun p => !q.any (QueueEntry.isCheckpointOf p))).map (fun p => .checkpoint p (copy p)) := by
  induction ps generalizing q with
  | nil => simp [funext (QueueEntry.withCopy_none copy)]
  | cons p rest ih =>
    obtain ⟨new, nodup⟩ := List.nodup_cons.mp nodup
    have others : rest.filter (fun r => !(placedCheckpoint p (copy p) q).any (QueueEntry.isCheckpointOf r))
        = rest.filter (fun r => !q.any (QueueEntry.isCheckpointOf r)) :=
      List.filter_congr fun r mem => by rw [placedCheckpoint_any (copy p) q (ne_of_mem_of_not_mem mem new)]
    rw [List.foldl_cons, ih nodup, others]
    by_cases waits : q.any (QueueEntry.isCheckpointOf p) = true
    · rw [List.filter_cons_of_neg (by simp [waits]), placedCheckpoint, if_pos waits, List.map_map]
      refine congrArg (· ++ _) (List.map_congr_left fun e _ => ?_)
      cases e with
      | checkpoint r old =>
        by_cases is : r = p
        · simp [QueueEntry.isCheckpointOf, QueueEntry.withCopy, is, new]
        · simp [QueueEntry.isCheckpointOf, QueueEntry.withCopy, is]
      | _ => rfl
    · have none_ (e : QueueEntry) (mem : e ∈ q) (r : ParcelNo) (of : e.isCheckpointOf r = true) : r ≠ p := fun is =>
        waits (List.any_eq_true.mpr ⟨e, mem, is ▸ of⟩)
      rw [List.filter_cons_of_pos (by simpa using waits), placedCheckpoint, if_neg waits, List.map_append, List.map_cons,
        List.append_assoc]
      refine congrArg₂ (· ++ ·) (List.map_congr_left fun e mem => QueueEntry.withCopy_congr fun r of => ?_) ?_
      · simp [none_ e mem r of]
      · simp [QueueEntry.withCopy, new]

/-- Turns that request the checkpoint writes of the parcels `asked` leave the queue so. -/
theorem forParcels_queue {s : State} {f : ParcelNo → State → State} {asked : ParcelNo → Bool} {copy : ParcelNo → Checkpoint}
    (turn : ∀ p, asked p = true →
      (f p (s.turn f p.val)).store.queue = placedCheckpoint p (copy p) (s.turn f p.val).store.queue)
    (quiet : ∀ p, asked p = false → (f p (s.turn f p.val)).store.queue = (s.turn f p.val).store.queue) :
    CheckpointsPlaced asked copy s.store.queue (s.forParcels f).store.queue := by
  have folded : (s.forParcels f).store.queue
      = (allParcels.filter asked).foldl (fun acc p => placedCheckpoint p (copy p) acc) s.store.queue := by
    refine forParcels_induct (P := fun n u => u.store.queue = ((allParcels.take n).filter asked).foldl
      (fun acc p => placedCheckpoint p (copy p) acc) s.store.queue) rfl fun p before => ?_
    rw [take_parcels_succ, List.filter_append, List.foldl_append, ← before]
    by_cases is : asked p = true
    · rw [turn p is, List.filter_cons_of_pos is]
      rfl
    · rw [quiet p (by simpa using is), List.filter_cons_of_neg is]
      rfl
  rw [CheckpointsPlaced, folded, foldl_placedCheckpoint copy (allParcels_nodup.filter _), List.filter_filter]
  refine congrArg₂ (· ++ ·) (congrArg (List.map · _) (congrArg (QueueEntry.withCopy · copy) (funext fun p => ?_))) ?_
  · simp [mem_allParcels]
  · exact congrArg (List.map _) (List.filter_congr fun p _ => Bool.and_comm _ _)

end Sys2Proof.Machine
end

section
/-!
PROOFS. ESD and a closing valve, which reach the parcels one after the other (R12, R14, R19, R20, R106, R208).
-/

namespace Sys2Proof.Machine

/-! ### What every input change leaves alone -/

/-- Nothing but the parcels, the engine, the store, the lamps, the alarm output with its latch and the links differs. -/
def Reaches (s t : State) : Prop :=
  t = { s with
    parcels := t.parcels
    engine := t.engine
    store := t.store
    lines := t.lines
    ship := t.ship
    shore := t.shore
    survey := t.survey }
    ∧ t.lines = { s.lines with lamps := t.lines.lamps, silence := t.lines.silence, alarmOut := t.lines.alarmOut }

theorem Reaches.refl (s : State) : Reaches s s := ⟨rfl, rfl⟩

theorem Reaches.trans {s t u : State} (h : Reaches s t) (g : Reaches t u) : Reaches s u := by
  obtain ⟨rest, lines⟩ := h
  obtain ⟨rest', lines'⟩ := g
  exact ⟨by rw [rest', rest], by rw [lines', lines]⟩

theorem Within.reaches {p : ParcelNo} {s t : State} (h : Within p s t) : Reaches s t := ⟨h.1, h.2.2.1⟩

theorem Reaches.copy {p : ParcelNo} {s t : State} (h : Reaches s t) (parcel : t.parcel p = s.parcel p) :
    t.checkpointCopy p = s.checkpointCopy p := by
  unfold State.checkpointCopy
  rw [parcel, h.1]
  rfl

/-! ### The running CYCLE (R106) -/

/-- A running CYCLE of a parcel that `left` TRANSFERRING is VOID. -/
def RunningJob.voidedBy (left : ParcelNo → Bool) (j : RunningJob) : RunningJob :=
  if j.kind = .cycle ∧ left j.parcel = true then { j with voided := true } else j

theorem RunningJob.voidedBy_eq (left : ParcelNo → Bool) (j : RunningJob) :
    j.voidedBy left = { j with voided := j.voided || (decide (j.kind = .cycle) && left j.parcel) } := by
  unfold RunningJob.voidedBy
  split
  next cycle => simp [cycle]
  next no => rw [show (decide (j.kind = .cycle) && left j.parcel) = false by simpa using no, Bool.or_false]

theorem RunningJob.voidedBy_voidedBy (a b : ParcelNo → Bool) (j : RunningJob) :
    (j.voidedBy a).voidedBy b = j.voidedBy fun q => a q || b q := by
  by_cases cycle : j.kind = .cycle
  · by_cases first : a j.parcel = true
    · simp [RunningJob.voidedBy, cycle, first]
    · simp [RunningJob.voidedBy, cycle, first]
  · simp [RunningJob.voidedBy, cycle]

theorem RunningJob.voidedBy_none (j : RunningJob) : j.voidedBy (fun _ => false) = j := by simp [RunningJob.voidedBy]

/-- The running job once each parcel that `left` TRANSFERRING in its turn has marked its own CYCLE. -/
theorem forParcels_running {s : State} {f : ParcelNo → State → State} {left : ParcelNo → Bool}
    (turn : ∀ p, (f p (s.turn f p.val)).engine.running = (s.turn f p.val).engine.running.map
      (RunningJob.voidedBy fun q => left p && decide (q = p))) :
    (s.forParcels f).engine.running = s.engine.running.map (RunningJob.voidedBy left) := by
  have all : (s.forParcels f).engine.running
      = s.engine.running.map (RunningJob.voidedBy fun q => left q && decide (q.val < 4)) := by
    refine forParcels_induct (P := fun n u => u.engine.running
      = s.engine.running.map (RunningJob.voidedBy fun q => left q && decide (q.val < n))) ?_ fun p before => ?_
    · simp [funext RunningJob.voidedBy_none]
    · rw [turn, before, Option.map_map]
      refine congrArg (Option.map · _) (funext fun j => (j.voidedBy_voidedBy _ _).trans ?_)
      refine congrArg (RunningJob.voidedBy · j) (funext fun q => ?_)
      by_cases is : q = p
      · simp [is]
      · have bound : q.val < p.val + 1 ↔ q.val < p.val := by
          have : q.val ≠ p.val := fun e => is (Fin.ext e)
          omega
        simp [is, bound]
  simpa [Fin.is_lt] using all

/-! ### ESD recognized active (R12, R14) -/

section
variable {s : State} {p : ParcelNo}

/-- The record of a parcel that ESD suspends. -/
def Parcel.shutDown (r : Parcel) : Parcel :=
  { r with state := .suspended, suspendSet := { r.suspendSet with esd := true }, cycleTimer := none }

theorem State.esdActive_transferring (h : (s.parcel p).state = .transferring) : s.esdActive p
    = ((s.changeParcel p (s.parcel p).shutDown .esdActive).voidCycle p).requestCheckpoint p := by
  have inTransfer := Parcel.inTransfer_of (.inl h)
  rw [State.esdActive, if_pos inTransfer, State.suspendWith_transferring _ _ h]
  rfl

theorem State.esdActive_suspended (h : (s.parcel p).state = .suspended) : s.esdActive p
    = s.changeParcel p { s.parcel p with suspendSet := { (s.parcel p).suspendSet with esd := true } } .esdActive := by
  rw [State.esdActive, if_pos (Parcel.inTransfer_of (.inr h)), State.suspendWith_suspended _ _ h]

theorem State.esdActive_out (h : (s.parcel p).inTransfer = false) : s.esdActive p = s := by
  rw [State.esdActive, if_neg (by simp [h])]

end

/-- What ESD does in a parcel's turn, by the record it finds. -/
structure EsdReached (p : ParcelNo) (s t : State) : Prop where
  within : Within p s t
  alarm : AlarmKept s t
  others : ∀ q, q ≠ p → t.engine.jobs q = s.engine.jobs q
  mark : t.engine.mark = s.engine.mark
  store : t.store = { s.store with queue := t.store.queue }
  running : t.engine.running = s.engine.running.map
    (RunningJob.voidedBy fun q => decide ((s.parcel p).state = .transferring) && decide (q = p))
  links : ∀ m, t.link m = (s.link m).placeAll s.clock (stateNotices p (s.parcel p) (t.parcel p) .esdActive)
  quiet : (s.parcel p).state ≠ .transferring → t.engine.jobs p = s.engine.jobs p ∧ t.store.queue = s.store.queue

theorem State.esdActive_reached (s : State) (p : ParcelNo) : EsdReached p s (s.esdActive p) := by
  by_cases transferring : (s.parcel p).state = .transferring
  · rw [State.esdActive_transferring transferring]
    obtain ⟨aside, ⟨jobs, others, mark, running⟩, requested⟩ := s.suspended_aside p (s.parcel p).shutDown .esdActive
    have changed := (s.changeParcel_recordChanged p (s.parcel p).shutDown .esdActive).aside aside
    refine ⟨changed.within, changed.alarm, others, mark, by rw [requested], ?_, fun m => ?_, fun no => absurd transferring no⟩
    · rw [running]
      refine congrArg (Option.map · _) (funext fun j => ?_)
      simp [RunningJob.voidedBy, transferring]
    · rw [changed.record, aside.link, State.link_changeParcel]
  · have kept (u : State) (changed : OnlyParcel p s u)
        (links : ∀ m, u.link m = (s.link m).placeAll s.clock (stateNotices p (s.parcel p) (u.parcel p) .esdActive)) :
        EsdReached p s u := by
      refine ⟨changed.within, changed.alarm, fun q _ => by rw [changed.engine], by rw [changed.engine], by rw [changed.store],
        ?_, links, fun _ => ⟨by rw [changed.engine], by rw [changed.store]⟩⟩
      simp [changed.engine, transferring, funext RunningJob.voidedBy_none]
    by_cases suspended : (s.parcel p).state = .suspended
    · rw [State.esdActive_suspended suspended]
      refine kept _ (s.changeParcel_onlyParcel p _ _) fun m => ?_
      rw [State.link_changeParcel, State.parcel_changeParcel_same]
    · rw [State.esdActive_out (Bool.eq_false_iff.mpr fun yes =>
        ((Parcel.inTransfer_iff _).mp yes).elim transferring suspended)]
      exact kept s ⟨Within.refl p s, rfl, rfl, AlarmKept.refl s⟩ fun m => by rw [stateNotices_same]; rfl

theorem EsdReached.elsewhere {p q : ParcelNo} {s t : State} (h : EsdReached p s t) (ne : q ≠ p) : Elsewhere q s t :=
  h.within.elsewhere ne (h.others q ne) (by rw [h.store]; rfl)

/-- What all the turns of ESD leave alone, or change of the whole part. -/
theorem State.forParcels_esdActive (s : State) :
    let t := s.forParcels fun p u => u.esdActive p
    (∀ p, Elsewhere p s (s.turn (fun p u => u.esdActive p) p.val)
      ∧ Elsewhere p ((s.turn (fun p u => u.esdActive p) p.val).esdActive p) t)
    ∧ Reaches s t ∧ AlarmKept s t ∧ t.engine.mark = s.engine.mark ∧ t.store = { s.store with queue := t.store.queue } := by
  refine ⟨fun p => ⟨?_, ?_⟩, ?_, ?_, ?_, ?_⟩
  · exact turn_related s (.refl p) .trans fun q ne u => (u.esdActive_reached q).elsewhere (Ne.symm ne)
  · exact forParcels_related_after s (.refl p) .trans fun q ne u => (u.esdActive_reached q).elsewhere (Ne.symm ne)
  · exact forParcels_related s .refl .trans fun p u => (u.esdActive_reached p).within.reaches
  · exact forParcels_related s .refl .trans fun p u => (u.esdActive_reached p).alarm
  · exact forParcels_related (R := fun u v => v.engine.mark = u.engine.mark) s (fun _ => rfl) (fun h g => g.trans h)
      fun p u => (u.esdActive_reached p).mark
  · exact forParcels_related (R := fun u v => v.store = { u.store with queue := v.store.queue }) s (fun _ => rfl)
      (fun h g => by rw [g, h]) fun p u => (u.esdActive_reached p).store

/-- ESD over all the parcels, each by the state it stands in. -/
theorem State.esd_joins (s : State) :
    let t := s.forParcels fun p u => u.esdActive p
    (∀ p, (s.parcel p).state = .transferring → t.parcel p = (s.parcel p).shutDown
      ∧ t.engine.jobs p = { s.engine.jobs p with cycle := false } ∧ LampFollows p s t)
    ∧ CheckpointsPlaced (fun p => decide ((s.parcel p).state = .transferring)) t.checkpointCopy s.store.queue t.store.queue
    ∧ (∀ p, (s.parcel p).state = .suspended →
      t.parcel p = { s.parcel p with suspendSet := { (s.parcel p).suspendSet with esd := true } }
      ∧ t.engine.jobs p = s.engine.jobs p ∧ LampFollows p s t)
    ∧ (∀ p, (s.parcel p).inTransfer = false → Elsewhere p s t)
    ∧ t.engine.running = s.engine.running.map (RunningJob.voidedBy fun q => decide ((s.parcel q).state = .transferring))
    ∧ ∀ m, t.link m = (s.link m).placeAll s.clock
      (allParcels.flatMap fun p => stateNotices p (s.parcel p) (t.parcel p) .esdActive) := by
  intro t
  obtain ⟨turns, reaches, -⟩ := s.forParcels_esdActive
  set f : ParcelNo → State → State := fun p u => u.esdActive p
  have reached (p : ParcelNo) := (s.turn f p.val).esdActive_reached p
  have found (p : ParcelNo) : (s.turn f p.val).parcel p = s.parcel p := (turns p).1.parcel
  refine ⟨fun p state => ?_, forParcels_queue (fun p asked => ?_) fun p not => ?_, fun p state => ?_, fun p out => ?_,
    forParcels_running fun p => ?_, forParcels_links fun p m => ?_⟩
  · have is := State.esdActive_transferring (p := p) (s := s.turn f p.val) (by rw [found, state])
    obtain ⟨aside, voided, -⟩ := (s.turn f p.val).suspended_aside p ((s.turn f p.val).parcel p).shutDown .esdActive
    have changed := ((s.turn f p.val).changeParcel_recordChanged p ((s.turn f p.val).parcel p).shutDown .esdActive).aside aside
    rw [← is] at changed voided
    refine ⟨?_, ?_, changed.lamp.of_elsewhere (turns p).1 (turns p).2⟩
    · rw [(turns p).2.parcel, changed.record, found]
    · rw [(turns p).2.jobs, voided.1, (turns p).1.jobs]
  · have state : ((s.turn f p.val).parcel p).state = .transferring := by rw [found]; simpa using asked
    obtain ⟨-, -, requested⟩ := (s.turn f p.val).suspended_aside p ((s.turn f p.val).parcel p).shutDown .esdActive
    rw [← State.esdActive_transferring state] at requested
    have within : Reaches ((s.turn f p.val).esdActive p) t :=
      forParcels_related_after s .refl .trans fun q _ u => (u.esdActive_reached q).within.reaches
    rw [within.copy (turns p).2.parcel]
    exact requested.queue
  · exact ((reached p).quiet (by rw [found]; simpa using not)).2
  · have is := State.esdActive_suspended (p := p) (s := s.turn f p.val) (by rw [found, state])
    have changed := (s.turn f p.val).changeParcel_recordChanged p { (s.turn f p.val).parcel p with
      suspendSet := { ((s.turn f p.val).parcel p).suspendSet with esd := true } } .esdActive
    rw [← is] at changed
    refine ⟨?_, ?_, changed.lamp.of_elsewhere (turns p).1 (turns p).2⟩
    · rw [(turns p).2.parcel, changed.record, found]
    · rw [(turns p).2.jobs, changed.only.engine, (turns p).1.jobs]
  · have after := (turns p).2
    rw [State.esdActive_out (by rw [found, out])] at after
    exact (turns p).1.trans after
  · rw [← found]
    exact (reached p).running
  · have clock : (s.turn f p.val).clock = s.clock := (turns p).1.clock
    rw [(turns p).2.parcel, ← found p, ← clock]
    exact (reached p).links m

/-! ### ESD recognized inactive (R12) -/

/-- The record of a parcel that ESD leaves at the instant `now`. -/
def Parcel.esdEnded (r : Parcel) (now : Instant) : Parcel :=
  let x := { r.suspendSet with esd := false }
  if r.state = .suspended ∧ x = ⟨false, false, false, false⟩ then
    { r with state := .transferring, suspendSet := x, cycleTimer := some (now + tenths r.params.cyclePeriod) }
  else { r with suspendSet := x }

theorem State.esdInactive_member {s : State} {p : ParcelNo} (h : (s.parcel p).suspendSet.esd = true) :
    s.esdInactive p = s.changeParcel p ((s.parcel p).esdEnded s.clock) .esdInactive := by
  simp only [State.esdInactive, h, if_true, State.resumeWith, SuspendSet.isEmpty_eq, decide_eq_true_eq, Parcel.esdEnded]
  split
  · rfl
  · rfl

theorem State.esdInactive_no_member {s : State} {p : ParcelNo} (h : (s.parcel p).suspendSet.esd = false) :
    s.esdInactive p = s := by
  simp [State.esdInactive, h]

theorem OnlyParcel.refl (p : ParcelNo) (s : State) : OnlyParcel p s s := ⟨Within.refl p s, rfl, rfl, AlarmKept.refl s⟩

theorem OnlyParcel.elsewhere {p q : ParcelNo} {s t : State} (h : OnlyParcel p s t) (ne : q ≠ p) : Elsewhere q s t :=
  h.within.elsewhere ne (by rw [h.engine]) (by rw [h.store])

theorem State.esdInactive_only (s : State) (p : ParcelNo) : OnlyParcel p s (s.esdInactive p) := by
  cases member : (s.parcel p).suspendSet.esd
  · rw [State.esdInactive_no_member member]
    exact .refl p s
  · rw [State.esdInactive_member member]
    exact s.changeParcel_onlyParcel p _ _

theorem State.link_esdInactive (s : State) (p : ParcelNo) (m : Link) : (s.esdInactive p).link m
    = (s.link m).placeAll s.clock (stateNotices p (s.parcel p) ((s.esdInactive p).parcel p) .esdInactive) := by
  cases member : (s.parcel p).suspendSet.esd
  · rw [State.esdInactive_no_member member, stateNotices_same]
    rfl
  · rw [State.esdInactive_member member, State.link_changeParcel, State.parcel_changeParcel_same]

/-- The end of ESD over all the parcels, each by the member it holds. -/
theorem State.esd_leaves (s : State) :
    let t := s.forParcels fun p u => u.esdInactive p
    (∀ p, (s.parcel p).suspendSet.esd = true → t.parcel p = (s.parcel p).esdEnded s.clock ∧ LampFollows p s t)
    ∧ (∀ p, (s.parcel p).suspendSet.esd = false → Elsewhere p s t)
    ∧ t.engine = s.engine ∧ t.store = s.store ∧ AlarmKept s t ∧ Reaches s t
    ∧ ∀ m, t.link m = (s.link m).placeAll s.clock
      (allParcels.flatMap fun p => stateNotices p (s.parcel p) (t.parcel p) .esdInactive) := by
  intro t
  set f : ParcelNo → State → State := fun p u => u.esdInactive p
  have before (p : ParcelNo) : Elsewhere p s (s.turn f p.val) :=
    turn_related s (.refl p) .trans fun q ne u => (u.esdInactive_only q).elsewhere (Ne.symm ne)
  have after (p : ParcelNo) : Elsewhere p ((s.turn f p.val).esdInactive p) t :=
    forParcels_related_after s (.refl p) .trans fun q ne u => (u.esdInactive_only q).elsewhere (Ne.symm ne)
  refine ⟨fun p member => ?_, fun p none_ => ?_, ?_, ?_, ?_, ?_, forParcels_links fun p m => ?_⟩
  · have changed := (s.turn f p.val).changeParcel_recordChanged p
      (((s.turn f p.val).parcel p).esdEnded (s.turn f p.val).clock) .esdInactive
    rw [← State.esdInactive_member (by rw [(before p).parcel, member])] at changed
    refine ⟨?_, changed.lamp.of_elsewhere (before p) (after p)⟩
    rw [(after p).parcel, changed.record, (before p).parcel, (before p).clock]
  · have same := after p
    rw [State.esdInactive_no_member (by rw [(before p).parcel, none_])] at same
    exact (before p).trans same
  · exact forParcels_related (R := fun u v => v.engine = u.engine) s (fun _ => rfl) (fun h g => g.trans h)
      fun p u => (u.esdInactive_only p).engine
  · exact forParcels_related (R := fun u v => v.store = u.store) s (fun _ => rfl) (fun h g => g.trans h)
      fun p u => (u.esdInactive_only p).store
  · exact forParcels_related s .refl .trans fun p u => (u.esdInactive_only p).alarm
  · exact forParcels_related s .refl .trans fun p u => (u.esdInactive_only p).within.reaches
  · rw [(after p).parcel, ← (before p).parcel, ← (before p).clock]
    exact (s.turn f p.val).link_esdInactive p m

/-! ### A valve recognized closed (R19, R20) -/

/-- Whether a parcel has a reserved close and names the valve. -/
def Parcel.closesAt (n : ParcelNo) (r : Parcel) : Bool :=
  decide (r.params.valveInput = n.val + 1) && !r.closeReservation.isEmpty && r.inTransfer

theorem Parcel.closesAt_iff {n : ParcelNo} {r : Parcel} : r.closesAt n = true ↔
    r.params.valveInput = n.val + 1 ∧ r.closeReservation ≠ ⟨false, false⟩ ∧ r.inTransfer = true := by
  rw [ne_eq, ← PartySet.isEmpty_iff, Parcel.closesAt, Bool.and_eq_true, Bool.and_eq_true, decide_eq_true_iff,
    Bool.not_eq_true', Bool.not_eq_true, and_assoc]

theorem State.valveClosed_eq (n p : ParcelNo) (s : State) :
    State.valveClosed n p s = if (s.parcel p).closesAt n = true then s.executeClose p .settleValve else s := by
  simp only [State.valveClosed, Parcel.closesAt, Bool.and_eq_true, decide_eq_true_eq, Bool.not_eq_true', and_assoc]

theorem State.valveClosed_closes {n p : ParcelNo} {s : State} (h : (s.parcel p).closesAt n = true) :
    State.valveClosed n p s = s.executeClose p .settleValve := by
  rw [State.valveClosed_eq, if_pos h]

theorem State.valveClosed_apart {n p : ParcelNo} {s : State} (h : (s.parcel p).closesAt n = false) :
    State.valveClosed n p s = s := by
  rw [State.valveClosed_eq, h]
  rfl

/-- A close of a parcel in ALARM clears the output when it was the last; later closes of parcels that are not in ALARM leave
it, and while one is still in ALARM so did the earlier ones. -/
theorem AlarmEnded.trans {a b : Bool} {s t u : State} (h : AlarmEnded a s t) (g : AlarmEnded b t u)
    (fewer : u.anyAlarm = true → t.anyAlarm = true) (same : b = false → u.anyAlarm = t.anyAlarm) :
    AlarmEnded (a || b) s u := by
  unfold AlarmEnded at *
  cases last : u.anyAlarm
  · cases b
    · rw [← same rfl, last] at h
      simp only [Bool.or_false, Bool.false_eq_true, false_and, if_false, and_true] at h g ⊢
      cases a
      · exact AlarmKept.trans h g
      · exact ⟨g.1.trans h.1, g.2.trans h.2⟩
    · simpa [last] using g
  · simp only [last, Bool.true_eq_false, and_false, if_false] at g ⊢
    simp only [fewer last, Bool.true_eq_false, and_false, if_false] at h
    exact h.trans g

/-- What a valve recognized closed does in a parcel's turn. -/
structure ValveReached (n p : ParcelNo) (s t : State) : Prop where
  within : Within p s t
  others : ∀ q, q ≠ p → t.engine.jobs q = s.engine.jobs q
  mark : t.engine.mark = s.engine.mark
  store : t.store = s.store
  running : t.engine.running = s.engine.running.map
    (RunningJob.voidedBy fun q => ((s.parcel p).closesAt n && decide ((s.parcel p).state = .transferring)) && decide (q = p))
  links : ∀ m, t.link m = (s.link m).placeAll s.clock (stateNotices p (s.parcel p) (t.parcel p) .settleValve)
  alarm : AlarmEnded ((s.parcel p).closesAt n && (s.parcel p).recon.alarm) s t
  parcel : t.parcel p = if (s.parcel p).closesAt n = true then (s.parcel p).closingRecord else s.parcel p

theorem State.valveClosed_reached (n : ParcelNo) (s : State) (p : ParcelNo) : ValveReached n p s (State.valveClosed n p s) := by
  cases closes : (s.parcel p).closesAt n with
  | true =>
    rw [State.valveClosed_closes closes]
    obtain ⟨record, mark, others, -, -, -, running, alarm, store, -, within⟩ := s.executeClose_executed p .settleValve
    refine ⟨within, others, mark, store, ?_, fun m => ?_, ?_, ?_⟩
    · rw [running, closes]
      refine congrArg (Option.map · _) (funext fun j => ?_)
      simp only [RunningJob.voidedBy, Bool.true_and, Bool.and_eq_true, decide_eq_true_eq]
      exact if_congr (and_left_comm) rfl rfl
    · rw [record, State.link_executeClose]
    · rwa [closes]
    · rw [closes]
      exact record
  | false =>
    rw [State.valveClosed_apart closes]
    refine ⟨.refl p s, fun _ _ => rfl, rfl, rfl, ?_, fun m => ?_, ?_, ?_⟩
    · simp [closes, funext RunningJob.voidedBy_none]
    · rw [stateNotices_same]
      rfl
    · rw [closes]
      exact AlarmKept.refl s
    · rw [closes]
      rfl

theorem ValveReached.elsewhere {n p q : ParcelNo} {s t : State} (h : ValveReached n p s t) (ne : q ≠ p) : Elsewhere q s t :=
  h.within.elsewhere ne (h.others q ne) (by rw [h.store])

/-- A close leaves its own parcel in NORMAL and every other as it was. -/
theorem ValveReached.anyAlarm {n p : ParcelNo} {s t : State} (h : ValveReached n p s t) :
    (t.anyAlarm = true → s.anyAlarm = true)
      ∧ (((s.parcel p).closesAt n && (s.parcel p).recon.alarm) = false → t.anyAlarm = s.anyAlarm) := by
  have record (q : ParcelNo) : (t.parcel q).recon.alarm = true → (s.parcel q).recon.alarm = true := by
    by_cases is : q = p
    · rw [is, h.parcel]
      split
      · exact nofun
      · exact id
    · rw [h.within.2.1 q is]
      exact id
  refine ⟨fun any => ?_, fun none_ => State.anyAlarm_congr fun q => ?_⟩
  · rw [State.anyAlarm_iff] at any ⊢
    exact any.imp record
  · by_cases is : q = p
    · subst is
      rw [h.parcel]
      split
      next yes => rw [yes, Bool.true_and] at none_; exact none_.symm
      · rfl
    · rw [h.within.2.1 q is]

section
variable (s : State) (n p : ParcelNo)

theorem State.valve_before : Elsewhere p s (s.turn (State.valveClosed n) p.val) :=
  turn_related s (.refl p) .trans fun q ne u => (u.valveClosed_reached n q).elsewhere (Ne.symm ne)

theorem State.valve_after : Elsewhere p (State.valveClosed n p (s.turn (State.valveClosed n) p.val))
    (s.forParcels (State.valveClosed n)) :=
  forParcels_related_after s (.refl p) .trans fun q ne u => (u.valveClosed_reached n q).elsewhere (Ne.symm ne)

/-- The alarm output once every parcel that closes has had its turn. -/
theorem State.valve_alarm : AlarmEnded (allParcels.any fun p => (s.parcel p).closesAt n && (s.parcel p).recon.alarm) s
    (s.forParcels (State.valveClosed n)) := by
  refine forParcels_induct (P := fun k u => AlarmEnded
    ((allParcels.take k).any fun p => (s.parcel p).closesAt n && (s.parcel p).recon.alarm) s u) (AlarmKept.refl s) fun p ended => ?_
  have turn := (s.turn (State.valveClosed n) p.val).valveClosed_reached n p
  obtain ⟨fewer, same⟩ := turn.anyAlarm
  have alarm := turn.alarm
  rw [(s.valve_before n p).parcel] at alarm same
  rw [take_parcels_succ, List.any_append, List.any_cons, List.any_nil, Bool.or_false]
  exact ended.trans alarm fewer same

theorem State.valve_running : (s.forParcels (State.valveClosed n)).engine.running = s.engine.running.map
    (RunningJob.voidedBy fun p => (s.parcel p).closesAt n && decide ((s.parcel p).state = .transferring)) :=
  forParcels_running fun p => by
    rw [← (s.valve_before n p).parcel]
    exact (State.valveClosed_reached n _ p).running

theorem State.valve_links (m : Link) : (s.forParcels (State.valveClosed n)).link m = (s.link m).placeAll s.clock
    (allParcels.flatMap fun p =>
      stateNotices p (s.parcel p) ((s.forParcels (State.valveClosed n)).parcel p) .settleValve) :=
  forParcels_links (fun p m => by
    rw [(s.valve_after n p).parcel, ← (s.valve_before n p).parcel, ← (s.valve_before n p).clock]
    exact (State.valveClosed_reached n _ p).links m) m

theorem State.valve_rest : Reaches s (s.forParcels (State.valveClosed n))
    ∧ (s.forParcels (State.valveClosed n)).engine.mark = s.engine.mark
    ∧ (s.forParcels (State.valveClosed n)).store = s.store :=
  ⟨forParcels_related s .refl .trans fun p u => (u.valveClosed_reached n p).within.reaches,
    forParcels_related (R := fun u v => v.engine.mark = u.engine.mark) s (fun _ => rfl) (fun h g => g.trans h)
      fun p u => (u.valveClosed_reached n p).mark,
    forParcels_related (R := fun u v => v.store = u.store) s (fun _ => rfl) (fun h g => g.trans h)
      fun p u => (u.valveClosed_reached n p).store⟩

theorem ValveReached.runs {q : ParcelNo} {t : State} (h : ValveReached n q s t) (k : JobKind) :
    t.engine.runs k p = s.engine.runs k p :=
  (Engine.runs_congr (a := { s.engine with running := t.engine.running }) rfl k p).trans
    (s.engine.runs_map_voided _ _ h.running k p)

theorem State.valve_runs (k : JobKind) : (s.turn (State.valveClosed n) p.val).engine.runs k p = s.engine.runs k p :=
  turn_related (R := fun u v => v.engine.runs k p = u.engine.runs k p) s (fun _ => rfl) (fun h g => g.trans h)
    fun q _ u => (u.valveClosed_reached n q).runs u n p k

theorem State.valve_apart (apart : (s.parcel p).closesAt n = false) : Elsewhere p s (s.forParcels (State.valveClosed n)) := by
  have after := s.valve_after n p
  rw [State.valveClosed_apart (by rw [(s.valve_before n p).parcel]; exact apart)] at after
  exact (s.valve_before n p).trans after

theorem State.valve_closes (closes : (s.parcel p).closesAt n = true) :
    let t := s.forParcels (State.valveClosed n)
    t.parcel p = (s.parcel p).closingRecord ∧ LampFollows p s t
      ∧ (t.engine.jobs p).openJob = (s.engine.jobs p).openJob
      ∧ (t.engine.jobs p).cycle = ((s.engine.jobs p).cycle && !decide ((s.parcel p).state = .transferring))
      ∧ (t.engine.jobs p).close = ((s.engine.jobs p).close || !s.engine.runs .close p) := by
  intro t
  have before := s.valve_before n p
  have after := s.valve_after n p
  have executed := (s.turn (State.valveClosed n) p.val).executeClose_executed p .settleValve
  rw [← State.valveClosed_closes (by rw [before.parcel]; exact closes), before.parcel] at executed
  obtain ⟨record, -, -, openJob, cycle, close, -, -, -, lamp, -⟩ := executed
  rw [before.jobs] at openJob cycle close
  rw [s.valve_runs] at close
  rw [after.jobs]
  exact ⟨after.parcel.trans record, lamp.of_elsewhere before after, openJob, cycle, close⟩

end

/-! ### The change recognized (R207, R208) -/

/-- The part once the change of an input is recognized and its notice posted, before the parcels have their turns. -/
def State.recognized (s : State) (i : InputName) : State :=
  let s1 := s.setLines (s.lines.setInput i { s.lines.input i with level := !(s.lines.input i).level, candidate := none })
  s1.postAll (.inputChange i (!(s.lines.input i).level) s1.lines.levels)

theorem State.recognize_eq {s : State} {i : InputName} (due : (s.lines.input i).due s.msec = true) :
    s.recognize i = ((s.recognized i).feedInput i (!(s.lines.input i).level)).transmitAll := by
  rw [State.recognize, if_pos due]
  rfl

/-- What the parcels' turns find: the part as it was, but for one input's level and its notice. -/
structure Recognized (b : NoticeBody) (s u : State) : Prop where
  parcel : ∀ p, u.parcel p = s.parcel p
  engine : u.engine = s.engine
  store : u.store = s.store
  clock : u.clock = s.clock
  msec : u.msec = s.msec
  lamp : ∀ p, u.lines.lamp p = s.lines.lamp p
  alarm : AlarmKept s u
  link : ∀ m, u.link m = (s.link m).place ⟨s.clock, b⟩
  rest : u = { s with lines := u.lines, ship := u.ship, shore := u.shore, survey := u.survey }

theorem State.recognized_recognized (s : State) (i : InputName) :
    Recognized (.inputChange i (!(s.lines.input i).level) (s.recognized i).lines.levels) s (s.recognized i) where
  parcel p := by simp [State.recognized]
  engine := by simp [State.recognized]
  store := by simp [State.recognized]
  clock := by simp [State.recognized]
  msec := by simp [State.recognized]
  lamp p := by simp [State.recognized, Lines.lamp]
  alarm := by simp [State.recognized, AlarmKept]
  link m := by simp [State.recognized]
  rest := rfl

section
variable {s u t : State} {b : NoticeBody} (h : Recognized b s u)
include h

theorem Recognized.lampFollows {p : ParcelNo} (follows : LampFollows p u t) : LampFollows p s t.transmitAll := by
  unfold LampFollows at *
  rw [h.lamp, h.msec] at follows
  exact follows

theorem Recognized.apart {p : ParcelNo} (elsewhere : Elsewhere p u t) :
    t.transmitAll.parcel p = s.parcel p ∧ t.transmitAll.lines.lamp p = s.lines.lamp p :=
  ⟨elsewhere.parcel.trans (h.parcel p), elsewhere.lamp.trans (h.lamp p)⟩

theorem Recognized.reached (reaches : Reaches u t) : t.transmitAll = { s with
    parcels := t.transmitAll.parcels
    engine := t.transmitAll.engine
    store := t.transmitAll.store
    lines := t.transmitAll.lines
    ship := t.transmitAll.ship
    shore := t.transmitAll.shore
    survey := t.transmitAll.survey } := by
  have rest := reaches.1
  rw [h.rest] at rest
  rw [rest]
  rfl

theorem Recognized.posted {bs : List NoticeBody} (links : ∀ m, t.link m = (u.link m).placeAll s.clock bs) :
    Posted s t.transmitAll (b :: bs) :=
  posted_transmitAll fun m => by rw [links, h.link, LinkState.placeAll_cons]

end

theorem Reaches.input {s t : State} (h : Reaches s t) (j : InputName) : t.lines.input j = s.lines.input j := by
  rw [h.2]
  cases j <;> rfl

/-- A change reaches the parcels alone. -/
theorem State.feedInput_reaches (s : State) (i : InputName) (level : Bool) : Reaches s (s.feedInput i level) := by
  unfold State.feedInput
  split
  · exact s.forParcels_esdActive.2.1
  · exact s.esd_leaves.2.2.2.2.2.1
  · exact (s.valve_rest _).1
  · exact .refl s
  · exact .refl s

theorem State.recognized_input (s : State) (i j : InputName) : (s.recognized i).lines.input j
    = if j = i then { s.lines.input i with level := !(s.lines.input i).level, candidate := none } else s.lines.input j := by
  rw [State.recognized, State.postAll_lines, State.setLines_lines]
  split
  next is => rw [is, Lines.input_setInput_same]
  next ne => rw [Lines.input_setInput_ne _ ne]

/-- Settles O54: each parcel by the turn it has, its record, lamp and jobs untouched by the turns of the others. -/
theorem shutdownAndValvesReachTheParcels : Obligations.ShutdownAndValvesReachTheParcels := by
  unfold Obligations.ShutdownAndValvesReachTheParcels
  intro s i since old candidate stood
  have due := (old.due_iff s.msec).mpr ⟨since, candidate, stood⟩
  have is : exec (.inputChange i) s = .next _ := congrArg Host.Outcome.next (State.recognize_eq due)
  have found := s.recognized_recognized i
  have reaches := (s.recognized i).feedInput_reaches i (!(s.lines.input i).level)
  have input (j : InputName) := (reaches.input j).trans (s.recognized_input i j)
  have levels : (s.recognized i).lines.levels = [InputName.esd, .mv 0, .mv 1, .mv 2, .mv 3, .spare].map fun j =>
      (((s.recognized i).feedInput i (!(s.lines.input i).level)).lines.input j).level :=
    List.map_congr_left fun j _ => by rw [reaches.input]
  rw [levels] at found
  generalize s.recognized i = u at *
  refine ⟨_, is, ⟨?active, ?inactive, ?valve⟩, ?level, ?candidate, ?others, ?rest⟩
  case active =>
    rintro rfl level
    obtain ⟨joins, queue, suspended, out, running, links⟩ := u.esd_joins
    obtain ⟨-, -, alarm, mark, store⟩ := u.forParcels_esdActive
    have feed : u.feedInput .esd (!(s.lines.input .esd).level) = u.forParcels fun p u => u.esdActive p := by
      rw [show (s.lines.input .esd).level = false from level]
      rfl
    rw [feed] at found ⊢
    generalize u.forParcels (fun p u => u.esdActive p) = t at *
    simp only [found.parcel, found.engine, found.store, found.clock] at joins queue suspended out running links mark store
    refine ⟨fun p state => ?_, queue, fun p state => ?_, fun p apart => ?_, mark, ?_, store, found.alarm.trans alarm,
      found.posted links⟩
    · obtain ⟨record, jobs, lamp⟩ := joins p state
      exact ⟨record, jobs, found.lampFollows lamp⟩
    · obtain ⟨record, jobs, lamp⟩ := suspended p state
      exact ⟨record, jobs, found.lampFollows lamp⟩
    · refine ⟨found.apart (out p apart), (out p apart).jobs.trans (by rw [found.engine])⟩
    · refine running.trans (congrArg (Option.map · _) (funext fun j => ?_))
      simp only [RunningJob.voidedBy, decide_eq_true_eq]
  case inactive =>
    rintro rfl level
    obtain ⟨member, none_, engine, store, alarm, -, links⟩ := u.esd_leaves
    have feed : u.feedInput .esd (!(s.lines.input .esd).level) = u.forParcels fun p u => u.esdInactive p := by
      rw [show (s.lines.input .esd).level = true from level]
      rfl
    rw [feed] at found ⊢
    generalize u.forParcels (fun p u => u.esdInactive p) = t at *
    simp only [found.parcel, found.clock] at member none_ links
    refine ⟨fun p is => ?_, fun p is => found.apart (none_ p is), engine.trans found.engine, store.trans found.store,
      found.alarm.trans alarm, found.posted links⟩
    obtain ⟨record, lamp⟩ := member p is
    exact ⟨record, found.lampFollows lamp⟩
  case valve =>
    rintro n rfl level closes
    have each (p : ParcelNo) : (s.parcel p).closesAt n = true ↔ closes p := Parcel.closesAt_iff
    have apart (p : ParcelNo) (no : ¬closes p) : (s.parcel p).closesAt n = false := Bool.eq_false_iff.mpr fun yes =>
      no ((each p).mp yes)
    have inAlarm : (allParcels.any fun p => (s.parcel p).closesAt n && (s.parcel p).recon.alarm) = true
        ↔ ∃ p, closes p ∧ (s.parcel p).recon.alarm = true := by
      simp only [List.any_eq_true, mem_allParcels, true_and, Bool.and_eq_true, each]
    have feed : u.feedInput (.mv n) (!(s.lines.input (.mv n)).level) = u.forParcels (State.valveClosed n) := by
      rw [show (s.lines.input (.mv n)).level = false from level]
      rfl
    have closing := u.valve_closes n
    have others := u.valve_apart n
    obtain ⟨-, mark, store⟩ := u.valve_rest n
    have running := u.valve_running n
    have alarm := (u.valve_alarm n).from_kept found.alarm
    have links := u.valve_links n
    rw [feed] at found ⊢
    generalize u.forParcels (State.valveClosed n) = t at *
    simp only [found.parcel, found.engine, found.store, found.clock] at closing others mark store running alarm links
    refine ⟨fun p is => ?_, fun p no => ?_, mark, fun j is => ?_, fun none_ => ?_, store, fun ended off => ?_, fun kept => ?_,
      found.posted links⟩
    · obtain ⟨record, lamp, jobs⟩ := closing p ((each p).mpr is)
      exact ⟨record, found.lampFollows lamp, jobs⟩
    · have same := others p (apart p no)
      exact ⟨found.apart same, same.jobs.trans (by rw [found.engine])⟩
    · rw [is, Option.map_some, RunningJob.voidedBy_eq] at running
      refine ⟨_, running, ?_⟩
      rw [Bool.or_eq_true, Bool.and_eq_true, Bool.and_eq_true, decide_eq_true_iff, decide_eq_true_iff, each]
    · rw [none_] at running
      exact running
    · have any := inAlarm.mpr ended
      exact (if_pos ⟨any, off⟩).mp alarm
    · refine (if_neg fun ⟨any, off⟩ => ?_).mp alarm
      obtain ⟨p, is, inAlarm⟩ := inAlarm.mp any
      exact kept.elim (fun none_ => absurd inAlarm (by rw [none_ p is]; exact nofun)) fun still => absurd off (by
        rw [show t.anyAlarm = true from still]
        exact nofun)
  case level => exact congrArg InputState.level ((input i).trans (if_pos rfl))
  case candidate => exact congrArg InputState.candidate ((input i).trans (if_pos rfl))
  case others => exact fun j ne => (input j).trans (if_neg ne)
  case rest => exact found.reached reaches

end Sys2Proof.Machine
end

section
/-!
PROOFS. The end of start-up verification: the checkpoints of the parcels recovered one after the other (R27 to R29, R56,
R134, R160, R186).
-/

namespace Sys2Proof.Machine

/-! ### The sources a restore draws (R56) -/

section
variable {α : Type} {read : State → Nat → α} {draw : State → Nat × Nat → State}
  (other : ∀ u x m, m ≠ x.1 → read (draw u x) m = read u m) {xs : List (Nat × Nat)} {n : Nat}
include other

theorem read_foldl_absent (absent : ∀ d, (n, d) ∉ xs) (s : State) : read (xs.foldl draw s) n = read s n := by
  induction xs generalizing s with
  | nil => rfl
  | cons x rest ih =>
    have ne : n ≠ x.1 := fun is => absent x.2 (is ▸ List.mem_cons_self)
    rw [List.foldl_cons, ih (fun d mem => absent d (List.mem_cons_of_mem x mem)), other s x n ne]

/-- A number drawn more than once with one depth is drawn as once. -/
theorem read_foldl_drawn {give : Nat → α → α} (same : ∀ u d, read (draw u (n, d)) n = give d (read u n))
    (idem : ∀ d a, give d (give d a) = give d a) {d : Nat} (mem : (n, d) ∈ xs) (only : ∀ e, (n, e) ∈ xs → e = d) (s : State) :
    read (xs.foldl draw s) n = give d (read s n) := by
  induction xs generalizing s with
  | nil => cases mem
  | cons x rest ih =>
    have only_rest (e : Nat) (later : (n, e) ∈ rest) : e = d := only e (List.mem_cons_of_mem x later)
    rw [List.foldl_cons]
    by_cases is : x = (n, d)
    · subst is
      by_cases again : (n, d) ∈ rest
      · rw [ih again only_rest, same, idem]
      · rw [read_foldl_absent other fun e later => again (only_rest e later ▸ later), same]
    · have ne : n ≠ x.1 := fun first => is (Prod.ext first.symm (only x.2 (first ▸ List.mem_cons_self)))
      rw [ih (List.mem_of_ne_of_mem (Ne.symm is) mem) only_rest, other s x n ne]

end

section
variable (s : State) (p : ParcelNo) (k : Checkpoint)

/-- The draws of a restore, of tanks and of meters. -/
def State.drawTankOf (p : ParcelNo) (s : State) (x : Nat × Nat) : State := s.drawTank x.1 p x.2

def State.drawMeterOf (p : ParcelNo) (s : State) (x : Nat × Nat) : State := s.drawMeter x.1 p x.2

theorem State.drawRestored_eq :
    s.drawRestored p k = k.meters.foldl (State.drawMeterOf p) (k.tanks.foldl (State.drawTankOf p) s) := rfl

theorem State.tank_restore (n : Nat) : (s.restore p k).tank n = (k.tanks.foldl (State.drawTankOf p) s).tank n := by
  rw [State.restore, State.tank_requestCheckpoint, State.tank_changeParcel, State.drawRestored_eq]
  exact State.tank_congr (foldl_keeps State.tanks (f := State.drawMeterOf p) (fun u x => u.drawMeter_tanks x.1 p x.2) _ _) n

theorem State.meter_drawTanks (n : Nat) : (k.tanks.foldl (State.drawTankOf p) s).meter n = s.meter n :=
  State.meter_congr (foldl_keeps State.meters (f := State.drawTankOf p) (fun u x => u.drawTank_meters x.1 p x.2) _ _) n

theorem State.meter_restore (n : Nat) : (s.restore p k).meter n
    = (k.meters.foldl (State.drawMeterOf p) (k.tanks.foldl (State.drawTankOf p) s)).meter n := by
  rw [State.restore, State.meter_requestCheckpoint, State.meter_changeParcel, State.drawRestored_eq]

theorem State.tank_drawTankOf_ne (u : State) (x : Nat × Nat) (m : Nat) (ne : m ≠ x.1) :
    (State.drawTankOf p u x).tank m = u.tank m := by
  rw [State.drawTankOf, State.drawTank_eq, State.tank_setTank_ne _ ne]

theorem State.meter_drawMeterOf_ne (u : State) (x : Nat × Nat) (m : Nat) (ne : m ≠ x.1) :
    (State.drawMeterOf p u x).meter m = u.meter m := by
  rw [State.drawMeterOf, State.drawMeter_eq, State.meter_setMeter_ne _ ne]

variable {k} {n : Nat}

theorem State.tank_drawTankOf_same (lo : 1 ≤ n) (hi : n ≤ 16) (u : State) (d : Nat) :
    (State.drawTankOf p u (n, d)).tank n = (u.tank n).drawnFor p d := by
  rw [State.drawTankOf, State.drawTank_eq, State.tank_setTank_same _ lo hi]

theorem State.meter_drawMeterOf_same (lo : 1 ≤ n) (hi : n ≤ 8) (u : State) (d : Nat) :
    (State.drawMeterOf p u (n, d)).meter n = (u.meter n).drawnFor p d := by
  rw [State.drawMeterOf, State.drawMeter_eq, State.meter_setMeter_same _ lo hi]

theorem State.tank_restore_absent (absent : ∀ d, (n, d) ∉ k.tanks) : (s.restore p k).tank n = s.tank n := by
  rw [State.tank_restore]
  exact read_foldl_absent (read := State.tank) (State.tank_drawTankOf_ne p) absent s

theorem State.meter_restore_absent (absent : ∀ d, (n, d) ∉ k.meters) : (s.restore p k).meter n = s.meter n := by
  rw [State.meter_restore, ← s.meter_drawTanks p k]
  exact read_foldl_absent (read := State.meter) (State.meter_drawMeterOf_ne p) absent _

theorem State.tank_restore_drawn {d : Nat} (lo : 1 ≤ n) (hi : n ≤ 16) (mem : (n, d) ∈ k.tanks)
    (only : ∀ e, (n, e) ∈ k.tanks → e = d) : (s.restore p k).tank n = (s.tank n).drawnFor p d := by
  rw [State.tank_restore]
  exact read_foldl_drawn (read := State.tank) (give := fun d x => TankSource.drawnFor x p d) (State.tank_drawTankOf_ne p)
    (State.tank_drawTankOf_same p lo hi) (fun _ _ => rfl) mem only s

theorem State.meter_restore_drawn {d : Nat} (lo : 1 ≤ n) (hi : n ≤ 8) (mem : (n, d) ∈ k.meters)
    (only : ∀ e, (n, e) ∈ k.meters → e = d) : (s.restore p k).meter n = (s.meter n).drawnFor p d := by
  rw [State.meter_restore, ← s.meter_drawTanks p k]
  refine read_foldl_drawn (read := State.meter) (give := fun d x => MeterSource.drawnFor x p d) (State.meter_drawMeterOf_ne p)
    (State.meter_drawMeterOf_same p lo hi) (fun d x => ?_) mem only _
  cases hold : x.stepHold <;> simp [MeterSource.drawnFor, hold]

theorem State.tank_owner_range (owned : (s.tank n).owner = some p) : 1 ≤ n ∧ n ≤ 16 := by
  obtain ⟨lo, hi⟩ := List.mem_range'_1.mp (List.mem_of_mem_filter ((s.mem_tanksOf p n).mpr owned))
  omega

theorem State.meter_owner_range (owned : (s.meter n).owner = some p) : 1 ≤ n ∧ n ≤ 8 := by
  obtain ⟨lo, hi⟩ := List.mem_range'_1.mp (List.mem_of_mem_filter ((s.mem_metersOf p n).mpr owned))
  omega

/-- A restore gives no source to another parcel. -/
theorem State.tank_restore_owner {q : ParcelNo} (ne : p ≠ q) (no : (s.tank n).owner ≠ some q) :
    ((s.restore p k).tank n).owner ≠ some q := by
  rw [State.tank_restore]
  refine List.foldlRecOn (motive := fun u : State => (u.tank n).owner ≠ some q) _ _ no fun u before x _ owned => ?_
  obtain ⟨lo, hi⟩ := State.tank_owner_range _ q owned
  by_cases is : n = x.1
  · rw [show x = (n, x.2) from Prod.ext is.symm rfl, State.tank_drawTankOf_same p lo hi] at owned
    exact ne (Option.some.inj owned)
  · rw [State.tank_drawTankOf_ne p u x n is] at owned
    exact before owned

theorem State.meter_restore_owner {q : ParcelNo} (ne : p ≠ q) (no : (s.meter n).owner ≠ some q) :
    ((s.restore p k).meter n).owner ≠ some q := by
  rw [← s.meter_drawTanks p k] at no
  rw [State.meter_restore]
  refine List.foldlRecOn (motive := fun u : State => (u.meter n).owner ≠ some q) _ _ no fun u before x _ owned => ?_
  obtain ⟨lo, hi⟩ := State.meter_owner_range _ q owned
  by_cases is : n = x.1
  · rw [show x = (n, x.2) from Prod.ext is.symm rfl, State.meter_drawMeterOf_same p lo hi] at owned
    exact ne (Option.some.inj owned)
  · rw [State.meter_drawMeterOf_ne p u x n is] at owned
    exact before owned

end

/-! ### One parcel's turn (R27, R28) -/

/-- Nothing but the parcels, the sources, RESTORE_LOST, the queue and the checkpoints of the store, the lamps and the links
differs. -/
def Recovers (s t : State) : Prop :=
  t = { s with
    parcels := t.parcels
    tanks := t.tanks
    meters := t.meters
    restoreLost := t.restoreLost
    store := t.store
    lines := t.lines
    ship := t.ship
    shore := t.shore
    survey := t.survey }
    ∧ t.lines = { s.lines with lamps := t.lines.lamps }
    ∧ t.store = { s.store with queue := t.store.queue, checkpoints := t.store.checkpoints }

theorem Recovers.refl (s : State) : Recovers s s := ⟨rfl, rfl, rfl⟩

theorem Recovers.trans {s t u : State} (h : Recovers s t) (g : Recovers t u) : Recovers s u := by
  obtain ⟨rest, lines, store⟩ := h
  obtain ⟨rest', lines', store'⟩ := g
  exact ⟨by rw [rest', rest], by rw [lines', lines], by rw [store', store]⟩

theorem Recovers.elsewhere {s t : State} {p : ParcelNo} (h : Recovers s t) (parcel : t.parcel p = s.parcel p)
    (lamp : t.lines.lamp p = s.lines.lamp p) (checkpoint : t.store.checkpoint p = s.store.checkpoint p)
    (lost : t.restoreLost.get p = s.restoreLost.get p) : Elsewhere p s t := by
  obtain ⟨rest, lines, -⟩ := h
  exact ⟨parcel, lamp, by rw [rest], checkpoint, lost, by rw [rest], by rw [rest], by rw [lines]⟩

section
variable (s : State) (p : ParcelNo) (k : Checkpoint)

/-- What a restore puts in the record. -/
def State.restoredRecord (s : State) (k : Checkpoint) : Parcel := Parcel.restored k s.lines.esd.level s.clock

theorem State.restore_eq : s.restore p k
    = ((s.drawRestored p k).changeParcel p (s.restoredRecord k) .restart).requestCheckpoint p := rfl

theorem State.drawRestored_recovers : Recovers s (s.drawRestored p k) := by
  rw [State.drawRestored_sources]
  exact ⟨rfl, rfl, rfl⟩

theorem OnlyParcel.recovers {p : ParcelNo} {s t : State} (h : OnlyParcel p s t) (lines : t.lines = { s.lines with lamps := t.lines.lamps }) :
    Recovers s t := by
  refine ⟨?_, lines, by rw [h.store]⟩
  have rest := h.1.1
  rw [h.engine] at rest
  rw [rest]

theorem State.requestCheckpoint_recovers : Recovers s (s.requestCheckpoint p) := by
  simp only [State.requestCheckpoint]
  split
  · exact ⟨rfl, rfl, rfl⟩
  · exact ⟨rfl, rfl, rfl⟩

theorem State.restore_recovers : Recovers s (s.restore p k) :=
  ((s.drawRestored_recovers p k).trans
    ((State.changeParcel_onlyParcel _ p (s.restoredRecord k) .restart).recovers (State.changeParcel_lines _ _ _ _))).trans
    (State.requestCheckpoint_recovers _ p)

theorem State.restore_requested : CheckpointRequested p s (s.restore p k) :=
  (State.requestCheckpoint_requested _ p).of_store (by simp)

theorem State.drawRestored_lines : (s.drawRestored p k).lines = s.lines := by rw [State.drawRestored_sources]

theorem State.drawRestored_clock : (s.drawRestored p k).clock = s.clock := by rw [State.drawRestored_sources]

theorem State.drawRestored_link (m : Link) : (s.drawRestored p k).link m = s.link m := by
  rw [State.drawRestored_sources]
  cases m <;> rfl

theorem State.restore_lampFollows : LampFollows p s (s.restore p k) := by
  have follows := ((s.drawRestored p k).changeParcel_lampFollows p (s.restoredRecord k) .restart).aside
    (State.requestCheckpoint_aside _ p)
  unfold LampFollows at *
  rwa [State.drawRestored_lines, show (s.drawRestored p k).msec = s.msec by rw [State.drawRestored_sources]] at follows

theorem State.restore_lamp_ne {q : ParcelNo} (ne : q ≠ p) : (s.restore p k).lines.lamp q = s.lines.lamp q := by
  rw [State.restore_eq, (State.requestCheckpoint_aside _ p).lines, State.changeParcel_lamp_ne _ ne, State.drawRestored_lines]

theorem State.link_restore (m : Link) : (s.restore p k).link m
    = (s.link m).placeAll s.clock (stateNotices p (s.parcel p) (s.restoredRecord k) .restart) := by
  rw [State.restore_eq, (State.requestCheckpoint_aside _ p).link, State.link_changeParcel, State.drawRestored_link,
    State.drawRestored_clock, State.drawRestored_parcel]

theorem State.restore_lost : (s.restore p k).restoreLost = s.restoreLost := by
  rw [State.restore_eq, State.requestCheckpoint_restoreLost, State.changeParcel_restoreLost, State.drawRestored_sources]

theorem State.dropCheckpoint_recovers : Recovers s (s.dropCheckpoint p) := ⟨rfl, rfl, rfl⟩

theorem State.recover_recovers : Recovers s (State.recover p s) := by
  simp only [State.recover]
  split
  · exact s.restore_recovers p _
  · exact s.dropCheckpoint_recovers p
  · exact .refl s

theorem State.recover_elsewhere {q : ParcelNo} (ne : q ≠ p) : Elsewhere q s (State.recover p s) := by
  refine (s.recover_recovers p).elsewhere ((s.recover_others p).parcel q ne) ?_ ((s.recover_others p).checkpoint q ne) ?_
  all_goals
    simp only [State.recover]
    split
  · exact s.restore_lamp_ne p _ ne
  · rfl
  · rfl
  · rw [s.restore_lost]
  · rw [State.dropCheckpoint, State.setRestoreLost_get, if_neg ne, State.setStore_restoreLost]
  · rfl

end

/-! ### All parcels' turns -/

/-- The part as the parcels' turns find it, the pass made (R134, R186). -/
def State.passed (s : State) : State := s.setStore s.store.started

/-- The part once every parcel has had its turn. -/
def State.recovered (s : State) : State := s.passed.forParcels State.recover

section
variable (s : State) (p : ParcelNo)

theorem State.recovers : Recovers s.passed s.recovered :=
  forParcels_related s.passed .refl .trans fun p u => u.recover_recovers p

theorem State.recover_before : Elsewhere p s.passed (s.passed.turn State.recover p.val) :=
  turn_related s.passed (.refl p) .trans fun _ ne u => u.recover_elsewhere _ (Ne.symm ne)

theorem State.recover_after : Elsewhere p (State.recover p (s.passed.turn State.recover p.val)) s.recovered :=
  forParcels_related_after s.passed (.refl p) .trans fun _ ne u => u.recover_elsewhere _ (Ne.symm ne)

theorem State.turn_checkpoint : (s.passed.turn State.recover p.val).store.checkpoint p = (s.store.checkpoint p).verified :=
  (s.recover_before p).checkpoint.trans (s.store.checkpoint_pass p)

theorem State.turn_restorable : (s.passed.turn State.recover p.val).store.restorable p = s.store.restorable p := by
  rw [← s.store.restorable_pass]
  exact Store.restorable_congr ((s.turn_checkpoint p).trans (s.store.checkpoint_pass p).symm)

theorem State.turn_checked : (s.passed.turn State.recover p.val).store.checked p := by
  unfold Store.checked
  rw [s.turn_checkpoint]
  exact CheckpointItem.verified_checked _

/-! A parcel's turn, by its checkpoint before the pass. -/

variable {s p}

theorem State.recover_restores {k : Checkpoint} (is : s.store.restorable p = some k) :
    State.recover p (s.passed.turn State.recover p.val) = (s.passed.turn State.recover p.val).restore p k := by
  rw [State.recover_eq _ p (s.turn_checked p), s.turn_restorable, is]

theorem State.recover_drops (none_ : s.store.restorable p = none) (dropped : s.store.dropped p) :
    State.recover p (s.passed.turn State.recover p.val) = (s.passed.turn State.recover p.val).dropCheckpoint p := by
  rw [State.recover_eq _ p (s.turn_checked p), s.turn_restorable, none_]
  exact if_pos (by rw [s.turn_checkpoint]; exact (s.store.dropped_iff p).mp dropped)

theorem State.recover_leaves (none_ : s.store.restorable p = none) (kept : ¬s.store.dropped p) :
    State.recover p (s.passed.turn State.recover p.val) = s.passed.turn State.recover p.val := by
  rw [State.recover_eq _ p (s.turn_checked p), s.turn_restorable, none_]
  exact if_neg (by rw [s.turn_checkpoint]; exact fun invalid => kept ((s.store.dropped_iff p).mpr invalid))

theorem Store.restorable_of_dropped {st : Store} (dropped : st.dropped p) : st.restorable p = none := by
  refine if_neg fun passes => ?_
  obtain ⟨valid, -⟩ := (CheckpointItem.passes_iff _).mp passes
  exact dropped.elim (fun invalid => absurd (valid.symm.trans invalid) nofun) fun ⟨_, fails⟩ => absurd (passes.symm.trans fails) nofun

theorem Store.restorable_of_empty {st : Store} (empty : (st.checkpoint p).status = .empty) :
    st.restorable p = none ∧ ¬st.dropped p := by
  refine ⟨if_neg fun passes => ?_, fun dropped => ?_⟩
  · exact absurd (empty.symm.trans ((CheckpointItem.passes_iff _).mp passes).1) nofun
  · exact dropped.elim (fun invalid => absurd (empty.symm.trans invalid) nofun) fun ⟨valid, _⟩ =>
      absurd (empty.symm.trans valid) nofun

theorem Store.kept_of_restorable {st : Store} {k : Checkpoint} (is : st.restorable p = some k) : ¬st.dropped p := fun dropped =>
  absurd (is.symm.trans (Store.restorable_of_dropped dropped)) nofun

/-! What its turn and those of the others make of a parcel. -/

/-- A restored parcel (R28). -/
theorem State.recovered_restores {k : Checkpoint} (is : s.store.restorable p = some k) :
    s.recovered.parcel p = s.restoredRecord k ∧ s.recovered.restoreLost.get p = s.restoreLost.get p
      ∧ s.recovered.store.checkpoint p = s.store.checkpoint p ∧ LampFollows p s s.recovered := by
  have before := s.recover_before p
  have after := s.recover_after p
  rw [State.recover_restores is] at after
  have record := (s.passed.turn State.recover p.val).restore_parcel p k p
  rw [if_pos rfl, before.esd, before.clock] at record
  refine ⟨after.parcel.trans record, ?_, ?_, ?_⟩
  · rw [after.lost, State.restore_lost]
    exact before.lost
  · rw [after.checkpoint, State.restore_checkpoint, s.turn_checkpoint]
    exact Store.verified_of_kept (Store.kept_of_restorable is)
  · have follows : LampFollows p s.passed s.recovered := (State.restore_lampFollows _ p k).of_elsewhere before after
    exact follows

theorem State.recovered_drops (dropped : s.store.dropped p) :
    s.recovered.parcel p = s.parcel p ∧ s.recovered.restoreLost.get p = true
      ∧ s.recovered.store.checkpoint p = ⟨.empty, none, 0, 0⟩ ∧ s.recovered.lines.lamp p = s.lines.lamp p := by
  have before := s.recover_before p
  have after := s.recover_after p
  rw [State.recover_drops (Store.restorable_of_dropped dropped) dropped] at after
  refine ⟨after.parcel.trans before.parcel, ?_, ?_, after.lamp.trans before.lamp⟩
  · rw [after.lost, State.dropCheckpoint, State.setRestoreLost_get, if_pos rfl]
  · rw [after.checkpoint]
    exact Store.checkpoint_setCheckpoint_same _ p _

theorem State.recovered_leaves (none_ : s.store.restorable p = none) (kept : ¬s.store.dropped p) : Elsewhere p s.passed s.recovered := by
  have after := s.recover_after p
  rw [State.recover_leaves none_ kept] at after
  exact (s.recover_before p).trans after

variable (s) in
/-- The notices of the restores, ascending (R4). -/
theorem State.recovered_links (m : Link) : s.recovered.link m = (s.link m).placeAll s.clock (allParcels.flatMap fun p =>
    if (s.store.restorable p).isSome then stateNotices p (s.parcel p) (s.recovered.parcel p) .restart else []) := by
  refine (forParcels_links (s := s.passed) (notices := fun p => if (s.store.restorable p).isSome then
    stateNotices p (s.parcel p) (s.recovered.parcel p) .restart else []) (fun p m => ?_) m).trans ?_
  · cases is : s.store.restorable p with
    | some k =>
      have before := s.recover_before p
      rw [State.recover_restores is, State.link_restore, (State.recovered_restores is).1, before.clock, before.parcel,
        State.restoredRecord, before.clock, before.esd]
      rfl
    | none =>
      by_cases dropped : s.store.dropped p
      · rw [State.recover_drops is dropped]
        rfl
      · rw [State.recover_leaves is dropped]
        rfl
  · rfl

end

/-! ### The sources of all turns (R56) -/

section
variable {s : State} {f : ParcelNo → State → State} {p : ParcelNo} {α : Type} {read : State → α}

theorem forParcels_read (same : ∀ q, read (f q (s.turn f q.val)) = read (s.turn f q.val)) : read (s.forParcels f) = read s :=
  forParcels_induct (P := fun _ u => read u = read s) rfl fun q before => (same q).trans before

theorem turn_induct {P : Nat → State → Prop} (zero : P 0 s)
    (turn : ∀ q : ParcelNo, P q.val (s.turn f q.val) → P (q.val + 1) (f q (s.turn f q.val))) {n : Nat} (le : n ≤ 4) :
    P n (s.turn f n) := by
  induction n with
  | zero => exact zero
  | succ n ih =>
    have step := turn ⟨n, le⟩ (ih (by omega))
    rwa [← s.turn_succ f] at step

/-- What only one parcel's turn changes is until then as at first, and afterwards as that turn left it. -/
theorem turn_read (others : ∀ q, q ≠ p → read (f q (s.turn f q.val)) = read (s.turn f q.val)) :
    read (s.turn f p.val) = read s ∧ read (s.forParcels f) = read (f p (s.turn f p.val)) := by
  have all {n : Nat} (le : n ≤ 4) : (n ≤ p.val → read (s.turn f n) = read s)
      ∧ (p.val < n → read (s.turn f n) = read (f p (s.turn f p.val))) := by
    refine turn_induct (P := fun k u => (k ≤ p.val → read u = read s) ∧ (p.val < k → read u = read (f p (s.turn f p.val))))
      ⟨fun _ => rfl, fun no => absurd no (Nat.not_lt_zero _)⟩ (fun q ⟨before, after⟩ => ?_) le
    by_cases is : q = p
    · subst is
      exact ⟨fun no => absurd no (by omega), fun _ => rfl⟩
    · have ne : q.val ≠ p.val := fun e => is (Fin.ext e)
      exact ⟨fun le => (others q is).trans (before (by omega)), fun lt => (others q is).trans (after (by omega))⟩
  exact ⟨(all (by omega)).1 le_rfl, (all le_rfl).2 p.isLt⟩

end

section
variable {s : State} {p : ParcelNo} {n : Nat}

/-- A turn leaves what its restore leaves. -/
theorem State.recover_read {α : Type} {read : State → α}
    (restores : ∀ c u, s.store.restorable p = some c → read (u.restore p c) = read u)
    (drops : ∀ u, read (u.dropCheckpoint p) = read u) :
    read (State.recover p (s.passed.turn State.recover p.val)) = read (s.passed.turn State.recover p.val) := by
  cases is : s.store.restorable p with
  | some c => rw [State.recover_restores is, restores c _ is]
  | none =>
    by_cases dropped : s.store.dropped p
    · rw [State.recover_drops is dropped, drops]
    · rw [State.recover_leaves is dropped]

theorem State.recover_tank_absent (absent : ∀ c d, s.store.restorable p = some c → (n, d) ∉ c.tanks) :
    (State.recover p (s.passed.turn State.recover p.val)).tank n = (s.passed.turn State.recover p.val).tank n :=
  State.recover_read (read := fun u => u.tank n) (fun c u is => u.tank_restore_absent p fun d => absent c d is) fun _ => rfl

theorem State.recover_meter_absent (absent : ∀ c d, s.store.restorable p = some c → (n, d) ∉ c.meters) :
    (State.recover p (s.passed.turn State.recover p.val)).meter n = (s.passed.turn State.recover p.val).meter n :=
  State.recover_read (read := fun u => u.meter n) (fun c u is => u.meter_restore_absent p fun d => absent c d is) fun _ => rfl

theorem State.recovered_tank_absent (absent : ∀ p c d, s.store.restorable p = some c → (n, d) ∉ c.tanks) :
    s.recovered.tank n = s.tank n :=
  forParcels_read (s := s.passed) (read := fun u => u.tank n) fun q => State.recover_tank_absent fun c d => absent q c d

theorem State.recovered_meter_absent (absent : ∀ p c d, s.store.restorable p = some c → (n, d) ∉ c.meters) :
    s.recovered.meter n = s.meter n :=
  forParcels_read (s := s.passed) (read := fun u => u.meter n) fun q => State.recover_meter_absent fun c d => absent q c d

theorem State.recovered_tank_drawn {k : Checkpoint} {d : Nat} (is : s.store.restorable p = some k) (mem : (n, d) ∈ k.tanks)
    (lo : 1 ≤ n) (hi : n ≤ 16) (only : ∀ q c e, s.store.restorable q = some c → (n, e) ∈ c.tanks → q = p ∧ e = d) :
    s.recovered.tank n = (s.tank n).drawnFor p d := by
  obtain ⟨before, after⟩ := turn_read (s := s.passed) (f := State.recover) (p := p) (read := fun u => u.tank n) fun q ne =>
    State.recover_tank_absent fun c e of is => ne (only q c e of is).1
  rw [State.recover_restores is, State.tank_restore_drawn _ p lo hi mem fun e is' => (only p k e is is').2, before] at after
  exact after

theorem State.recovered_meter_drawn {k : Checkpoint} {d : Nat} (is : s.store.restorable p = some k) (mem : (n, d) ∈ k.meters)
    (lo : 1 ≤ n) (hi : n ≤ 8) (only : ∀ q c e, s.store.restorable q = some c → (n, e) ∈ c.meters → q = p ∧ e = d) :
    s.recovered.meter n = (s.meter n).drawnFor p d := by
  obtain ⟨before, after⟩ := turn_read (s := s.passed) (f := State.recover) (p := p) (read := fun u => u.meter n) fun q ne =>
    State.recover_meter_absent fun c e of is => ne (only q c e of is).1
  rw [State.recover_restores is, State.meter_restore_drawn _ p lo hi mem fun e is' => (only p k e is is').2, before] at after
  exact after

/-! ### The checkpoints requested (R25, R28) -/

theorem State.recover_tank_owner (u : State) {q : ParcelNo} (ne : q ≠ p) (no : (u.tank n).owner ≠ some p) :
    ((State.recover q u).tank n).owner ≠ some p := by
  simp only [State.recover]
  split
  · exact u.tank_restore_owner q ne no
  · exact no
  · exact no

theorem State.recover_meter_owner (u : State) {q : ParcelNo} (ne : q ≠ p) (no : (u.meter n).owner ≠ some p) :
    ((State.recover q u).meter n).owner ≠ some p := by
  simp only [State.recover]
  split
  · exact u.meter_restore_owner q ne no
  · exact no
  · exact no

/-- The list of a parcel's tanks with their depths, of states that differ at most in tanks it owns in neither. -/
theorem tanksOf_depths_congr {s t : State} (same : ∀ n, t.tank n = s.tank n
      ∨ ((t.tank n).owner ≠ some p ∧ (s.tank n).owner ≠ some p)) :
    (t.tanksOf p).map (fun n => (n, (t.tank n).depth)) = (s.tanksOf p).map (fun n => (n, (s.tank n).depth)) := by
  have owned : t.tanksOf p = s.tanksOf p := List.filter_congr fun n _ => (same n).elim (fun is => by rw [is]) fun ⟨no, no'⟩ => by
    rw [decide_eq_false no, decide_eq_false no']
  rw [owned]
  refine List.map_congr_left fun n mem => ?_
  rw [(same n).resolve_right fun ⟨_, no⟩ => no ((s.mem_tanksOf p n).mp mem)]

theorem metersOf_depths_congr {s t : State} (same : ∀ n, t.meter n = s.meter n
      ∨ ((t.meter n).owner ≠ some p ∧ (s.meter n).owner ≠ some p)) :
    (t.metersOf p).map (fun n => (n, (t.meter n).depth)) = (s.metersOf p).map (fun n => (n, (s.meter n).depth)) := by
  have owned : t.metersOf p = s.metersOf p := List.filter_congr fun n _ => (same n).elim (fun is => by rw [is]) fun ⟨no, no'⟩ => by
    rw [decide_eq_false no, decide_eq_false no']
  rw [owned]
  refine List.map_congr_left fun n mem => ?_
  rw [(same n).resolve_right fun ⟨_, no⟩ => no ((s.mem_metersOf p n).mp mem)]

/-- The content of the checkpoint write that a parcel's restore requests. -/
def State.restoredCopy (s : State) (p : ParcelNo) : Checkpoint :=
  (State.recover p (s.passed.turn State.recover p.val)).checkpointCopy p

theorem State.restoredCopy_eq (s : State) (p : ParcelNo) : s.restoredCopy p = { s.recovered.checkpointCopy p with
    tanks := (s.restoredCopy p).tanks, meters := (s.restoredCopy p).meters } := by
  unfold State.restoredCopy State.checkpointCopy
  rw [(s.recover_after p).parcel]

/-- Where the restores of the others draw no tank of the parcel, the content has its tanks as they stand at the end. -/
theorem State.restoredCopy_tanks {k : Checkpoint} (is : s.store.restorable p = some k)
    (apart : ∀ q c n d, q ≠ p → s.store.restorable q = some c → (n, d) ∈ c.tanks →
      (s.tank n).owner ≠ some p ∧ ∀ e, (n, e) ∉ k.tanks) : (s.restoredCopy p).tanks = (s.recovered.checkpointCopy p).tanks := by
  refine (tanksOf_depths_congr fun n => ?_).symm
  by_cases drawn : ∃ q c d, q ≠ p ∧ s.store.restorable q = some c ∧ (n, d) ∈ c.tanks
  · obtain ⟨q, c, d, ne, of, mem⟩ := drawn
    obtain ⟨no, absent⟩ := apart q c n d ne of mem
    have found := turn_related (R := fun u v => (u.tank n).owner ≠ some p → (v.tank n).owner ≠ some p) s.passed (p := p)
      (fun _ => id) (fun h g => g ∘ h) (fun q ne u => u.recover_tank_owner ne) no
    have left : ((State.recover p (s.passed.turn State.recover p.val)).tank n).owner ≠ some p := by
      rwa [State.recover_restores is, State.tank_restore_absent _ p absent]
    exact .inr ⟨forParcels_related_after (R := fun u v => (u.tank n).owner ≠ some p → (v.tank n).owner ≠ some p) s.passed
      (p := p) (fun _ => id) (fun h g => g ∘ h) (fun q ne u => u.recover_tank_owner ne) left, left⟩
  · exact .inl (turn_read (s := s.passed) (read := fun u => u.tank n) fun q ne =>
      State.recover_tank_absent fun c d of mem => drawn ⟨q, c, d, ne, of, mem⟩).2

theorem State.restoredCopy_meters {k : Checkpoint} (is : s.store.restorable p = some k)
    (apart : ∀ q c n d, q ≠ p → s.store.restorable q = some c → (n, d) ∈ c.meters →
      (s.meter n).owner ≠ some p ∧ ∀ e, (n, e) ∉ k.meters) :
    (s.restoredCopy p).meters = (s.recovered.checkpointCopy p).meters := by
  refine (metersOf_depths_congr fun n => ?_).symm
  by_cases drawn : ∃ q c d, q ≠ p ∧ s.store.restorable q = some c ∧ (n, d) ∈ c.meters
  · obtain ⟨q, c, d, ne, of, mem⟩ := drawn
    obtain ⟨no, absent⟩ := apart q c n d ne of mem
    have found := turn_related (R := fun u v => (u.meter n).owner ≠ some p → (v.meter n).owner ≠ some p) s.passed (p := p)
      (fun _ => id) (fun h g => g ∘ h) (fun q ne u => u.recover_meter_owner ne) no
    have left : ((State.recover p (s.passed.turn State.recover p.val)).meter n).owner ≠ some p := by
      rwa [State.recover_restores is, State.meter_restore_absent _ p absent]
    exact .inr ⟨forParcels_related_after (R := fun u v => (u.meter n).owner ≠ some p → (v.meter n).owner ≠ some p) s.passed
      (p := p) (fun _ => id) (fun h g => g ∘ h) (fun q ne u => u.recover_meter_owner ne) left, left⟩
  · exact .inl (turn_read (s := s.passed) (read := fun u => u.meter n) fun q ne =>
      State.recover_meter_absent fun c d of mem => drawn ⟨q, c, d, ne, of, mem⟩).2

theorem State.recovered_queue (s : State) : CheckpointsPlaced (fun p => (s.store.restorable p).isSome) s.restoredCopy
    s.store.queue s.recovered.store.queue := by
  refine forParcels_queue (s := s.passed) (fun p asked => ?_) fun p quiet => ?_
  · obtain ⟨k, is⟩ := Option.isSome_iff_exists.mp asked
    rw [State.restoredCopy, State.recover_restores is]
    exact (State.restore_requested _ p k).queue
  · exact State.recover_read (read := fun u => u.store.queue) (fun c u is => absurd quiet (by simp [is])) fun _ => rfl

end

/-! ### The end of start-up verification (R160, R186) -/

theorem PassMade.congr {a b c : Store} (h : PassMade a b) (items : c.items = b.items) (records : c.records = b.records) :
    PassMade a c := by
  obtain ⟨item, kept⟩ := h
  exact ⟨fun id => by rw [← item, Store.item, items, ← Store.item], records.trans kept⟩

theorem Store.sequenceAfter_nil {st : Store} (h : st.records = []) : st.sequenceAfter = 1 := by
  simp [Store.sequenceAfter, h]

theorem Store.sequenceAfter_snoc {st : Store} {older : List StoredRecord} {r : StoredRecord} (h : st.records = older ++ [r]) :
    st.sequenceAfter = if r.record.seq < 65535 then r.record.seq + 1 else 1 := by
  simp only [Store.sequenceAfter, h, List.getLast?_append, List.getLast?_singleton, Option.some_or, seqAfter]
  split
  next high => rw [if_neg (Nat.not_lt.mpr high)]
  next low => rw [if_pos (Nat.not_le.mp low)]

/-- The store that the recovery leaves: the pass, no verification, the next sequence number of the records that remain. -/
theorem State.recovered_store (s : State) : s.recovered.store.verify = .idle ∧ s.recovered.store.items = s.store.pass.items
    ∧ s.recovered.store.records = s.store.pass.records ∧ s.recovered.store.writer = s.store.writer
    ∧ s.recovered.store.nextSeq = s.store.pass.sequenceAfter := by
  obtain ⟨-, -, store⟩ := s.recovers
  rw [store]
  exact ⟨rfl, rfl, rfl, rfl, rfl⟩

/-- Settles O9: the pass, then each checkpoint by what it is, then both factors. -/
theorem startupVerificationRestoresTheParcels : Obligations.StartupVerificationRestoresTheParcels := by
  unfold Obligations.StartupVerificationRestoresTheParcels
  intro s up
  have is : exec .startupVerificationComplete s = .next (((s.recovered.computeVef .load).computeVef .discharge).transmitAll) :=
    congrArg Host.Outcome.next (s.completeStartup_eq up)
  have restores (p : ParcelNo) (k : Checkpoint) := State.recovered_restores (s := s) (p := p) (k := k)
  have drops (p : ParcelNo) := State.recovered_drops (s := s) (p := p)
  have leaves (p : ParcelNo) := State.recovered_leaves (s := s) (p := p)
  have queue := s.recovered_queue
  have copies (p : ParcelNo) (k : Checkpoint) (is : s.store.restorable p = some k) :=
    And.intro (s.restoredCopy_eq p) (And.intro (State.restoredCopy_tanks is) (State.restoredCopy_meters is))
  have tank (p : ParcelNo) (k : Checkpoint) (n d : Nat) := State.recovered_tank_drawn (s := s) (p := p) (k := k) (n := n) (d := d)
  have meter (p : ParcelNo) (k : Checkpoint) (n d : Nat) := State.recovered_meter_drawn (s := s) (p := p) (k := k) (n := n) (d := d)
  have otherTank (n : Nat) := State.recovered_tank_absent (s := s) (n := n)
  have otherMeter (n : Nat) := State.recovered_meter_absent (s := s) (n := n)
  have links := s.recovered_links
  obtain ⟨rest, lines, -⟩ := s.recovers
  obtain ⟨idle, items, records, writer, nextSeq⟩ := s.recovered_store
  generalize s.recovered = u at *
  generalize s.restoredCopy = copy at *
  refine ⟨_, is, ?verify, ?pass, ?writer, ?first, ?next, restores, ⟨copy, queue, copies⟩, drops, ?empty, tank, meter, otherTank,
    otherMeter, rfl, rfl, posted_transmitAll links, ?rest, lines⟩
  case verify => exact idle
  case pass => exact s.store.pass_made.congr items records
  case writer => exact writer
  case first => exact fun none_ => nextSeq.trans (Store.sequenceAfter_nil (records.symm.trans none_))
  case next => exact fun older r last => nextSeq.trans (Store.sequenceAfter_snoc (records.symm.trans last))
  case empty =>
    intro p empty
    obtain ⟨none_, kept⟩ := Store.restorable_of_empty empty
    have same := leaves p none_ kept
    refine ⟨same.parcel, same.lost, ?_, same.lamp⟩
    exact (same.checkpoint.trans (s.store.checkpoint_pass p)).trans (Store.verified_of_kept kept)
  case rest =>
    rw [rest]
    rfl

end Sys2Proof.Machine
end
